-- ==== Sys2Proof/Word.lean ====
section
/-! DEFINITION. The plain words of the 860: bytes, checks and the numbers of its parts (00_scope, "Numbering"). -/

namespace Sys2Proof

/-- A byte of a frame, a page or a sector. -/
abbrev Byte := BitVec 8

/-- A 16-bit check (R3). -/
abbrev Check := BitVec 16

/-- A desk, 0 to 7. -/
abbrev Desk := Fin 8

/-- A drive, 0 to 3. -/
abbrev DriveNo := Fin 4

/-- A handle of a desk, 0 and 1. -/
abbrev HandleNo := Fin 2

/-- A watch place of a desk, 0 to 3. -/
abbrev WatchNo := Fin 4

/-- A story slot of a volume, 0 to 231. -/
abbrev SlotNo := Fin 232

/-- A catalogue sector of a volume, 0 to 28. -/
abbrev CatNo := Fin 29

/-- A page of the pool, 0 to 63. -/
abbrev PageNo := Fin 64

/-- The characters of a slug or a volume name, without padding. -/
abbrev Chars := List Byte

end Sys2Proof
end

