-- ==== Sys2Proof/Syntax.lean ====
section
/-! DEFINITION. The commands of the 860: one constructor for each row of the table. A request row carries the desk and
the field bytes of an accepted frame, that is everything of the body after the kind byte (R168). -/

namespace Sys2Proof

inductive Instr where
  /-- IDLE, kind 0x01 (R179). -/
  | idle (desk : Desk) (fields : List Byte)
  /-- STATUS, kind 0x02 (R180). -/
  | status (desk : Desk) (fields : List Byte)
  /-- CANCEL, kind 0x0F (R172). -/
  | cancel (desk : Desk) (fields : List Byte)
  /-- LIST, kind 0x10 (R118). -/
  | list (desk : Desk) (fields : List Byte)
  /-- LIST-ON, kind 0x11 (R119). -/
  | listOn (desk : Desk) (fields : List Byte)
  /-- OPEN-READ, kind 0x20 (R123). -/
  | openRead (desk : Desk) (fields : List Byte)
  /-- OPEN-WRITE, kind 0x21 (R132). -/
  | openWrite (desk : Desk) (fields : List Byte)
  /-- PUT, kind 0x22 (R135). -/
  | put (desk : Desk) (fields : List Byte)
  /-- PUT-ON, kind 0x23 (R137). -/
  | putOn (desk : Desk) (fields : List Byte)
  /-- GET, kind 0x24 (R126). -/
  | get (desk : Desk) (fields : List Byte)
  /-- GET-ON, kind 0x25 (R127). -/
  | getOn (desk : Desk) (fields : List Byte)
  /-- FILE, kind 0x26 (R142). -/
  | file (desk : Desk) (fields : List Byte)
  /-- DROP, kind 0x27 (R143). -/
  | drop (desk : Desk) (fields : List Byte)
  /-- CLOSE, kind 0x28 (R131). -/
  | close (desk : Desk) (fields : List Byte)
  /-- HOLD, kind 0x30 (R107). -/
  | hold (desk : Desk) (fields : List Byte)
  /-- RELEASE, kind 0x31 (R108). -/
  | release (desk : Desk) (fields : List Byte)
  /-- SPIKE, kind 0x32 (R117). -/
  | spike (desk : Desk) (fields : List Byte)
  /-- WATCH, kind 0x40 (R154). -/
  | watch (desk : Desk) (fields : List Byte)
  /-- UNWATCH, kind 0x41 (R155). -/
  | unwatch (desk : Desk) (fields : List Byte)
  /-- SUBSCRIBE, kind 0x42 (R156). -/
  | subscribe (desk : Desk) (fields : List Byte)
  /-- TAKE-NOTICE, kind 0x43 (R159). -/
  | takeNotice (desk : Desk) (fields : List Byte)
  /-- DRIVE-SET, kind 0x60 (R183). -/
  | driveSet (desk : Desk) (fields : List Byte)
  /-- DESK-SET, kind 0x61 (R184). -/
  | deskSet (desk : Desk) (fields : List Byte)
  /-- MOUNT, kind 0x62 (R185). -/
  | mount (desk : Desk) (fields : List Byte)
  /-- UNMOUNT, kind 0x63 (R186). -/
  | unmount (desk : Desk) (fields : List Byte)
  /-- FORMAT, kind 0x64 (R189). -/
  | format (desk : Desk) (fields : List Byte)
  /-- BREAK-HOLD, kind 0x65 (R188). -/
  | breakHold (desk : Desk) (fields : List Byte)
  /-- TALLY, kind 0x66 (R192). -/
  | tally (desk : Desk) (fields : List Byte)
  /-- RESTART, kind 0x67 (R193). -/
  | restart (desk : Desk) (fields : List Byte)
  /-- An accepted frame whose kind byte is not a defined kind (R171). -/
  | illegalKind (desk : Desk) (kind : Byte) (fields : List Byte)
  /-- A character with a marking stop bit (R160, R163). -/
  | byteReceived (desk : Desk) (b : Byte)
  /-- A character with a spacing stop bit (R160, R163). -/
  | framingError (desk : Desk)
  /-- The inter-byte timer reaches 200 ticks (R164). -/
  | interByteTimeout (desk : Desk)
  /-- The break timer reaches 1,000 ticks (R166). -/
  | lineBreak (desk : Desk)
  /-- The first marking sample in BREAK (R166). -/
  | lineBreakEnd (desk : Desk)
  /-- The last stop bit of the reply being sent (R167). -/
  | replySent (desk : Desk)
  /-- READY-d falls (R22, R23). -/
  | readyFalling (drive : DriveNo)
  /-- READY-d rises (R22, R24). -/
  | readyRising (drive : DriveNo)
  /-- WRITE-PROTECT-d changes to the given level, active or not (R22, R25). -/
  | writeProtectChange (drive : DriveNo) (active : Bool)
  /-- A pulse on INDEX-d (R27). -/
  | indexPulse (drive : DriveNo)
  /-- The elapsed count reaches 3,666 ticks (R29). -/
  | noIndexTimeout (drive : DriveNo)
  /-- The step interval of a seek pulse runs out; TRACK-ZERO-d then stands at the given level (R31). -/
  | stepIntervalExpiry (drive : DriveNo) (trackZero : Bool)
  /-- The step interval of a recalibration pulse runs out; TRACK-ZERO-d then stands at the given level (R32). -/
  | recalibrationStepExpiry (drive : DriveNo) (trackZero : Bool)
  /-- The settle time runs out (R31, R32). -/
  | settleExpiry (drive : DriveNo)
  /-- The head-load time runs out (R34). -/
  | headLoadExpiry (drive : DriveNo)
  /-- An ID field passes under the head of the granted drive, its two check bytes in the order recorded (R2, R6, R67). -/
  | idFieldRead (cylinder head sector : Byte) (check : Byte × Byte)
  /-- A data field passes under the head of the granted drive, its two check bytes in the order recorded (R2, R6, R69). -/
  | dataFieldRead (data : Vector Byte 512) (check : Byte × Byte)
  /-- The recording of a data field ends (R71). -/
  | dataFieldWritten
  /-- POWER-GOOD rises; bit d of each word is the level of that line of drive d then (R194, R20). -/
  | powerGoodRise (ready writeProtect trackZero : BitVec 4)
  /-- POWER-GOOD falls (R194). -/
  | powerGoodFall
  deriving DecidableEq, Repr

end Sys2Proof
end

