-- ==== Sys2Proof/Config.lean ====
section
/-! DEFINITION. The constants the spec fixes for every 860. The spec leaves no value open, so there is no free value here. -/

namespace Sys2Proof.Config

/-- Bytes of a sector and of a page (R5, R83). -/
def sectorBytes : Nat := 512

/-- Sectors of a track and rotational slots (R5, R7). -/
def sectorsPerTrack : Nat := 15

/-- Cylinders of a diskette (R5). -/
def cylinders : Nat := 77

/-- Tracks FORMAT records (R5, R190). -/
def tracks : Nat := 154

/-- Logical data sectors of a volume (R9). -/
def dataSectors : Nat := 2280

/-- The longest story (R16). -/
def maxStory : Nat := 61440

/-- The most extents of a story (R16). -/
def maxExtents : Nat := 8

/-- The most holds of a desk (R106). -/
def maxHolds : Nat := 8

/-- The most notices of a queue (R158). -/
def maxNotices : Nat := 8

/-- General pages of the pool; the others are system pages (R83). -/
def generalPages : Nat := 56

/-- Read-ahead is granted only with more free general pages than this (R91). -/
def readAheadSlack : Nat := 8

/-- Shortest and longest valid capture (R28). -/
def minPeriod : Nat := 1500
def maxPeriod : Nat := 1833

/-- The nominal period (R1, R24). -/
def nominalPeriod : Nat := 1667

/-- Elapsed ticks without an index pulse that are a speed fault (R29). -/
def noIndexTicks : Nat := 3666

/-- Where the elapsed count stops (R27). -/
def maxElapsed : Nat := 65535

/-- Step pulses after which a recalibration fails (R32). -/
def recalSteps : Nat := 80

/-- Ticks of a gap that end a frame (R164). -/
def interByteTicks : Nat := 200

/-- Ticks of spacing that are a line break (R166). -/
def breakTicks : Nat := 1000

/-- Replies queued at which a sound frame is an overrun (R165). -/
def overrunReplies : Nat := 4

/-- The longest run under one grant (R62). -/
def maxRun : Nat := 15

/-- A slot that begins sooner than this after positioning is reckoned missed (R53). -/
def guardTicks : Nat := 3

/-- Entries of a volume's bad list (R11, R190). -/
def maxBad : Nat := 16

/-- Suspects at which the list is full (R103). -/
def fullSuspects : Nat := 16

/-- Where a tally saturates (R82). -/
def maxTally : Nat := 65535

/-- The first byte of a frame (R162). -/
def lead : Byte := 0xA7

end Sys2Proof.Config
end

