-- ==== Sys2Proof/Machine/State.lean ====
section
/-! DEFINITION. The state of the 860 as plain data, its stops, and the state after power-on. -/

namespace Sys2Proof.Machine

/-- The 860 has no behaviour that stops it: what it cannot do is a reply, a drive state or an event it ignores. So no
meaning raises a fault, and the type has no constructor. -/
inductive Fault where
  deriving DecidableEq, Repr

inductive Refusal where
  /-- An instruction of the table without a meaning yet, raised by exec's own arm only; safe, since nothing runs. -/
  | notModelled (mnemonic : String)
  deriving DecidableEq, Repr

/-! ### Sector requests, R45 to R49 -/

/-- URGENT or ROUTINE (R47). -/
inductive Class where
  | routine
  | urgent
  deriving DecidableEq, Repr

/-- The operation of a sector request (R45). -/
inductive Operation where
  | read
  | write
  | writeVerify
  | formatTrack
  deriving DecidableEq, Repr

/-- A place on a diskette (R5). -/
structure Target where
  cylinder : Nat
  head : Nat
  sector : Nat
  deriving DecidableEq, Repr

/-- Where the outcome of a sector request goes (R45). -/
inductive Owner where
  | handleSector (desk : Desk) (handle : HandleNo) (sector : Nat)
  | catalogue (q : CatNo)
  | mountLabel
  | mountCatalogue (q : CatNo)
  | formatTrack (track : Nat)
  | formatVerify (l : Nat)
  | formatLabel
  | formatCatalogue (q : CatNo)
  deriving DecidableEq, Repr

/-- A sector request (R45). -/
structure SectorRequest where
  seq : BitVec 32
  drive : DriveNo
  target : Target
  operation : Operation
  page : PageNo
  owner : Owner
  cls : Class
  entry : BitVec 32
  attempts : Nat
  recalibrated : Bool
  deriving DecidableEq, Repr

/-- The phase of the request in hand (R50). -/
inductive HandPhase where
  | positioning
  | waiting
  | passing
  deriving DecidableEq, Repr

structure InHand where
  request : SectorRequest
  phase : HandPhase
  deriving DecidableEq, Repr

/-- A drive scheduler (R48, R50). -/
structure Scheduler where
  workList : List SectorRequest
  inHand : Option InHand
  runLength : Nat
  deriving DecidableEq, Repr

/-! ### Records of the diskette, R11 to R16 -/

/-- A run of consecutive logical sectors (R16). -/
structure Extent where
  start : Nat
  count : Nat
  deriving DecidableEq, Repr

/-- What the 860 takes from an accepted label (R12). -/
structure Label where
  name : Chars
  skew : Nat
  bad : List Nat
  deriving DecidableEq, Repr

/-- A well-formed state-1 story record (R13, R14). -/
structure StoryRecord where
  slug : Chars
  origin : Desk
  edition : Nat
  version : Nat
  length : Nat
  check : Check
  extents : List Extent
  deriving DecidableEq, Repr

/-! ### Drives, R19 to R44 -/

/-- The drive states in the order of R21, which is the order of their numbers in STATUS (R180). -/
inductive DriveState where
  | disabled
  | empty
  | offline
  | spinCheck
  | mounting
  | mounted
  | blank
  | formatting
  | faulted
  deriving DecidableEq, Repr

/-- The cause of a FAULTED event (R147); a drive's own fault cause is SPEED or TRACK-ZERO (R20). -/
inductive FaultCause where
  | speed
  | trackZero
  | tooManyBad
  deriving DecidableEq, Repr

/-- The head-load state, with the ticks left of a running load (R34). -/
inductive HeadState where
  | unloaded
  | loading (left : Nat)
  | loaded
  deriving DecidableEq, Repr

/-- The step timer of a drive: what it is timing, with the step interval and settle time as they stood when the seek or
recalibration started, and the ticks left (R31, R32, R41). -/
inductive Motion where
  | still
  | seekStep (target : Nat) (settle : Nat) (interval : Nat) (left : Nat)
  | seekSettle (target : Nat) (left : Nat)
  | recalStep (pulses : Nat) (settle : Nat) (interval : Nat) (left : Nat)
  | recalSettle (left : Nat)
  deriving DecidableEq, Repr

/-- A latched edge (R22). -/
inductive Edge where
  | readyFalls
  | readyRises
  | protectChanges (active : Bool)
  deriving DecidableEq, Repr

/-- The mount record (R20, R36 to R38). -/
structure MountRecord where
  /-- the label's page has been asked for -/
  labelAsked : Bool
  label : Option Label
  /-- the next catalogue sector to request; 29 when all have been -/
  nextQ : Nat
  /-- catalogue sectors whose reads have come back -/
  returned : Nat
  givenUp : List CatNo
  kept : List (SlotNo × StoryRecord)
  damaged : Bool
  deriving DecidableEq, Repr

/-- The drive record of R20, the outputs and the line levels of R19, and the step timer. -/
structure DriveUnit where
  state : DriveState
  isProtected : Bool
  damaged : Bool
  faultCause : Option FaultCause
  position : Option Nat
  head : HeadState
  idleCount : Nat
  elapsed : Nat
  period : Nat
  badRun : Nat
  reference : Bool
  validCount : Nat
  latches : List Edge
  pendingRecal : Bool
  mount : MountRecord
  motion : Motion
  direction : Bool
  stepPulses : Nat
  ready : Bool
  trackZero : Bool
  writeProtect : Bool
  deriving DecidableEq, Repr

/-- The settings of a drive (R41). -/
structure Settings where
  stepInterval : Nat
  settle : Nat
  headLoad : Nat
  headIdle : Nat
  retries : Nat
  aging : Nat
  autoMount : Bool
  enabled : Bool
  deriving DecidableEq, Repr

/-! ### The channel, R57 and R65 -/

inductive PassPhase where
  | search
  | transfer
  | readBack
  | formatWait
  | formatWrite
  deriving DecidableEq, Repr

/-- The pass record (R65); the request is the one in hand of the drive. -/
structure Pass where
  drive : DriveNo
  phase : PassPhase
  indexCount : Nat
  wrongCount : Nat
  withdrawn : Bool
  /-- in READ-BACK, the ID has been found again and its data field is awaited (R72) -/
  matched : Bool
  /-- the WRITE-VERIFY pass that RESTART lets finish (R75) -/
  finishing : Bool
  deriving DecidableEq, Repr

/-- A sector as it is recorded: the bytes of its ID field and of its data field, each with its check (R6). -/
structure RecordedSector where
  idField : List Byte
  dataField : List Byte
  deriving DecidableEq, Repr

/-- What WRITE-DATA carries while WRITE-GATE is asserted: nothing, the bytes of a data field with its check (R71), or the 15
sectors of a track in rotational order (R73). -/
inductive WriteData where
  | none
  | dataField (bytes : List Byte)
  | track (sectors : List RecordedSector)
  deriving DecidableEq, Repr

structure Channel where
  grant : Option DriveNo
  waitList : List (DriveNo × Class)
  pass : Option Pass
  headSelect : Nat
  writeGate : Bool
  writeData : WriteData
  deriving DecidableEq, Repr

/-! ### The page pool, R83 to R95 -/

/-- What a mount reads (R83). -/
inductive MountSector where
  | label
  | catalogue (q : CatNo)
  deriving DecidableEq, Repr

/-- What a step of a format records or reads (R83). -/
inductive FormatStep where
  | track (track : Nat)
  | verify (l : Nat)
  | label
  | catalogue (q : CatNo)
  deriving DecidableEq, Repr

/-- The holder of a page (R83). -/
inductive Holder where
  | handleSector (desk : Desk) (handle : HandleNo) (sector : Nat)
  | mountRead (drive : DriveNo) (sector : MountSector)
  | catalogueWrite (drive : DriveNo) (q : CatNo)
  | formatStep (drive : DriveNo) (step : FormatStep)
  | finishingPass
  deriving DecidableEq, Repr

/-- A held page: its holder, its 512 bytes, and whether its free is awaited by a reclaim (R95). -/
structure HeldPage where
  holder : Holder
  bytes : List Byte
  awaited : Bool
  deriving DecidableEq, Repr

/-- A waiter for general pages (R86). -/
structure Waiter where
  desk : Desk
  handle : HandleNo
  cls : Class
  lacks : List Nat
  deriving DecidableEq, Repr

/-- A waiter for a system page (R90). -/
inductive SystemWaiter where
  | mount (drive : DriveNo)
  | catalogue (drive : DriveNo) (q : CatNo)
  | format
  deriving DecidableEq, Repr

structure Pool where
  pages : Vector (Option HeldPage) 64
  waiters : List Waiter
  sysWaiters : List SystemWaiter
  deriving DecidableEq, Repr

/-! ### The catalogue, R96 to R120 -/

inductive SlotState where
  | free
  | creating
  | filed
  deriving DecidableEq, Repr

/-- A pending new version (R109). -/
structure NewVersion where
  desk : Desk
  handle : HandleNo
  extents : List Extent
  length : Nat
  check : Check
  edition : Nat
  keepHold : Bool
  first : Bool
  deriving DecidableEq, Repr

/-- A pending change (R109). -/
inductive Change where
  | newVersion (v : NewVersion)
  | removal (desk : Desk)
  deriving DecidableEq, Repr

/-- A story slot (R97). -/
structure Slot where
  state : SlotState
  slug : Chars
  origin : Desk
  edition : Nat
  version : Nat
  length : Nat
  check : Check
  extents : List Extent
  holder : Option Desk
  readers : Nat
  pending : Option Change
  carried : Bool
  deriving DecidableEq, Repr

/-- An old version that still has readers (R105). -/
structure Retired where
  id : Nat
  extents : List Extent
  readers : Nat
  deriving DecidableEq, Repr

/-- The write state of a catalogue sector (R110). -/
inductive WriteState where
  | clean
  | dirty
  | writing
  | writingDirty
  deriving DecidableEq, Repr

/-- A catalogue image (R96). -/
structure Image where
  id : Nat
  name : Chars
  skew : Nat
  bad : List Nat
  slots : Vector Slot 232
  /-- the allocated data sectors in ascending order; every other is free (R100) -/
  allocated : List Nat
  retired : List Retired
  nextRetired : Nat
  suspect : List Nat
  writes : Vector WriteState 29
  unmounting : Bool
  deriving DecidableEq, Repr

/-! ### Reasons and replies, R162 and R170 -/

inductive Reason where
  | busy
  | cancelled
  | illegalKind
  | badLength
  | illegalSequence
  | notPermitted
  | noDrive
  | isProtected
  | badSlug
  | notFound
  | existsAlready
  | heldElsewhere
  | notHolder
  | tooManyHolds
  | noHandle
  | badHandle
  | tooLong
  | diskFull
  | fragmented
  | catalogueFull
  | gap
  | outOfRange
  | incomplete
  | checkMismatch
  | inUse
  | notCancellable
  | lastSupervisor
  | media
  | writeProtected
  | driveLost
  | catalogueWrite
  deriving DecidableEq, Repr

/-- The cause of a failed attempt (R68, R69, R72). -/
inductive PassCause where
  | idNotFound
  | wrongCylinder
  | dataCheck
  | verifyMismatch
  deriving DecidableEq, Repr

/-- The kinds of R169. -/
inductive Kind where
  | idle
  | status
  | cancel
  | list
  | listOn
  | openRead
  | openWrite
  | put
  | putOn
  | get
  | getOn
  | file
  | drop
  | close
  | hold
  | release
  | spike
  | watch
  | unwatch
  | subscribe
  | takeNotice
  | driveSet
  | deskSet
  | mount
  | unmount
  | format
  | breakHold
  | tally
  | restart
  deriving DecidableEq, Repr

inductive Result where
  | done
  | refused
  | failed
  deriving DecidableEq, Repr

/-- The flags of a reply (R162). -/
structure ReplyFlags where
  lowered : Bool
  more : Bool
  atEnd : Bool
  nothing : Bool
  deriving DecidableEq, Repr

/-- The line rates of R160. -/
inductive Rate where
  | r2400
  | r4800
  | r9600
  | r19200
  | r38400
  deriving DecidableEq, Repr

/-- A reply as it stands in a reply queue (R162, R167). -/
structure Reply where
  /-- the kind byte of the request answered -/
  kind : Byte
  result : Result
  reason : Option Reason
  notices : Nat
  flags : ReplyFlags
  fields : List Byte
  /-- a line rate that is taken when this reply has been sent (R161) -/
  rateChange : Option (Desk × Rate)
  deriving DecidableEq, Repr

/-! ### Handles, R121 -/

/-- What a read handle is bound to (R104). -/
inductive Binding where
  | current
  | retired (id : Nat)
  deriving DecidableEq, Repr

inductive ReadEntry where
  | absent
  | reading (page : PageNo)
  | present (page : PageNo)
  deriving DecidableEq, Repr

inductive WriteEntry where
  | unstarted
  | filling (page : PageNo)
  | writing (page : PageNo)
  | written
  deriving DecidableEq, Repr

inductive WriteMode where
  | new
  | replace
  deriving DecidableEq, Repr

/-- The three states of a write handle (R121). -/
inductive WriteHandleState where
  | isOpen
  | committing
  | failed (cause : Reason)
  deriving DecidableEq, Repr

structure ReadHandle where
  drive : DriveNo
  slot : SlotNo
  slug : Chars
  cls : Class
  length : Nat
  version : Nat
  extents : List Extent
  binding : Binding
  delivery : Nat
  readAhead : Nat
  table : List ReadEntry
  deriving DecidableEq, Repr

structure WriteHandle where
  drive : DriveNo
  slot : SlotNo
  slug : Chars
  cls : Class
  length : Nat
  state : WriteHandleState
  mode : WriteMode
  edition : Nat
  reservation : List Extent
  mark : Nat
  check : Check
  table : List WriteEntry
  keepHold : Bool
  /-- the pending version has been placed (R142) -/
  placed : Bool
  /-- the desk has been reset since the handle was opened (R141, R144, R145) -/
  orphan : Bool
  deriving DecidableEq, Repr

/-- What a LOST handle keeps (R144, R180). -/
structure LostHandle where
  drive : DriveNo
  slot : SlotNo
  slug : Chars
  cls : Class
  length : Nat
  cause : Reason
  deriving DecidableEq, Repr

inductive Handle where
  | free
  | reading (r : ReadHandle)
  | writing (w : WriteHandle)
  | lost (l : LostHandle)
  deriving DecidableEq, Repr

/-! ### Watches and notices, R147 to R159 -/

inductive Condition where
  | filed
  | filedNew
  | spiked
  | held
  | released
  deriving DecidableEq, Repr

/-- A watch (R149); it is in WAITING-SECOND exactly while it has a matched slug. -/
structure Watch where
  drive : DriveNo
  start : Chars
  first : Condition
  second : Option Condition
  repeats : Bool
  matched : Option Chars
  deriving DecidableEq, Repr

/-- An event (R147). -/
inductive Event where
  | filed (drive : DriveNo) (slug : Chars) (desk : Desk) (version : Nat) (first released : Bool)
  | spiked (drive : DriveNo) (slug : Chars) (desk : Desk) (version : Nat)
  | held (drive : DriveNo) (slug : Chars) (desk : Desk) (version : Nat)
  | released (drive : DriveNo) (slug : Chars) (desk : Desk) (version : Nat)
  | removed (drive : DriveNo)
  | mounted (drive : DriveNo) (name : Chars) (damaged : Bool)
  | faulted (drive : DriveNo) (cause : FaultCause)
  deriving DecidableEq, Repr

/-- The event kinds a WATCH-FIRED notice names (R157). -/
inductive CatalogueEventKind where
  | filed
  | spiked
  | held
  | released
  deriving DecidableEq, Repr

/-- A notice (R157). -/
inductive Notice where
  | filed (drive : DriveNo) (slug : Chars) (desk : Desk) (version : Nat) (first released : Bool)
  | spiked (drive : DriveNo) (slug : Chars) (desk : Desk) (version : Nat)
  | removed (drive : DriveNo)
  | mounted (drive : DriveNo) (name : Chars) (damaged : Bool)
  | faulted (drive : DriveNo) (cause : FaultCause)
  | watchFired (watch : WatchNo) (slug : Chars) (kind : CatalogueEventKind) (version : Nat)
  | holdBroken (drive : DriveNo) (slug : Chars) (breaker : Desk)
  | handleLost (desk : Desk) (handle : HandleNo) (cause : Reason)
  | noticesLost (count : Nat)
  deriving DecidableEq, Repr

/-! ### Desk contexts, R174 -/

/-- A request in progress, with what its owner and its reply need (R172, R174). -/
inductive Waiting where
  | get (on : Bool) (handle : HandleNo) (offset count : Nat)
  | put (on : Bool) (handle : HandleNo) (offset : Nat) (data : List Byte)
  | file (handle : HandleNo)
  | spike (drive : DriveNo) (slot : SlotNo) (lowered : Bool)
  | unmount (drive : DriveNo)
  deriving DecidableEq, Repr

/-- The continuation (R174, R177). -/
inductive Continuation where
  | none
  | put (handle : HandleNo)
  | get (handle : HandleNo)
  | list (drive : DriveNo) (image : Nat) (start : Chars) (edition : Nat)
  deriving DecidableEq, Repr

structure DeskContext where
  inProgress : Option Waiting
  continuation : Continuation
  cursor : Nat
  holds : Nat
  watches : Vector (Option Watch) 4
  driveSet : BitVec 4
  filingsSet : BitVec 4
  notices : List Notice
  deriving DecidableEq, Repr

/-- The settings of a desk (R174, R175). -/
structure DeskSettings where
  supervisor : Bool
  urgent : Bool
  quota : Nat
  rate : Rate
  deriving DecidableEq, Repr

/-! ### Line units, R160 -/

/-- The receive state with the partial frame of the states that have one (R160, R163). -/
inductive Receive where
  | hunting
  | length
  | body (len : Nat) (bytes : List Byte)
  | check (len : Nat) (bytes : List Byte) (first : Option Byte)
  | inBreak
  deriving DecidableEq, Repr

structure LineUnit where
  rate : Rate
  receive : Receive
  /-- the inter-byte timer, none when it is stopped -/
  gap : Option Nat
  breakTimer : Nat
  /-- the level of RXD as last sampled: true is spacing -/
  spacing : Bool
  replies : List Reply
  /-- the progress of the reply being sent, in ten-thousandths of a bit -/
  progress : Nat
  /-- the rate at which what is being sent finishes, when the line has taken another rate since it began (R184) -/
  oldRate : Option Rate
  /-- what is left of the character in progress of a reply that a break has cut off, in ten-thousandths of a bit (R166) -/
  cutOff : Option Nat
  /-- the rate change that comes with the last stop bit of that character, when it is the last one of a DESK-SET reply (R161) -/
  cutRate : Option (Desk × Rate)
  deriving DecidableEq, Repr

/-! ### Tallies, R80 and R81 -/

structure DriveTally where
  sectorsRead : Nat
  sectorsWritten : Nat
  failedAttempts : Nat
  hardFailures : Nat
  recalibrations : Nat
  relocations : Nat
  speedFaults : Nat
  deriving DecidableEq, Repr

structure DeskTally where
  framesDiscarded : Nat
  requestsRefused : Nat
  deriving DecidableEq, Repr

/-! ### The format sequencer, R190 -/

inductive FormatPhase where
  | tracks
  | verify
  | label
  | catalogue
  deriving DecidableEq, Repr

structure FormatJob where
  drive : DriveNo
  name : Chars
  skew : Nat
  verify : Bool
  phase : FormatPhase
  nextTrack : Nat
  verifyL : Nat
  nextQ : Nat
  bad : List Nat
  deriving DecidableEq, Repr

/-! ### The whole part -/

structure State where
  powerGood : Bool
  tick : BitVec 32
  seq : BitVec 32
  imageSerial : Nat
  drives : Vector DriveUnit 4
  settings : Vector Settings 4
  scheds : Vector Scheduler 4
  images : Vector (Option Image) 4
  channel : Channel
  pool : Pool
  handles : Vector (Vector Handle 2) 8
  desks : Vector DeskContext 8
  deskSettings : Vector DeskSettings 8
  lines : Vector LineUnit 8
  driveTallies : Vector DriveTally 4
  deskTallies : Vector DeskTally 8
  sequencer : Option FormatJob
  pending : List Instr
  deriving DecidableEq, Repr

/-! ### The values after power-on -/

def MountRecord.clear : MountRecord :=
  { labelAsked := false, label := none, nextQ := 0, returned := 0, givenUp := [], kept := [], damaged := false }

/-- The drive record of R20 at power-on with every input line low and inactive, which makes its state EMPTY.
DESIGN CHOICE (log 6, log 22): the spec gives the lines, DIRECTION and the STEP count no value of their own; unsafe. -/
def DriveUnit.powerOn : DriveUnit :=
  { state := .empty, isProtected := false, damaged := false, faultCause := none, position := none, head := .unloaded,
    idleCount := 0, elapsed := 0, period := Config.nominalPeriod, badRun := 0, reference := false, validCount := 0,
    latches := [], pendingRecal := false, mount := .clear, motion := .still, direction := false, stepPulses := 0,
    ready := false, trackZero := false, writeProtect := false }

/-- The power-on defaults of R41. -/
def Settings.powerOn : Settings :=
  { stepInterval := 60, settle := 150, headLoad := 350, headIdle := 10, retries := 6, aging := 20000, autoMount := true,
    enabled := true }

/-- R50. -/
def Scheduler.idle : Scheduler := { workList := [], inHand := none, runLength := 0 }

/-- R57 and R65. -/
def Channel.idle : Channel :=
  { grant := none, waitList := [], pass := none, headSelect := 0, writeGate := false, writeData := .none }

/-- R83. -/
def Pool.allFree : Pool := { pages := Vector.replicate 64 none, waiters := [], sysWaiters := [] }

/-- R174, the fields a desk reset clears too. -/
def DeskContext.clear : DeskContext :=
  { inProgress := none, continuation := .none, cursor := 0, holds := 0, watches := Vector.replicate 4 none, driveSet := 0,
    filingsSet := 0, notices := [] }

/-- R174 and R175: desk 0 holds both rights, the others neither. -/
def DeskSettings.powerOn (d : Desk) : DeskSettings :=
  { supervisor := d == 0, urgent := d == 0, quota := 12, rate := .r9600 }

/-- R160. DESIGN CHOICE (log 9): the line is taken as marking until a character says otherwise; unsafe. -/
def LineUnit.powerOn : LineUnit :=
  { rate := .r9600, receive := .hunting, gap := none, breakTimer := 0, spacing := false, replies := [], progress := 0,
    oldRate := none, cutOff := none, cutRate := none }

/-- R82. -/
def DriveTally.zero : DriveTally := ⟨0, 0, 0, 0, 0, 0, 0⟩

/-- R82. -/
def DeskTally.zero : DeskTally := ⟨0, 0⟩

/-- R97: a FREE slot has none of the other fields. -/
def Slot.free : Slot :=
  { state := .free, slug := [], origin := 0, edition := 0, version := 0, length := 0, check := 0, extents := [], holder := none,
    readers := 0, pending := none, carried := false }

/-- The part right after POWER-GOOD has risen (R194), with every drive's READY line low (log 6). -/
def State.reset : State :=
  { powerGood := true, tick := 0, seq := 0, imageSerial := 0,
    drives := Vector.replicate 4 .powerOn, settings := Vector.replicate 4 .powerOn,
    scheds := Vector.replicate 4 .idle, images := Vector.replicate 4 none,
    channel := .idle, pool := .allFree,
    handles := Vector.replicate 8 (Vector.replicate 2 .free),
    desks := Vector.replicate 8 .clear,
    deskSettings := #v[.powerOn 0, .powerOn 1, .powerOn 2, .powerOn 3, .powerOn 4, .powerOn 5, .powerOn 6, .powerOn 7],
    lines := Vector.replicate 8 .powerOn,
    driveTallies := Vector.replicate 4 .zero, deskTallies := Vector.replicate 8 .zero,
    sequencer := none, pending := [] }

end Sys2Proof.Machine
end

