-- ==== Sys2Proof/Machine/Bytes.lean ====
section
/-! DEFINITION. Byte order, padding and the check (R2, R3), and updates of lists of bytes. -/

namespace Sys2Proof.Machine

/-- A number below 256 as a byte. -/
def byteOf (n : Nat) : Byte := BitVec.ofNat 8 n

/-- A two-byte field, high byte first (R2). -/
def twoBytes (n : Nat) : List Byte := [byteOf (n / 256), byteOf (n % 256)]

/-- The number in a two-byte field, high byte first (R2). -/
def ofTwo (hi lo : Byte) : Nat := hi.toNat * 256 + lo.toNat

/-- The number in a four-byte field, high byte first (R2). -/
def ofFour (a b c d : Byte) : Nat := ofTwo a b * 65536 + ofTwo c d

/-- The two bytes of a check, high byte first (R2). -/
def checkBytes (c : Check) : List Byte := twoBytes c.toNat

/-- A check from its two bytes (R2). -/
def checkOfTwo (hi lo : Byte) : Check := BitVec.ofNat 16 (ofTwo hi lo)

/-- The space that pads slugs and names (R4). PRESUMED (log 33): its code is the ASCII one, which the spec does not give. -/
def space : Byte := 0x20

/-- Characters padded with spaces to `n` bytes (R4). -/
def padded (n : Nat) (cs : Chars) : List Byte := cs ++ List.replicate (n - cs.length) space

/-- One bit of the check register's polynomial x^16 + x^12 + x^5 + 1 (R3). -/
def checkBit (c : Check) (b : Bool) : Check :=
  if c.getLsbD 15 == b then c <<< 1 else (c <<< 1) ^^^ 0x1021

/-- One byte into the check, most significant bit first (R3). -/
def checkByte (c : Check) (b : Byte) : Check :=
  [7, 6, 5, 4, 3, 2, 1, 0].foldl (fun c i => checkBit c (b.getLsbD i)) c

/-- The check continued over more bytes (R3, R136). -/
def checkFrom (c : Check) (bytes : List Byte) : Check := bytes.foldl checkByte c

/-- The value the check register starts at (R3). -/
def checkStart : Check := 0xFFFF

/-- The check over some bytes (R3). -/
def checkOf (bytes : List Byte) : Check := checkFrom checkStart bytes

/-- A field as it is recorded: its bytes and then the two bytes of its check (R6). -/
def recorded (bytes : List Byte) : List Byte := bytes ++ checkBytes (checkOf bytes)

/-- `bytes` with the bytes from position `at'` on replaced by `new`, the length kept. -/
def overwrite (bytes : List Byte) (at' : Nat) (new : List Byte) : List Byte :=
  (bytes.take at' ++ new ++ bytes.drop (at' + new.length)).take bytes.length

/-- 512 zero bytes (R83). -/
def zeroSector : List Byte := List.replicate 512 0

/-- A sector as FORMAT-TRACK records it: its ID field, and a data field of zero bytes (R6, R73). -/
def formattedSector (cylinder head : Nat) (sector : Byte) : RecordedSector :=
  { idField := recorded [byteOf cylinder, byteOf head, sector], dataField := recorded zeroSector }

/-- `bytes` filled with zero bytes, or cut, to a whole sector. -/
def toSector (bytes : List Byte) : List Byte := overwrite zeroSector 0 bytes

end Sys2Proof.Machine
end

