-- ==== Sys2Proof/Machine/Geometry.lean ====
section
/-! DEFINITION. Where each sector lies: rotational slots, logical sectors, the catalogue cylinder and the extents of a
story (R5 to R10, R16). -/

namespace Sys2Proof.Machine

/-- The rotational slot of sector `s` on cylinder `c` (R7). -/
def rotationalSlot (skew c s : Nat) : Nat := (s + skew * c) % 15

/-- The sector FORMAT-TRACK records in rotational slot `k` of cylinder `c`: (k - skew × c) mod 15 (R7). -/
def sectorInSlot (skew c k : Nat) : Nat := (k + (15 - skew * c % 15)) % 15

/-- When rotational slot `k` begins, in ticks after the index pulse (R8). -/
def slotStart (period k : Nat) : Nat := k * period / 15

/-- The place of logical sector `l` (R9). -/
def targetOfL (l : Nat) : Target :=
  { cylinder := 1 + l / 30, head := (l % 30) / 15, sector := (l % 30) % 15 }

/-- The logical sector at a place of the data cylinders (R9). -/
def lOfTarget (t : Target) : Nat := (t.cylinder - 1) * 30 + t.head * 15 + t.sector

/-- The place of the volume label (R10). -/
def labelTarget : Target := { cylinder := 0, head := 0, sector := 0 }

/-- The place of catalogue sector `q` (R10). -/
def catalogueTarget (q : CatNo) : Target :=
  if q.val ≤ 13 then { cylinder := 0, head := 0, sector := q.val + 1 }
  else { cylinder := 0, head := 1, sector := q.val - 14 }

/-- The catalogue sector of story slot `n` (R10). -/
def catalogueOf (n : SlotNo) : CatNo := ⟨n.val / 8, by have := n.isLt; omega⟩

/-- The story slot at place `i` of catalogue sector `q` (R10). -/
def slotAt (q : CatNo) (i : Fin 8) : SlotNo := ⟨8 * q.val + i.val, by have := q.isLt; have := i.isLt; omega⟩

/-- The eight story slots of catalogue sector `q` in ascending order (R10). -/
def slotsOf (q : CatNo) : List SlotNo :=
  [slotAt q 0, slotAt q 1, slotAt q 2, slotAt q 3, slotAt q 4, slotAt q 5, slotAt q 6, slotAt q 7]

/-- Every story slot in ascending order. -/
def allSlots : List SlotNo := (List.finRange 29).flatMap slotsOf

/-- The first track number of a format is cylinder 0, head 0; head 1 follows head 0 of each cylinder (R190). -/
def trackTarget (track : Nat) : Target := { cylinder := track / 2, head := track % 2, sector := 0 }

/-- The 15 sector numbers of a track in rotational order (R7, R73). -/
def trackOrder (skew : Nat) (track : Nat) : List Byte :=
  (List.range 15).map (fun k => byteOf (sectorInSlot skew (track / 2) k))

/-- How many sectors a story of `length` bytes takes (R16). -/
def sectorsFor (length : Nat) : Nat := (length + 511) / 512

/-- The logical sectors of one extent. -/
def Extent.sectors (e : Extent) : List Nat := List.range' e.start e.count

/-- The logical sectors of extents in story order (R16). -/
def sectorsOf (es : List Extent) : List Nat := es.flatMap Extent.sectors

/-- The sum of the counts of extents. -/
def totalCount (es : List Extent) : Nat := (es.map Extent.count).sum

/-- The logical sector of story sector `j` (R16); none beyond the extents. -/
def sectorAt : List Extent → Nat → Option Nat
  | [], _ => none
  | e :: es, j => if j < e.count then some (e.start + j) else sectorAt es (j - e.count)

/-- The story sectors that `n` bytes from `offset` on lie in: one, or two across a boundary (R16, R126). -/
def sectorsCovering (offset n : Nat) : List Nat :=
  if offset / 512 = (offset + n - 1) / 512 then [offset / 512] else [offset / 512, (offset + n - 1) / 512]

/-- Puts story sector `j` at logical sector `l`: the extent that holds it is split in up to three (R140). -/
def splitAt : List Extent → Nat → Nat → List Extent
  | [], _, _ => []
  | e :: es, j, l =>
    if j < e.count then
      (if 0 < j then [{ start := e.start, count := j }] else [])
        ++ [{ start := l, count := 1 }]
        ++ (if 0 < e.count - j - 1 then [{ start := e.start + j + 1, count := e.count - j - 1 }] else [])
        ++ es
    else e :: splitAt es (j - e.count) l

/-- One extent put before extents that are joined already, joined with their first where it runs on into it (R140). -/
def joinInto (e : Extent) : List Extent → List Extent
  | [] => [e]
  | f :: fs => if e.start + e.count = f.start then { start := e.start, count := e.count + f.count } :: fs else e :: f :: fs

/-- Neighbouring extents that run on into each other joined until no such pair remains (R140). -/
def joined : List Extent → List Extent
  | [] => []
  | e :: es => joinInto e (joined es)

end Sys2Proof.Machine
end

