-- ==== Sys2Proof/Machine/Operands.lean ====
section
/-! DEFINITION. The fields of requests: kinds and their codes and lengths (R168, R169), slugs and names (R4), drive, desk
and handle numbers, and the settings in a body (R183, R184). -/

namespace Sys2Proof.Machine

/-- The kind codes (R169). -/
def Kind.code : Kind → Byte
  | .idle => 0x01
  | .status => 0x02
  | .cancel => 0x0F
  | .list => 0x10
  | .listOn => 0x11
  | .openRead => 0x20
  | .openWrite => 0x21
  | .put => 0x22
  | .putOn => 0x23
  | .get => 0x24
  | .getOn => 0x25
  | .file => 0x26
  | .drop => 0x27
  | .close => 0x28
  | .hold => 0x30
  | .release => 0x31
  | .spike => 0x32
  | .watch => 0x40
  | .unwatch => 0x41
  | .subscribe => 0x42
  | .takeNotice => 0x43
  | .driveSet => 0x60
  | .deskSet => 0x61
  | .mount => 0x62
  | .unmount => 0x63
  | .format => 0x64
  | .breakHold => 0x65
  | .tally => 0x66
  | .restart => 0x67

/-- Every kind, in the order of R169. -/
def allKinds : List Kind :=
  [.idle, .status, .cancel, .list, .listOn, .openRead, .openWrite, .put, .putOn, .get, .getOn, .file, .drop, .close, .hold,
   .release, .spike, .watch, .unwatch, .subscribe, .takeNotice, .driveSet, .deskSet, .mount, .unmount, .format, .breakHold,
   .tally, .restart]

/-- The kind with a code, none for a code not in the table of R169. -/
def kindOfCode (b : Byte) : Option Kind := allKinds.find? (fun k => k.code == b)

/-- The least and the greatest LEN of a kind (R169). -/
def Kind.lenRange : Kind → Nat × Nat
  | .idle => (1, 1)
  | .status => (1, 1)
  | .cancel => (1, 1)
  | .list => (3, 19)
  | .listOn => (1, 1)
  | .openRead => (4, 19)
  | .openWrite => (8, 23)
  | .put => (5, 132)
  | .putOn => (2, 129)
  | .get => (5, 5)
  | .getOn => (2, 2)
  | .file => (5, 5)
  | .drop => (2, 2)
  | .close => (2, 2)
  | .hold => (3, 18)
  | .release => (3, 18)
  | .spike => (4, 19)
  | .watch => (7, 22)
  | .unwatch => (2, 2)
  | .subscribe => (3, 3)
  | .takeNotice => (1, 1)
  | .driveSet => (16, 16)
  | .deskSet => (5, 5)
  | .mount => (2, 2)
  | .unmount => (3, 3)
  | .format => (5, 16)
  | .breakHold => (3, 18)
  | .tally => (4, 4)
  | .restart => (1, 1)

/-- LEN is one more than the field bytes, for the kind byte (R169). -/
def lenAllowed (k : Kind) (fields : List Byte) : Bool :=
  decide (k.lenRange.1 ≤ fields.length + 1) && decide (fields.length + 1 ≤ k.lenRange.2)

/-- The supervisor kinds (R175). -/
def Kind.supervisor : Kind → Bool
  | .driveSet | .deskSet | .mount | .unmount | .format | .breakHold | .tally | .restart => true
  | _ => false

/-- A character of the slug set: A to Z, 0 to 9, hyphen (R4). PRESUMED (log 33): their codes are the ASCII ones, which the spec does not
give. -/
def slugChar (b : Byte) : Bool :=
  (decide (0x41 ≤ b.toNat) && decide (b.toNat ≤ 0x5A)) || (decide (0x30 ≤ b.toNat) && decide (b.toNat ≤ 0x39)) || b == 0x2D

/-- Lower-case letters of a request become upper case (R4). PRESUMED (log 33): the codes of both are the ASCII ones. -/
def upperChar (b : Byte) : Byte := if 0x61 ≤ b.toNat ∧ b.toNat ≤ 0x7A then b - 0x20 else b

/-- A slug, prefix or name of a request after upper-casing; none when a character is outside the set (R4). -/
def slugOf (cs : List Byte) : Option Chars :=
  let up := cs.map upperChar
  if up.all slugChar then some up else none

/-- A drive number, none above 3. -/
def driveOf (b : Byte) : Option DriveNo := if h : b.toNat < 4 then some ⟨b.toNat, h⟩ else none

/-- A desk number, none above 7. -/
def deskOf (b : Byte) : Option Desk := if h : b.toNat < 8 then some ⟨b.toNat, h⟩ else none

/-- A handle number, none above 1 (R122). -/
def handleOf (b : Byte) : Option HandleNo := if h : b.toNat < 2 then some ⟨b.toNat, h⟩ else none

/-- A watch id, none above 3 (R154). -/
def watchOf (b : Byte) : Option WatchNo := if h : b.toNat < 4 then some ⟨b.toNat, h⟩ else none

/-- The class byte: 0 ROUTINE, any other URGENT (R176). -/
def classOf (b : Byte) : Class := if b == 0 then .routine else .urgent

/-- The numbers of the conditions (R154). -/
def conditionOf (b : Byte) : Option Condition :=
  match b.toNat with
  | 1 => some .filed
  | 2 => some .filedNew
  | 3 => some .spiked
  | 4 => some .held
  | 5 => some .released
  | _ => none

/-- The subscription set a byte names, none above 15 (R156). -/
def driveSetOf (b : Byte) : Option (BitVec 4) := if b.toNat < 16 then some (BitVec.ofNat 4 b.toNat) else none

/-- A value outside a range stored as the nearer end (R41). -/
def clamp (lo hi n : Nat) : Nat := if n < lo then lo else if hi < n then hi else n

/-- The settings a DRIVE-SET body gives after the drive number, each clamped to its range (R41, R183). -/
def settingsOf : List Byte → Option Settings
  | [i1, i0, d1, d0, h1, h0, idle, r, a3, a2, a1, a0, auto, enabled] =>
    some { stepInterval := clamp 10 160 (ofTwo i1 i0), settle := clamp 0 500 (ofTwo d1 d0), headLoad := clamp 0 1000 (ofTwo h1 h0),
           headIdle := clamp 0 60 idle.toNat, retries := clamp 1 16 r.toNat, aging := clamp 1000 100000 (ofFour a3 a2 a1 a0),
           autoMount := auto != 0, enabled := enabled != 0 }
  | _ => none

/-- The stored settings as DRIVE-SET's reply reports them (R183). -/
def settingsBytes (t : Settings) : List Byte :=
  twoBytes t.stepInterval ++ twoBytes t.settle ++ twoBytes t.headLoad ++ [byteOf t.headIdle, byteOf t.retries]
    ++ twoBytes (t.aging / 65536) ++ twoBytes (t.aging % 65536)
    ++ [if t.autoMount then 1 else 0, if t.enabled then 1 else 0]

/-- The line rate of a rate code; a code above 4 is taken as 4 (R184). -/
def rateOf (b : Byte) : Rate :=
  match b.toNat with
  | 0 => .r2400
  | 1 => .r4800
  | 2 => .r9600
  | 3 => .r19200
  | _ => .r38400

/-- The code of a line rate (R184). -/
def Rate.code : Rate → Byte
  | .r2400 => 0
  | .r4800 => 1
  | .r9600 => 2
  | .r19200 => 3
  | .r38400 => 4

/-- Bits a second (R160). -/
def Rate.baud : Rate → Nat
  | .r2400 => 2400
  | .r4800 => 4800
  | .r9600 => 9600
  | .r19200 => 19200
  | .r38400 => 38400

end Sys2Proof.Machine
end

