-- ==== Sys2Proof/Machine/Flags.lean ====
section
/-! DEFINITION. The numbers and flag bytes of replies: results, reasons, flags, attributes, status numbers (R162, R170,
R157, R180), and saturating counters (R82). -/

namespace Sys2Proof.Machine

/-- The number of a reason (R170). -/
def Reason.number : Reason → Nat
  | .busy => 1
  | .cancelled => 2
  | .illegalKind => 3
  | .badLength => 4
  | .illegalSequence => 5
  | .notPermitted => 6
  | .noDrive => 7
  | .isProtected => 8
  | .badSlug => 9
  | .notFound => 10
  | .existsAlready => 11
  | .heldElsewhere => 12
  | .notHolder => 13
  | .tooManyHolds => 14
  | .noHandle => 15
  | .badHandle => 16
  | .tooLong => 17
  | .diskFull => 18
  | .fragmented => 19
  | .catalogueFull => 20
  | .gap => 21
  | .outOfRange => 22
  | .incomplete => 23
  | .checkMismatch => 24
  | .inUse => 25
  | .notCancellable => 26
  | .lastSupervisor => 27
  | .media => 28
  | .writeProtected => 29
  | .driveLost => 30
  | .catalogueWrite => 31

/-- The result byte (R162). -/
def Result.code : Result → Byte
  | .done => 0
  | .refused => 1
  | .failed => 2

/-- The reason byte: 0 for DONE (R162). -/
def reasonByte : Option Reason → Byte
  | none => 0
  | some r => byteOf r.number

/-- The kept cause in a reply FAILED MEDIA (R170). -/
def PassCause.code : PassCause → Byte
  | .idNotFound => 1
  | .wrongCylinder => 2
  | .dataCheck => 3
  | .verifyMismatch => 4

/-- The value of one flag bit. -/
def flagBit (b : Bool) (n : Nat) : Nat := if b then n else 0

/-- The flags byte: 1 class-lowered, 2 more, 4 end, 8 nothing-cancelled (R162). -/
def ReplyFlags.byte (f : ReplyFlags) : Byte :=
  byteOf (flagBit f.lowered 1 + flagBit f.more 2 + flagBit f.atEnd 4 + flagBit f.nothing 8)

/-- A reply with no flag set. -/
def noFlags : ReplyFlags := { lowered := false, more := false, atEnd := false, nothing := false }

/-- Only the class-lowered flag, as it stands (R176). -/
def loweredFlag (b : Bool) : ReplyFlags := { noFlags with lowered := b }

/-- Only the end flag, as it stands (R126). -/
def endFlag (b : Bool) : ReplyFlags := { noFlags with atEnd := b }

/-- Only the more flag, as it stands (R118). -/
def moreFlag (b : Bool) : ReplyFlags := { noFlags with more := b }

/-- Only the nothing-cancelled flag, as it stands (R172). -/
def nothingFlag (b : Bool) : ReplyFlags := { noFlags with nothing := b }

/-- The body of a reply frame (R162). -/
def Reply.body (r : Reply) : List Byte :=
  [0x80 + r.kind, r.result.code, reasonByte r.reason, byteOf r.notices, r.flags.byte] ++ r.fields

/-- A reply frame as it goes out on the line: LEAD, LEN, body, CHECK over LEN and body (R162). -/
def Reply.frame (r : Reply) : List Byte :=
  let covered := byteOf r.body.length :: r.body
  Config.lead :: covered ++ checkBytes (checkOf covered)

/-- The number of a fault cause (R157). -/
def FaultCause.code : FaultCause → Byte
  | .speed => 1
  | .trackZero => 2
  | .tooManyBad => 3

/-- The number of an event kind in WATCH-FIRED (R157). -/
def CatalogueEventKind.code : CatalogueEventKind → Byte
  | .filed => 1
  | .spiked => 2
  | .held => 3
  | .released => 4

/-- The attributes byte of a FILED notice: 1 first-filing, 2 released (R157). -/
def filedAttributes (first released : Bool) : Byte := byteOf (flagBit first 1 + flagBit released 2)

/-- The code and the fields of a notice (R157). -/
def Notice.bytes : Notice → List Byte
  | .filed d slug desk v first released =>
    [1, byteOf d.val] ++ padded 16 slug ++ [byteOf desk.val] ++ twoBytes v ++ [filedAttributes first released]
  | .spiked d slug desk v => [2, byteOf d.val] ++ padded 16 slug ++ [byteOf desk.val] ++ twoBytes v
  | .removed d => [3, byteOf d.val]
  | .mounted d name damaged => [4, byteOf d.val] ++ padded 12 name ++ [byteOf (flagBit damaged 1)]
  | .faulted d cause => [5, byteOf d.val, cause.code]
  | .watchFired w slug kind v => [6, byteOf w.val] ++ padded 16 slug ++ [kind.code] ++ twoBytes v
  | .holdBroken d slug breaker => [7, byteOf d.val] ++ padded 16 slug ++ [byteOf breaker.val]
  | .handleLost desk h cause => [8, byteOf desk.val, byteOf h.val, byteOf cause.number]
  | .noticesLost n => 9 :: twoBytes n

/-- The number of a drive state in STATUS: the order of R21 (R180). -/
def DriveState.code : DriveState → Byte
  | .disabled => 0
  | .empty => 1
  | .offline => 2
  | .spinCheck => 3
  | .mounting => 4
  | .mounted => 5
  | .blank => 6
  | .formatting => 7
  | .faulted => 8

/-- The attributes byte of a drive in STATUS: 1 protected, 2 damaged (R180). -/
def driveAttributes (isProtected damaged : Bool) : Byte := byteOf (flagBit isProtected 1 + flagBit damaged 2)

/-- The rights byte of STATUS and DESK-SET: 1 SUPERVISOR, 2 URGENT (R180, R184). -/
def rightsByte (supervisor urgent : Bool) : Byte := byteOf (flagBit supervisor 1 + flagBit urgent 2)

/-- A LIST entry's flags: 1 creating, 2 pending (R118). -/
def listFlags (creating pending : Bool) : Byte := byteOf (flagBit creating 1 + flagBit pending 2)

/-- A counter goes up and stays at 65,535 (R82). -/
def saturate (n k : Nat) : Nat := min (n + k) Config.maxTally

/-- The version after a filing: one more, with 65,535 followed by 1 (R99). -/
def nextVersion (v : Nat) : Nat := if v = 65535 then 1 else v + 1

end Sys2Proof.Machine
end

