-- ==== Sys2Proof/Machine/Records.lean ====
section
/-! DEFINITION. The recorded forms of the label and of story records, and the examinations of the mount (R11 to R15, R18). -/

namespace Sys2Proof.Machine

/-- The format mark (R11). -/
def formatMark : List Byte := [0x44, 0x38, 0x36, 0x30]

/-- The byte at a place of a sector; a sector always has it. -/
def byteAt (bytes : List Byte) (i : Nat) : Byte := bytes.getD i 0

/-- The two-byte field at a place. -/
def fieldAt (bytes : List Byte) (i : Nat) : Nat := ofTwo (byteAt bytes i) (byteAt bytes (i + 1))

/-- Characters as they are stored: those before the first space, if all of them are of the slug set and only spaces follow,
and there is at least one (R12, R14). -/
def storedChars (bytes : List Byte) : Option Chars :=
  let cs := bytes.takeWhile (fun b => b != space)
  let rest := bytes.drop cs.length
  if cs ≠ [] && cs.all slugChar && rest.all (fun b => b == space) then some cs else none

/-- The label FORMAT writes (R11). -/
def labelBytes (name : Chars) (skew : Nat) (bad : List Nat) : List Byte :=
  toSector (formatMark ++ [1] ++ padded 12 name ++ [byteOf skew, byteOf bad.length] ++ bad.flatMap twoBytes)

/-- The entries in use of a bad list (R11, R12). -/
def badEntries (bytes : List Byte) (b : Nat) : List Nat := (List.range b).map (fun i => fieldAt bytes (19 + 2 * i))

/-- The test of a label: what the 860 takes from an accepted one, none for one not accepted (R12). -/
def labelOf (bytes : List Byte) : Option Label :=
  match storedChars ((bytes.drop 5).take 12) with
  | none => none
  | some name =>
    let skew := (byteAt bytes 17).toNat
    let b := (byteAt bytes 18).toNat
    let bad := badEntries bytes b
    if bytes.take 4 == formatMark && byteAt bytes 4 == 1 && decide (skew ≤ 14) && decide (b ≤ 16)
        && bad.all (fun l => decide (l < Config.dataSectors)) then
      some { name := name, skew := skew, bad := bad }
    else none

/-- An extent entry in four bytes (R13). -/
def extentBytes (e : Extent) : List Byte := twoBytes e.start ++ twoBytes e.count

/-- A state-1 record in 64 bytes (R13, R18). -/
def recordBytes (r : StoryRecord) : List Byte :=
  let filled := padded 16 r.slug ++ [1, byteOf r.origin.val, byteOf r.edition, byteOf r.extents.length]
    ++ twoBytes r.version ++ twoBytes r.length ++ checkBytes r.check ++ r.extents.flatMap extentBytes
  filled ++ List.replicate (64 - filled.length) 0

/-- A free slot in 64 bytes (R13). -/
def freeRecordBytes : List Byte := List.replicate 64 0

/-- What the examination of one record finds (R14). -/
inductive Examined where
  | free
  | discarded
  | kept (r : StoryRecord)
  deriving DecidableEq, Repr

/-- The extents in use of a record (R13). -/
def extentsAt (rec : List Byte) (n : Nat) : List Extent :=
  (List.range n).map (fun i => { start := fieldAt rec (26 + 4 * i), count := fieldAt rec (28 + 4 * i) })

/-- An extent in use lies whole in the data sectors (R14). -/
def extentSound (e : Extent) : Bool :=
  decide (1 ≤ e.count) && decide (e.count ≤ 120) && decide (e.start + e.count ≤ Config.dataSectors)

/-- The examination of one record of 64 bytes on its own (R14). -/
def examine (rec : List Byte) : Examined :=
  if byteAt rec 16 == 0 then .free
  else if byteAt rec 16 != 1 then .discarded
  else
    match storedChars (rec.take 16), deskOf (byteAt rec 17) with
    | some slug, some origin =>
      let edition := (byteAt rec 18).toNat
      let n := (byteAt rec 19).toNat
      let version := fieldAt rec 20
      let length := fieldAt rec 22
      let extents := extentsAt rec n
      if decide (edition ≤ 15) && decide (1 ≤ version) && decide (length ≤ Config.maxStory) && decide (n ≤ 8)
          && extents.all extentSound && decide (totalCount extents = sectorsFor length) then
        .kept { slug := slug, origin := origin, edition := edition, version := version, length := length,
                check := checkOfTwo (byteAt rec 24) (byteAt rec 25), extents := extents }
      else .discarded
    | _, _ => .discarded

/-- The records of a catalogue sector with their slots, and whether one was discarded (R37). -/
def examineSector (q : CatNo) (bytes : List Byte) : List (SlotNo × StoryRecord) × Bool :=
  (List.finRange 8).foldl
    (fun acc i =>
      match examine ((bytes.drop (64 * i.val)).take 64) with
      | .free => acc
      | .discarded => (acc.1, true)
      | .kept r => (acc.1 ++ [(slotAt q i, r)], acc.2))
    ([], false)

/-- What the cross-record examination has accepted so far (R15). -/
structure Accepted where
  records : List (SlotNo × StoryRecord)
  claimed : List Nat
  discarded : Bool
  deriving DecidableEq, Repr

/-- Claims sectors one by one; none when one is claimed already (R15). -/
def claimAll : List Nat → List Nat → Option (List Nat)
  | [], claimed => some claimed
  | l :: ls, claimed => if claimed.contains l then none else claimAll ls (l :: claimed)

/-- One well-formed record against what has been accepted before it (R15). -/
def acceptRecord (a : Accepted) (n : SlotNo) (r : StoryRecord) : Accepted :=
  if a.records.any (fun p => p.2.slug == r.slug) then { a with discarded := true }
  else
    match claimAll (sectorsOf r.extents) a.claimed with
    | none => { a with discarded := true }
    | some claimed => { a with records := a.records ++ [(n, r)], claimed := claimed }

/-- The cross-record examination: the bad list claimed first, then the kept records in ascending slot order (R15). -/
def crossExamine (bad : List Nat) (kept : List (SlotNo × StoryRecord)) : Accepted :=
  (List.finRange 232).foldl
    (fun a n =>
      match kept.find? (fun p => p.1 == n) with
      | none => a
      | some p => acceptRecord a n p.2)
    { records := [], claimed := bad.eraseDups, discarded := false }

/-- Puts a number into an ascending list that lacks it. -/
def insertSorted (l : Nat) : List Nat → List Nat
  | [] => [l]
  | m :: ms => if l < m then l :: m :: ms else if l = m then m :: ms else m :: insertSorted l ms

/-- A list put into ascending order without repeats. -/
def sorted (ls : List Nat) : List Nat := ls.foldl (fun acc l => insertSorted l acc) []

/-- The fields of a FILED slot as it is recorded (R18). -/
def Slot.record (t : Slot) : StoryRecord :=
  { slug := t.slug, origin := t.origin, edition := t.edition, version := t.version, length := t.length, check := t.check,
    extents := t.extents }

/-- A FILED slot of a fresh image (R15, R38). -/
def StoryRecord.slot (r : StoryRecord) : Slot :=
  { Slot.free with state := .filed, slug := r.slug, origin := r.origin, edition := r.edition, version := r.version,
                   length := r.length, check := r.check, extents := r.extents }

/-- The version number a new version takes when it commits (R112). -/
def versionAfter (t : Slot) (v : NewVersion) : Nat := if v.first then 1 else nextVersion t.version

/-- A slot as a catalogue-sector write records it: carried changes applied, others not (R18, R111). -/
def Slot.recorded (t : Slot) : List Byte :=
  match t.carried, t.pending with
  | true, some (.newVersion v) =>
    recordBytes { slug := t.slug, origin := v.desk, edition := v.edition, version := versionAfter t v, length := v.length,
                  check := v.check, extents := v.extents }
  | true, some (.removal _) => freeRecordBytes
  | _, _ => if t.state == .filed then recordBytes t.record else freeRecordBytes

/-- The 512 bytes of a catalogue sector built from its eight slots (R18, R111). -/
def sectorImage (slots : Vector Slot 232) (q : CatNo) : List Byte := (slotsOf q).flatMap (fun n => (slots[n]).recorded)

end Sys2Proof.Machine
end

