-- ==== Sys2Proof/Machine/Ops.lean ====
section
/-! DEFINITION. The named operations over State: one update for each part, tallies, pages, replies, notices and events, the
withdrawal of sector requests. -/

namespace Sys2Proof.Machine

/-! ### One update for each part of State -/

def State.setDrive (s : State) (d : DriveNo) (x : DriveUnit) : State := { s with drives := s.drives.set d x }
def State.setSettings (s : State) (d : DriveNo) (x : Settings) : State := { s with settings := s.settings.set d x }
def State.setSched (s : State) (d : DriveNo) (x : Scheduler) : State := { s with scheds := s.scheds.set d x }
def State.setImage (s : State) (d : DriveNo) (x : Option Image) : State := { s with images := s.images.set d x }
def State.setChannel (s : State) (x : Channel) : State := { s with channel := x }
def State.setPool (s : State) (x : Pool) : State := { s with pool := x }
def State.setHandle (s : State) (desk : Desk) (h : HandleNo) (x : Handle) : State :=
  { s with handles := s.handles.set desk ((s.handles[desk]).set h x) }
def State.setDesk (s : State) (desk : Desk) (x : DeskContext) : State := { s with desks := s.desks.set desk x }
def State.setDeskSettings (s : State) (desk : Desk) (x : DeskSettings) : State :=
  { s with deskSettings := s.deskSettings.set desk x }
def State.setLine (s : State) (desk : Desk) (x : LineUnit) : State := { s with lines := s.lines.set desk x }
def State.setDriveTally (s : State) (d : DriveNo) (x : DriveTally) : State :=
  { s with driveTallies := s.driveTallies.set d x }
def State.setDeskTally (s : State) (desk : Desk) (x : DeskTally) : State :=
  { s with deskTallies := s.deskTallies.set desk x }
def State.setSequencer (s : State) (x : Option FormatJob) : State := { s with sequencer := x }
def State.setSeq (s : State) (x : BitVec 32) : State := { s with seq := x }
def State.setTick (s : State) (x : BitVec 32) : State := { s with tick := x }
def State.setImageSerial (s : State) (x : Nat) : State := { s with imageSerial := x }
def State.setPowerGood (s : State) (x : Bool) : State := { s with powerGood := x }

/-- While POWER-GOOD is low the part takes no input (R194). -/
def State.powered (s : State) (f : State → State) : State := if s.powerGood then f s else s

/-- A handle of a desk. -/
def State.handle (s : State) (desk : Desk) (h : HandleNo) : Handle := (s.handles[desk])[h]

/-- What a desk's request in progress becomes. -/
def State.setInProgress (s : State) (desk : Desk) (w : Option Waiting) : State :=
  s.setDesk desk { s.desks[desk] with inProgress := w }

/-- Every desk in ascending order. -/
def allDesks : List Desk := [0, 1, 2, 3, 4, 5, 6, 7]

/-- Every drive in ascending order. -/
def allDrives : List DriveNo := [0, 1, 2, 3]

/-- Every handle in ascending order of desk and then of handle. -/
def allHandles : List (Desk × HandleNo) := allDesks.flatMap (fun desk => [(desk, 0), (desk, 1)])

/-- The level of READY-d (R19). -/
def State.setReady (s : State) (d : DriveNo) (b : Bool) : State := s.setDrive d { s.drives[d] with ready := b }

/-- The level of WRITE-PROTECT-d (R19). -/
def State.setWriteProtect (s : State) (d : DriveNo) (b : Bool) : State := s.setDrive d { s.drives[d] with writeProtect := b }

/-- The level of TRACK-ZERO-d (R19). -/
def State.setTrackZero (s : State) (d : DriveNo) (b : Bool) : State := s.setDrive d { s.drives[d] with trackZero := b }

/-- A drive makes choices and carries sector requests in these states (R21). -/
def DriveState.inUse : DriveState → Bool
  | .mounting | .mounted | .formatting => true
  | _ => false

/-- A drive's HEAD-LOAD line (R19). -/
def DriveUnit.headLoadLine (u : DriveUnit) : Bool :=
  match u.head with
  | .unloaded => false
  | _ => true

/-- A mounted drive is read-only with either attribute set (R26). -/
def DriveUnit.readOnly (u : DriveUnit) : Bool := u.isProtected || u.damaged

/-! ### Tallies, R80 to R82 -/

/-- The counters of R80. -/
inductive DriveCounter where
  | sectorsRead
  | sectorsWritten
  | failedAttempts
  | hardFailures
  | recalibrations
  | relocations
  | speedFaults
  deriving DecidableEq, Repr

/-- A counter of a set goes up and saturates (R80, R82). -/
def DriveTally.count (t : DriveTally) (c : DriveCounter) (k : Nat) : DriveTally :=
  match c with
  | .sectorsRead => { t with sectorsRead := saturate t.sectorsRead k }
  | .sectorsWritten => { t with sectorsWritten := saturate t.sectorsWritten k }
  | .failedAttempts => { t with failedAttempts := saturate t.failedAttempts k }
  | .hardFailures => { t with hardFailures := saturate t.hardFailures k }
  | .recalibrations => { t with recalibrations := saturate t.recalibrations k }
  | .relocations => { t with relocations := saturate t.relocations k }
  | .speedFaults => { t with speedFaults := saturate t.speedFaults k }

/-- A drive tally counter goes up (R80). -/
def State.countDrive (s : State) (d : DriveNo) (c : DriveCounter) (k : Nat) : State :=
  s.setDriveTally d (s.driveTallies[d].count c k)

/-- A discarded frame is counted (R81). -/
def State.countDiscard (s : State) (desk : Desk) : State :=
  s.setDeskTally desk { s.deskTallies[desk] with framesDiscarded := saturate s.deskTallies[desk].framesDiscarded 1 }

/-- A refused request is counted (R81). -/
def State.countRefusal (s : State) (desk : Desk) : State :=
  s.setDeskTally desk { s.deskTallies[desk] with requestsRefused := saturate s.deskTallies[desk].requestsRefused 1 }

/-! ### Pages, R83 and R84 -/

/-- General pages are pages 0 to 55 (R83). -/
def isGeneral (p : PageNo) : Bool := decide (p.val < Config.generalPages)

/-- The page numbers in ascending order. -/
def allPages : List PageNo := List.finRange 64

/-- The lowest free page of a kind (R83). -/
def State.freePageNo (s : State) (general : Bool) : Option PageNo :=
  allPages.find? (fun p => isGeneral p == general && s.pool.pages[p].isNone)

/-- How many general pages are free (R91). -/
def State.freeGeneral (s : State) : Nat := (allPages.filter (fun p => isGeneral p && s.pool.pages[p].isNone)).length

/-- What a page becomes. -/
def State.setPage (s : State) (p : PageNo) (x : Option HeldPage) : State :=
  s.setPool { s.pool with pages := s.pool.pages.set p x }

/-- A page is granted to a holder with all its bytes zero (R83). -/
def State.holdPage (s : State) (p : PageNo) (h : Holder) : State :=
  s.setPage p (some { holder := h, bytes := zeroSector, awaited := false })

/-- A page becomes free; its contents are not kept (R83). -/
def State.freePage (s : State) (p : PageNo) : State := s.setPage p none

/-- The bytes of a held page; a free page has none. -/
def State.pageBytes (s : State) (p : PageNo) : List Byte :=
  match s.pool.pages[p] with
  | none => []
  | some x => x.bytes

/-- The bytes of a held page replaced. -/
def State.fillPage (s : State) (p : PageNo) (bytes : List Byte) : State :=
  match s.pool.pages[p] with
  | none => s
  | some x => s.setPage p (some { x with bytes := bytes })

/-- The page is held by a handle sector of the desk. -/
def heldByDesk (desk : Desk) : Option HeldPage → Bool
  | some { holder := .handleSector e _ _, .. } => e == desk
  | _ => false

/-- A desk's holdings (R84). -/
def State.holdings (s : State) (desk : Desk) : Nat :=
  (allPages.filter (fun p => isGeneral p && heldByDesk desk s.pool.pages[p])).length

/-- The page's free is awaited by a reclaim. -/
def isAwaited : Option HeldPage → Bool
  | some x => x.awaited
  | none => false

/-- The awaited reclaims of a desk (R95). -/
def State.awaitedOf (s : State) (desk : Desk) : Nat :=
  (allPages.filter (fun p => heldByDesk desk s.pool.pages[p] && isAwaited s.pool.pages[p])).length

/-- The awaited reclaims of all desks (R94, R95). -/
def State.awaitedTotal (s : State) : Nat := (allPages.filter (fun p => isAwaited s.pool.pages[p])).length

/-- The desk's holdings are below its quota (R85). -/
def State.belowQuota (s : State) (desk : Desk) : Bool := decide (s.holdings desk < s.deskSettings[desk].quota)

/-- A desk leaves the general waiter list (R89). -/
def State.leaveWaiters (s : State) (desk : Desk) : State :=
  s.setPool { s.pool with waiters := s.pool.waiters.filter (fun w => w.desk != desk) }

/-- A system page waiter joins at the end (R90). -/
def State.joinSystem (s : State) (w : SystemWaiter) : State :=
  s.setPool { s.pool with sysWaiters := s.pool.sysWaiters ++ [w] }

/-- System page waits withdrawn by their asker (R90). -/
def State.leaveSystem (s : State) (drop : SystemWaiter → Bool) : State :=
  s.setPool { s.pool with sysWaiters := s.pool.sysWaiters.filter (fun w => !drop w) }

/-- The system page waits of a drive (R90, R43). -/
def SystemWaiter.ofDrive (d : DriveNo) : SystemWaiter → Bool
  | .mount e => e == d
  | .catalogue e _ => e == d
  | .format => false

/-! ### Notices and events, R147 to R158 -/

/-- A notice meets a queue (R158). -/
def appendNotice (queue : List Notice) (n : Notice) : List Notice :=
  match queue.getLast? with
  | some (.noticesLost k) => queue.dropLast ++ [.noticesLost (min (k + 1) 65535)]
  | _ => if queue.length < Config.maxNotices then queue ++ [n] else queue.dropLast ++ [.noticesLost 2]

/-- A notice is posted to a desk (R158). -/
def State.post (s : State) (desk : Desk) (n : Notice) : State :=
  s.setDesk desk { s.desks[desk] with notices := appendNotice s.desks[desk].notices n }

/-- The notice a subscription gives for an event, if the desk's sets deliver it (R156). -/
def subscriptionNotice (c : DeskContext) : Event → Option Notice
  | .filed d slug desk v first released =>
    if c.filingsSet.getLsbD d.val then some (.filed d slug desk v first released) else none
  | .spiked d slug desk v => if c.filingsSet.getLsbD d.val then some (.spiked d slug desk v) else none
  | .held .. => none
  | .released .. => none
  | .removed d => if c.driveSet.getLsbD d.val then some (.removed d) else none
  | .mounted d name damaged => if c.driveSet.getLsbD d.val then some (.mounted d name damaged) else none
  | .faulted d cause => if c.driveSet.getLsbD d.val then some (.faulted d cause) else none

/-- What a watch sees of a catalogue event: drive, slug, kind and version; drive events satisfy no condition (R150). -/
def Event.seen : Event → Option (DriveNo × Chars × CatalogueEventKind × Nat)
  | .filed d slug _ v _ _ => some (d, slug, .filed, v)
  | .spiked d slug _ v => some (d, slug, .spiked, v)
  | .held d slug _ v => some (d, slug, .held, v)
  | .released d slug _ v => some (d, slug, .released, v)
  | _ => none

/-- An event satisfies a condition (R150). -/
def Condition.satisfiedBy : Condition → Event → Bool
  | .filed, .filed .. => true
  | .filedNew, .filed _ _ _ _ isFirst _ => isFirst
  | .spiked, .spiked .. => true
  | .held, .held .. => true
  | .released, .released .. => true
  | .released, .filed _ _ _ _ _ withRelease => withRelease
  | _, _ => false

/-- A watch meets an event: the watch after it, none for an emptied place, and whether it fired (R151, R152). -/
def Watch.meets (w : Watch) (ev : Event) : Option Watch × Bool :=
  match ev.seen with
  | none => (some w, false)
  | some (d, slug, _, _) =>
    if d != w.drive then (some w, false)
    else
      match w.matched with
      | none =>
        if w.first.satisfiedBy ev && w.start.isPrefixOf slug then
          match w.second with
          | some _ => (some { w with matched := some slug }, false)
          | none => (if w.repeats then some w else none, true)
        else (some w, false)
      | some m =>
        match w.second with
        | none => (some w, false)
        | some c =>
          if c.satisfiedBy ev && slug == m then (if w.repeats then some { w with matched := none } else none, true)
          else (some w, false)

/-- The WATCH-FIRED notice of an event (R152). -/
def firedNotice (i : WatchNo) (ev : Event) : List Notice :=
  match ev.seen with
  | none => []
  | some (_, slug, kind, v) => [.watchFired i slug kind v]

/-- One watch place of a desk meets an event (R151, R152). -/
def DeskContext.watchMeets (c : DeskContext) (ev : Event) (i : WatchNo) : DeskContext :=
  match c.watches[i] with
  | none => c
  | some w =>
    let r := w.meets ev
    let c := { c with watches := c.watches.set i r.1 }
    if r.2 then { c with notices := (firedNotice i ev).foldl appendNotice c.notices } else c

/-- One desk meets an event: the subscription notice first, then its watches in ascending order (R148). -/
def DeskContext.meets (c : DeskContext) (ev : Event) : DeskContext :=
  let c :=
    match subscriptionNotice c ev with
    | none => c
    | some n => { c with notices := appendNotice c.notices n }
  [(0 : WatchNo), 1, 2, 3].foldl (fun c i => c.watchMeets ev i) c

/-- An event is offered to every desk (R147). -/
def State.raise (s : State) (ev : Event) : State :=
  allDesks.foldl (fun s desk => s.setDesk desk (s.desks[desk].meets ev)) s

/-- A watch returns to its first condition when the image of its drive goes (R153). -/
def Watch.returned (d : DriveNo) (w : Watch) : Watch := if w.drive == d then { w with matched := none } else w

/-- The watches of a desk that name a drive go back (R153). -/
def DeskContext.watchesReturned (c : DeskContext) (d : DriveNo) : DeskContext :=
  { c with watches := [(0 : WatchNo), 1, 2, 3].foldl (fun v (i : WatchNo) => v.set i ((v[i]).map (Watch.returned d))) c.watches }

/-- The watches of all desks that name a drive go back (R153). -/
def State.returnWatches (s : State) (d : DriveNo) : State :=
  allDesks.foldl (fun s desk => s.setDesk desk (s.desks[desk].watchesReturned d)) s

/-! ### Replies, R162, R167 and R177 -/

/-- What a reply does to the continuation and the cursor (R177). -/
inductive After where
  | keep
  | clear
  | continues (c : Continuation) (cursor : Nat)
  deriving DecidableEq, Repr

/-- The continuation and cursor after a reply (R177). -/
def DeskContext.after (c : DeskContext) : After → DeskContext
  | .keep => c
  | .clear => { c with continuation := .none, cursor := 0 }
  | .continues k cursor => { c with continuation := k, cursor := cursor }

/-- A reply is appended to the desk's reply queue with the notice count of that moment (R167, R159). -/
def State.queueReply (s : State) (desk : Desk) (r : Reply) : State :=
  s.setLine desk { s.lines[desk] with replies := s.lines[desk].replies ++ [{ r with notices := s.desks[desk].notices.length }] }

/-- The continuation and cursor of a desk after a reply (R177). -/
def State.continueDesk (s : State) (desk : Desk) (a : After) : State := s.setDesk desk (s.desks[desk].after a)

/-- A reply DONE. -/
def State.done (s : State) (desk : Desk) (kind : Byte) (flags : ReplyFlags) (fields : List Byte) (a : After) : State :=
  (s.queueReply desk { kind := kind, result := .done, reason := none, notices := 0, flags := flags, fields := fields,
                       rateChange := none }).continueDesk desk a

/-- A reply REFUSED: no reply fields, counted (R162, R81); a BUSY refusal leaves the continuation (R177). -/
def State.refuse (s : State) (desk : Desk) (kind : Byte) (flags : ReplyFlags) (r : Reason) : State :=
  ((s.queueReply desk { kind := kind, result := .refused, reason := some r, notices := 0, flags := flags, fields := [],
                        rateChange := none }).countRefusal desk).continueDesk desk (if r == .busy then .keep else .clear)

/-- A reply FAILED; its only field is the kept cause of MEDIA (R162, R170). -/
def State.fail (s : State) (desk : Desk) (kind : Byte) (flags : ReplyFlags) (r : Reason) (fields : List Byte) : State :=
  (s.queueReply desk { kind := kind, result := .failed, reason := some r, notices := 0, flags := flags, fields := fields,
                       rateChange := none }).continueDesk desk .clear

/-- The kind a waiting request was sent as. -/
def Waiting.kind : Waiting → Kind
  | .get on _ _ _ => if on then .getOn else .get
  | .put on _ _ _ => if on then .putOn else .put
  | .file _ => .file
  | .spike .. => .spike
  | .unmount _ => .unmount

/-- The flags a waiting request's reply carries whatever its result: class-lowered for a lowered SPIKE (R176). -/
def Waiting.flags : Waiting → ReplyFlags
  | .spike _ _ lowered => loweredFlag lowered
  | _ => noFlags

/-- The handle a waiting request is on. -/
def Waiting.handle : Waiting → Option HandleNo
  | .get _ h _ _ => some h
  | .put _ h _ _ => some h
  | .file h => some h
  | _ => none

/-- The desk's request in progress is answered FAILED and leaves the page waiter list if it is there (R89, R141, R144). -/
def State.failWaiting (s : State) (desk : Desk) (w : Waiting) (r : Reason) (fields : List Byte) : State :=
  ((s.leaveWaiters desk).setInProgress desk none).fail desk w.kind.code w.flags r fields

/-! ### Withdrawing sector requests, R49 and R56 -/

/-- The drive leaves the channel wait list (R56, R64). -/
def State.leaveWaitList (s : State) (d : DriveNo) : State :=
  s.setChannel { s.channel with waitList := s.channel.waitList.filter (fun p => p.1 != d) }

/-- The pass in progress is marked withdrawn (R65, R76). -/
def State.markWithdrawn (s : State) : State :=
  s.setChannel { s.channel with pass := s.channel.pass.map (fun p => { p with withdrawn := true }) }

/-- The request that holds a page is in a pass on the drive. -/
def State.isPassing (s : State) (d : DriveNo) (p : PageNo) : Bool :=
  match s.scheds[d].inHand with
  | some { request := r, phase := .passing } => r.page == p
  | _ => false

/-- The request that holds a page on a drive is withdrawn and the page freed: at once from the work list or from hand, at the
end of its pass when it is in one (R49, R56). -/
def State.withdraw (s : State) (d : DriveNo) (p : PageNo) : State :=
  let q := s.scheds[d]
  let rest := { q with workList := q.workList.filter (fun r => r.page != p) }
  match q.inHand with
  | none => (s.setSched d rest).freePage p
  | some h =>
    if h.request.page != p then (s.setSched d rest).freePage p
    else
      match h.phase with
      | .positioning => (s.setSched d { rest with inHand := none }).freePage p
      | .waiting => ((s.setSched d { rest with inHand := none }).leaveWaitList d).freePage p
      | .passing => (s.setSched d rest).markWithdrawn

end Sys2Proof.Machine
end

