-- ==== Sys2Proof/Machine/Catalogue.lean ====
section
/-! DEFINITION. The catalogue unit: lookup, allocation, holds, versions bound to readers, pending changes and
catalogue-sector write states (R96 to R116). -/

namespace Sys2Proof.Machine

/-- The image a drive byte names; none is NO-DRIVE (R96). -/
def State.imageOf (s : State) (b : Byte) : Option (DriveNo × Image) :=
  match driveOf b with
  | none => none
  | some d => (s.images[d]).map (fun img => (d, img))

/-- A slug lookup: the slot, FILED or CREATING, with the slug (R98). -/
def Image.lookup (img : Image) (slug : Chars) : Option SlotNo :=
  allSlots.find? (fun n => (img.slots[n]).state != .free && (img.slots[n]).slug == slug)

/-- A lookup that treats a CREATING slot as not found (R98). -/
def Image.lookupFiled (img : Image) (slug : Chars) : Option SlotNo :=
  match img.lookup slug with
  | some n => if (img.slots[n]).state == .filed then some n else none
  | none => none

/-- The lowest FREE slot (R97, R133). -/
def Image.freeSlot (img : Image) : Option SlotNo := allSlots.find? (fun n => (img.slots[n]).state == .free)

/-- One slot of an image replaced. -/
def Image.setSlot (img : Image) (n : SlotNo) (t : Slot) : Image := { img with slots := img.slots.set n t }

/-- One slot of a drive's image replaced. -/
def State.setSlot (s : State) (d : DriveNo) (n : SlotNo) (t : Slot) : State :=
  s.setImage d ((s.images[d]).map (fun img => img.setSlot n t))

/-- A slot of a drive's image; without an image there is no story. -/
def State.slot (s : State) (d : DriveNo) (n : SlotNo) : Slot :=
  match s.images[d] with
  | none => Slot.free
  | some img => img.slots[n]

/-! ### Allocation, R100 to R103 -/

/-- The runs of free sectors from `pos` on, between the allocated sectors given in ascending order (R101). -/
def freeRuns : Nat → List Nat → List Extent
  | pos, [] => if pos < Config.dataSectors then [{ start := pos, count := Config.dataSectors - pos }] else []
  | pos, l :: ls => if pos < l then { start := pos, count := l - pos } :: freeRuns (l + 1) ls else freeRuns (max pos (l + 1)) ls

/-- Runs taken whole until the sectors still needed are no more than the next run (R101). -/
def takeRuns : Nat → List Extent → List Extent
  | _, [] => []
  | n, r :: rs => if n = 0 then [] else if n ≤ r.count then [{ start := r.start, count := n }] else r :: takeRuns (n - r.count) rs

/-- A reservation of `n` sectors: its extents, or the refusal (R101). -/
def Image.reserve (img : Image) (n : Nat) : Except Reason (List Extent) :=
  let runs := freeRuns 0 img.allocated
  if totalCount runs < n then .error .diskFull
  else
    let es := takeRuns n runs
    if Config.maxExtents < es.length then .error .fragmented else .ok es

/-- Sectors marked allocated (R100). -/
def Image.markAllocated (img : Image) (ls : List Nat) : Image :=
  { img with allocated := ls.foldl (fun acc l => insertSorted l acc) img.allocated }

/-- Sectors marked free (R100). -/
def Image.markFree (img : Image) (ls : List Nat) : Image :=
  { img with allocated := img.allocated.filter (fun l => !ls.contains l) }

/-- A reservation is given back: its sectors free, those on the suspect list passed over (R102, R103). -/
def Image.giveBack (img : Image) (es : List Extent) : Image :=
  img.markFree ((sectorsOf es).filter (fun l => !img.suspect.contains l))

/-- A reservation of a drive is given back (R102). -/
def State.giveBack (s : State) (d : DriveNo) (es : List Extent) : State :=
  s.setImage d ((s.images[d]).map (fun img => img.giveBack es))

/-- The lowest free sector, for a single-sector take (R102). -/
def Image.lowestFree (img : Image) : Option Nat := ((freeRuns 0 img.allocated).head?).map Extent.start

/-- A sector whose write failed hard joins the suspect list; with the list full the relocation tally counts (R103). -/
def State.addSuspect (s : State) (d : DriveNo) (l : Nat) : State :=
  match s.images[d] with
  | none => s
  | some img =>
    let s := if Config.fullSuspects ≤ img.suspect.length then s.countDrive d .relocations 1 else s
    s.setImage d (some { img with suspect := img.suspect ++ [l] })

/-! ### Holds, R106 -/

/-- The hold on a slot ends: no holder, the holder's count one lower; the event is the caller's (R106). -/
def State.dropHold (s : State) (d : DriveNo) (n : SlotNo) : State :=
  match (s.slot d n).holder with
  | none => s
  | some desk =>
    (s.setSlot d n { s.slot d n with holder := none }).setDesk desk { s.desks[desk] with holds := s.desks[desk].holds - 1 }

/-- A desk takes the hold on a slot nobody holds; the event is the caller's (R106). -/
def State.takeHold (s : State) (d : DriveNo) (n : SlotNo) (desk : Desk) : State :=
  (s.setSlot d n { s.slot d n with holder := some desk }).setDesk desk { s.desks[desk] with holds := s.desks[desk].holds + 1 }

/-- A hold is released with its RELEASED event, which carries the slot's current version (R147). -/
def State.releaseWithEvent (s : State) (d : DriveNo) (n : SlotNo) : State :=
  let t := s.slot d n
  match t.holder with
  | none => s
  | some desk => (s.dropHold d n).raise (.released d t.slug desk t.version)

/-! ### Versions bound to readers, R104 and R105 -/

/-- A read handle gives up its binding: the count of its record goes down by one, and a retired entry at 0 frees its sectors
(R104, R105). -/
def State.unbind (s : State) (d : DriveNo) (n : SlotNo) (b : Binding) : State :=
  match s.images[d] with
  | none => s
  | some img =>
    match b with
    | .current => s.setImage d (some (img.setSlot n { img.slots[n] with readers := (img.slots[n]).readers - 1 }))
    | .retired id =>
      match img.retired.find? (fun r => r.id == id) with
      | none => s
      | some r =>
        if r.readers ≤ 1 then
          s.setImage d (some (Image.markFree { img with retired := img.retired.filter (fun x => x.id != id) } (sectorsOf r.extents)))
        else
          s.setImage d (some { img with retired := img.retired.map (fun x => if x.id == id then { x with readers := x.readers - 1 } else x) })

/-- A read handle bound to the current version of a slot becomes bound to a retired entry (R104). -/
def Handle.rebind (d : DriveNo) (n : SlotNo) (id : Nat) : Handle → Handle
  | .reading r => if r.drive == d && r.slot == n && r.binding == .current then .reading { r with binding := .retired id } else .reading r
  | h => h

/-- The current version of a slot is retired if it has readers, and its sectors marked free if it has none (R105, R112). -/
def State.retire (s : State) (d : DriveNo) (n : SlotNo) : State :=
  match s.images[d] with
  | none => s
  | some img =>
    let t := img.slots[n]
    if t.readers = 0 then s.setImage d (some (img.markFree (sectorsOf t.extents)))
    else
      let id := img.nextRetired
      let img := { img with retired := img.retired ++ [(⟨id, t.extents, t.readers⟩ : Retired)], nextRetired := id + 1 }
      let img := img.setSlot n { t with readers := 0 }
      allHandles.foldl (fun s p => s.setHandle p.1 p.2 ((s.handle p.1 p.2).rebind d n id)) (s.setImage d (some img))

/-! ### Pending changes and write states, R109 to R116 -/

/-- The write state of a catalogue sector. -/
def State.writeState (s : State) (d : DriveNo) (q : CatNo) : WriteState :=
  match s.images[d] with
  | none => .clean
  | some img => img.writes[q]

/-- The write state of a catalogue sector replaced. -/
def State.setWriteState (s : State) (d : DriveNo) (q : CatNo) (w : WriteState) : State :=
  s.setImage d ((s.images[d]).map (fun img => { img with writes := img.writes.set q w }))

/-- A change has been placed on a slot of catalogue sector `q` (R110). -/
def State.markDirty (s : State) (d : DriveNo) (q : CatNo) : State :=
  match s.writeState d q with
  | .clean => (s.setWriteState d q .dirty).joinSystem (.catalogue d q)
  | .dirty => s
  | .writing => s.setWriteState d q .writingDirty
  | .writingDirty => s

/-- A pending change is placed on a slot (R109, R110). -/
def State.placeChange (s : State) (d : DriveNo) (n : SlotNo) (c : Change) : State :=
  (s.setSlot d n { s.slot d n with pending := some c, carried := false }).markDirty d (catalogueOf n)

/-- A slot has a pending change that no write carries. -/
def Slot.uncarried (t : Slot) : Bool := t.pending.isSome && !t.carried

/-- The request of a catalogue-sector write or its ask for a page is withdrawn (R116). -/
def State.withdrawCatalogue (s : State) (d : DriveNo) (q : CatNo) : State :=
  let s := s.leaveSystem (fun w => w == .catalogue d q)
  let mine := fun (r : SectorRequest) => r.owner == .catalogue q
  match s.scheds[d].workList.find? mine with
  | some r => s.withdraw d r.page
  | none =>
    match s.scheds[d].inHand with
    | some h => if mine h.request then s.withdraw d h.request.page else s
    | none => s

/-- An uncarried removal is taken back and the catalogue sector's state set back (R116). -/
def State.takeBackRemoval (s : State) (d : DriveNo) (n : SlotNo) : State :=
  let q := catalogueOf n
  let s := s.setSlot d n { s.slot d n with pending := none, carried := false }
  match s.writeState d q with
  | .dirty =>
    if (slotsOf q).any (fun m => (s.slot d m).pending.isSome) then s
    else (s.withdrawCatalogue d q).setWriteState d q .clean
  | .writingDirty =>
    if (slotsOf q).any (fun m => (s.slot d m).uncarried) then s else s.setWriteState d q .writing
  | _ => s

/-- A write handle, whatever its state, is open on a slot (R117, R133). -/
def State.writerOn (s : State) (d : DriveNo) (n : SlotNo) : Bool :=
  allHandles.any (fun p =>
    match s.handle p.1 p.2 with
    | .writing w => w.drive == d && w.slot == n
    | _ => false)

/-- A handle of a desk is open for writing on a slot (R108). -/
def State.deskWriterOn (s : State) (desk : Desk) (d : DriveNo) (n : SlotNo) : Bool :=
  [(0 : HandleNo), 1].any (fun h =>
    match s.handle desk h with
    | .writing w => w.drive == d && w.slot == n
    | _ => false)

/-- A handle other than FREE or LOST is open on a drive (R186, R189). -/
def Handle.openOn (d : DriveNo) : Handle → Bool
  | .reading r => r.drive == d
  | .writing w => w.drive == d
  | _ => false

/-- Any handle of any desk is open on a drive (R186, R189). -/
def State.anyOpenOn (s : State) (d : DriveNo) : Bool := allHandles.any (fun p => (s.handle p.1 p.2).openOn d)

/-- Every catalogue sector of an image is CLEAN (R186). -/
def Image.allClean (img : Image) : Bool := (List.finRange 29).all (fun q => img.writes[q] == .clean)

end Sys2Proof.Machine
end

