-- ==== Sys2Proof/Machine/Schedule.lean ====
section
/-! DEFINITION. The mechanism of a drive (seek, recalibration, head load), the choice of the next sector request, the channel
wait list and arbiter, the start of a pass, and the joining of a work list (R31 to R34, R45 to R62, R66, R111). -/

namespace Sys2Proof.Machine

/-! ### The mechanism, R31 to R34 -/

/-- One step pulse toward a target: the position moves one cylinder (R31). -/
def towards (position target : Nat) : Nat :=
  if position < target then position + 1 else if target < position then position - 1 else position

/-- A seek starts: DIRECTION set, the first pulse issued, the interval and settle of now kept (R31, R41). -/
def DriveUnit.startSeek (u : DriveUnit) (st : Settings) (position target : Nat) : DriveUnit :=
  { u with direction := decide (position < target), position := some (towards position target), stepPulses := 1,
           motion := .seekStep target st.settle st.stepInterval st.stepInterval }

/-- A head load starts when the head is UNLOADED; a head-load time of 0 makes it LOADED at once (R34). -/
def DriveUnit.startLoad (u : DriveUnit) (st : Settings) : DriveUnit :=
  match u.head with
  | .unloaded => { u with head := if st.headLoad = 0 then .loaded else .loading st.headLoad }
  | _ => u

/-- The drive record when a recalibration starts: DIRECTION outward, TRACK-ZERO sampled, the first pulse or the settle
(R32, R33). -/
def DriveUnit.startRecal (u : DriveUnit) (st : Settings) : DriveUnit :=
  let u := { u with direction := false, position := none, pendingRecal := false }
  if u.trackZero then { u with stepPulses := 0, motion := .recalSettle st.settle }
  else { u with stepPulses := 1, motion := .recalStep 1 st.settle st.stepInterval st.stepInterval }

/-- A recalibration starts and counts in the tally (R32, R80). -/
def State.startRecal (s : State) (d : DriveNo) : State :=
  (s.setDrive d (s.drives[d].startRecal s.settings[d])).countDrive d .recalibrations 1

/-! ### Cost and choice, R51 to R54 -/

/-- The absolute difference of two cylinders. -/
def cylindersApart (a b : Nat) : Nat := (a - b) + (b - a)

/-- The positioning cost of a target and its wait: C and W of R53. -/
def positioningCost (st : Settings) (u : DriveUnit) (position skew : Nat) (t : Target) : Nat × Nat :=
  let e := u.elapsed % u.period
  let delta := cylindersApart t.cylinder position
  let seek := delta * st.stepInterval + (if 0 < delta then st.settle else 0)
  let load := if u.head = .loaded then 0 else st.headLoad
  let positioning := max seek load
  let a := (e + positioning) % u.period
  let o := slotStart u.period (rotationalSlot skew t.cylinder t.sector)
  let w0 := (o + (u.period - a)) % u.period
  let w := if w0 < Config.guardTicks then w0 + u.period else w0
  (positioning + w, w)

/-- The skew of the cost: the volume's while MOUNTED, else 0 (R8, R53). -/
def State.costSkew (s : State) (d : DriveNo) : Nat :=
  if s.drives[d].state = .mounted then
    match s.images[d] with
    | some img => img.skew
    | none => 0
  else 0

/-- A request's age has reached the drive's aging limit (R46, R52). -/
def State.aged (s : State) (d : DriveNo) (r : SectorRequest) : Bool := decide (s.settings[d].aging ≤ (s.tick - r.entry).toNat)

/-- URGENT by class or by promotion (R52, R59). -/
def State.counts (s : State) (d : DriveNo) (r : SectorRequest) : Class :=
  if r.cls == .urgent || s.aged d r then .urgent else .routine

/-- One seq is earlier than another (R46). -/
def earlier (a b : BitVec 32) : Bool := decide (1 ≤ (b - a).toNat) && decide ((b - a).toNat ≤ 2147483647)

/-- The better of two candidates: the less cost, of equal costs the earlier seq (R54). -/
def better (c : Nat × SectorRequest) : Option (Nat × SectorRequest) → Option (Nat × SectorRequest)
  | none => some c
  | some b => if c.1 < b.1 ∨ (c.1 = b.1 ∧ earlier c.2.seq b.2.seq = true) then some c else some b

/-- The candidates of a choice: the URGENT requests if there is one, else all (R52). -/
def State.candidates (s : State) (d : DriveNo) : List SectorRequest :=
  let urgent := s.scheds[d].workList.filter (fun r => s.counts d r == .urgent)
  if urgent.isEmpty then s.scheds[d].workList else urgent

/-- The request a drive chooses (R54). -/
def State.chosen (s : State) (d : DriveNo) : Option SectorRequest :=
  match s.drives[d].position with
  | none => none
  | some position =>
    ((s.candidates d).foldl
      (fun best r => better ((positioningCost s.settings[d] s.drives[d] position (s.costSkew d) r.target).1, r) best) none).map Prod.snd

/-- The conditions of a choice other than a pending recalibration and an empty work list (R51). -/
def State.mayAct (s : State) (d : DriveNo) : Bool :=
  let u := s.drives[d]
  u.state.inUse && s.scheds[d].inHand.isNone && u.motion == .still
    && (match u.head with | .loading _ => false | _ => true) && !s.scheds[d].workList.isEmpty

/-- The request in hand enters WAITING and the drive joins the channel wait list with the urgency judged now (R55, R59). -/
def State.enterWaiting (s : State) (d : DriveNo) (r : SectorRequest) : State :=
  (s.setSched d { s.scheds[d] with inHand := some { request := r, phase := .waiting } }).setChannel
    { s.channel with waitList := s.channel.waitList ++ [(d, s.counts d r)] }

/-- A chosen request leaves the work list and the idle count is 0 (R54). -/
def State.takeChosen (s : State) (d : DriveNo) (r : SectorRequest) : State :=
  (s.setSched d { s.scheds[d] with workList := s.scheds[d].workList.filter (fun x => x.page != r.page) }).setDrive d
    { s.drives[d] with idleCount := 0 }

/-- A chosen request is in hand: seek and head load start, or it enters WAITING at once (R34, R54). -/
def State.putInHand (s : State) (d : DriveNo) (r : SectorRequest) : State :=
  let u := s.drives[d]
  let position := u.position.getD 0
  let moved := if position = r.target.cylinder then u else u.startSeek s.settings[d] position r.target.cylinder
  let loaded := moved.startLoad s.settings[d]
  let s := s.setDrive d loaded
  if loaded.motion = .still ∧ loaded.head = .loaded then s.enterWaiting d r
  else s.setSched d { s.scheds[d] with inHand := some { request := r, phase := .positioning } }

/-- What a drive does as soon as it can: a positioned request enters WAITING, a pending recalibration starts, or the next
request is chosen (R51, R54, R55, R78). A drive whose pass has just ended, and that holds the channel still, chooses under R62. -/
def State.driveActs (s : State) (d : DriveNo) : State :=
  match s.scheds[d].inHand with
  | some { request := r, phase := .positioning } =>
    if s.drives[d].motion = .still ∧ s.drives[d].head = .loaded then s.enterWaiting d r else s
  | some _ => s
  | none =>
    if s.channel.grant ≠ some d ∧ s.mayAct d = true then
      if s.drives[d].pendingRecal then s.startRecal d
      else
        match s.chosen d with
        | none => s
        | some r => (s.takeChosen d r).putInHand d r
    else s

/-! ### The channel and the start of a pass, R57 to R62, R65, R66, R111 -/

/-- The pending changes of a catalogue sector get their carried marks at its first grant (R111). -/
def State.markCarried (s : State) (d : DriveNo) (q : CatNo) : State :=
  (slotsOf q).foldl (fun s n => s.setSlot d n { s.slot d n with carried := (s.slot d n).pending.isSome }) s

/-- The catalogue unit builds the sector image at the grant (R66, R111). -/
def State.buildSector (s : State) (d : DriveNo) (q : CatNo) (p : PageNo) : State :=
  let s := if s.writeState d q = .dirty then (s.markCarried d q).setWriteState d q .writing else s
  match s.images[d] with
  | none => s
  | some img => s.fillPage p (sectorImage img.slots q)

/-- The pass of the request in hand starts (R61, R65, R66). -/
def State.startPass (s : State) (d : DriveNo) (r : SectorRequest) : State :=
  let phase := if r.operation = .formatTrack then PassPhase.formatWait else .search
  let s := s.setSched d { s.scheds[d] with inHand := some { request := r, phase := .passing } }
  let s := s.setChannel
    { s.channel with headSelect := r.target.head, writeGate := false, writeData := .none,
                     pass := some { drive := d, phase := phase, indexCount := 0, wrongCount := 0, withdrawn := false,
                                    matched := false, finishing := false } }
  match r.owner with
  | .catalogue q => s.buildSector d q r.page
  | _ => s

/-- The drive the arbiter grants: the earliest-joined URGENT one, else the earliest-joined (R60). -/
def Channel.next (c : Channel) : Option DriveNo :=
  match c.waitList.find? (fun p => p.2 == .urgent) with
  | some p => some p.1
  | none => (c.waitList.head?).map Prod.fst

/-- The arbiter grants a free channel (R60). -/
def State.grantChannel (s : State) : State :=
  match s.channel.grant, s.channel.next with
  | none, some d =>
    let s := (s.leaveWaitList d)
    let s := s.setChannel { s.channel with grant := some d }
    let s := s.setSched d { s.scheds[d] with runLength := 1 }
    match s.scheds[d].inHand with
    | some h => s.startPass d h.request
    | none => s
  | _, _ => s

/-- The channel is released by the granted drive, and granted at once if a drive waits (R58). -/
def State.releaseChannel (s : State) (d : DriveNo) : State :=
  if s.channel.grant = some d then
    ((s.setChannel { s.channel with grant := none }).setSched d { s.scheds[d] with runLength := 0 }).grantChannel
  else s

/-- Every drive does what it can, in ascending order, and the channel is granted when it is free (R51, R60, log 13). -/
def State.runDrives (s : State) : State :=
  allDrives.foldl (fun s d => (s.driveActs d).grantChannel) s.grantChannel

/-- A run goes on with a choice made at the end of a successful pass (R62). -/
def State.runGoesOn (s : State) (d : DriveNo) (r : SectorRequest) : Bool :=
  let u := s.drives[d]
  match u.position with
  | none => false
  | some position =>
    decide (r.target.cylinder = position)
      && decide ((positioningCost s.settings[d] u position (s.costSkew d) r.target).2 < u.period / 15)
      && decide (s.scheds[d].runLength < Config.maxRun)
      && (s.channel.waitList.all (fun p => p.2 != .urgent) || s.counts d r == .urgent)

/-- The end of a successful pass at the channel: the next choice passes at once, or the channel is released (R62). -/
def State.continueRun (s : State) (d : DriveNo) : State :=
  if s.channel.grant = some d then
    if s.mayAct d && !s.drives[d].pendingRecal then
      match s.chosen d with
      | none => s.releaseChannel d
      | some r =>
        let goesOn := s.runGoesOn d r
        let s := s.takeChosen d r
        if goesOn then (s.setSched d { s.scheds[d] with runLength := s.scheds[d].runLength + 1 }).startPass d r
        else (s.releaseChannel d).putInHand d r
    else s.releaseChannel d
  else s

/-! ### Joining a work list, R45, R48 and R51 -/

/-- A sector request joins the work list of its drive with the next seq and the tick count (R45, R46, R48). -/
def State.joins (s : State) (d : DriveNo) (t : Target) (op : Operation) (p : PageNo) (o : Owner) (c : Class) : State :=
  let r : SectorRequest :=
    { seq := s.seq, drive := d, target := t, operation := op, page := p, owner := o, cls := c, entry := s.tick, attempts := 0,
      recalibrated := false }
  (s.setSched d { s.scheds[d] with workList := s.scheds[d].workList ++ [r] }).setSeq (s.seq + 1)

/-- A sector request joins the work list of a drive in use, which is a moment of choice (R51): what the drives could already do is
done before it, so that it is no candidate of a choice that was due, and its drive does at once what it makes possible. -/
def State.joinsAndActs (s : State) (d : DriveNo) (t : Target) (op : Operation) (p : PageNo) (o : Owner) (c : Class) : State :=
  ((s.runDrives.joins d t op p o c).driveActs d).grantChannel

end Sys2Proof.Machine
end

