-- ==== Sys2Proof/Machine/Filing.lean ====
section
/-! DEFINITION. The filing unit and the grants of general pages: sector tables, reads and writes of handles, read-ahead,
reclaim, the storing of a PUT, the answering of a GET, relocation, failure, closing, dropping and loss of handles
(R86 to R95, R121 to R146), and the placing of sector requests (R48). -/

namespace Sys2Proof.Machine

/-! ### Giving up pages -/

/-- The page of a sector of a read handle is given up: a READING sector's read is withdrawn, a PRESENT sector's page freed
(R129, R131). -/
def State.giveUpRead (s : State) (d : DriveNo) : ReadEntry → State
  | .absent => s
  | .reading p => s.withdraw d p
  | .present p => s.freePage p

/-- The page of a sector of a write handle is given up: a WRITING sector's write is withdrawn, a FILLING sector's page freed
(R141, R143). -/
def State.giveUpWrite (s : State) (d : DriveNo) : WriteEntry → State
  | .unstarted => s
  | .filling p => s.freePage p
  | .writing p => s.withdraw d p
  | .written => s

/-- The pages of a read handle's sectors are given up one after another. -/
def State.giveUpReads (s : State) (d : DriveNo) (table : List ReadEntry) : State := table.foldl (fun s e => State.giveUpRead s d e) s

/-- The pages of a write handle's sectors are given up one after another. -/
def State.giveUpWrites (s : State) (d : DriveNo) (table : List WriteEntry) : State := table.foldl (fun s e => State.giveUpWrite s d e) s

/-- A read handle is closed: pages given up, the binding's count lowered, the handle FREE (R131). -/
def State.closeRead (s : State) (desk : Desk) (h : HandleNo) (r : ReadHandle) : State :=
  ((s.giveUpReads r.drive r.table).unbind r.drive r.slot r.binding).setHandle desk h .free

/-- The CREATING slot of a write that is given up becomes FREE, its hold released with a RELEASED event if it is held still
(R143, R144). DEDUCED (log 23): a slot already unheld raises no event. -/
def State.freeCreating (s : State) (d : DriveNo) (n : SlotNo) : State := (s.releaseWithEvent d n).setSlot d n Slot.free

/-- A write handle gives up its pages and its reservation, and in NEW mode its slot and hold; the handle becomes FREE
(R143). -/
def State.dropWrite (s : State) (desk : Desk) (h : HandleNo) (w : WriteHandle) : State :=
  let s := (s.giveUpWrites w.drive w.table).giveBack w.drive w.reservation
  let s := if w.mode == .new then s.freeCreating w.drive w.slot else s
  s.setHandle desk h .free

/-! ### Lost handles, R144 -/

/-- How a handle is lost: with its image, or while the image still stands (R144). -/
inductive Loss where
  | withImage
  | imageStands
  deriving DecidableEq, Repr

/-- The waiting request on a handle is answered FAILED; a FILE whose version is placed is left to the catalogue unit
(R141, R144). -/
def State.failOnHandle (s : State) (desk : Desk) (h : HandleNo) (placed : Bool) (r : Reason) : State :=
  match s.desks[desk].inProgress with
  | none => s
  | some w =>
    if w.handle == some h && !(placed && w == .file h) then s.failWaiting desk w r [] else s

/-- The HANDLE-LOST notice, unless the desk was reset since the handle was opened (R144). It comes before the RELEASED event
of a dropped handle (R148, log 14). -/
def State.postLost (s : State) (desk : Desk) (h : HandleNo) (cause : Reason) (orphan : Bool) : State :=
  if orphan then s else s.post desk (.handleLost desk h cause)

/-- The handle becomes LOST and its waiting request is answered; a handle of a desk reset since it was opened becomes FREE
(R144, R145). -/
def State.markLost (s : State) (desk : Desk) (h : HandleNo) (l : LostHandle) (placed orphan : Bool) : State :=
  if orphan then s.setHandle desk h .free
  else (s.setHandle desk h (.lost l)).failOnHandle desk h placed l.cause

/-- A handle is lost (R144). -/
def State.loseHandle (s : State) (desk : Desk) (h : HandleNo) (cause : Reason) (how : Loss) : State :=
  match s.handle desk h with
  | .reading r =>
    let s := s.postLost desk h cause false
    let s :=
      match how with
      | .withImage => s.giveUpReads r.drive r.table
      | .imageStands => s.closeRead desk h r
    s.markLost desk h { drive := r.drive, slot := r.slot, slug := r.slug, cls := r.cls, length := r.length, cause := cause } false false
  | .writing w =>
    let s := s.postLost desk h cause w.orphan
    let s :=
      match how with
      | .withImage => s.giveUpWrites w.drive w.table
      | .imageStands => s.dropWrite desk h w
    s.markLost desk h { drive := w.drive, slot := w.slot, slug := w.slug, cls := w.cls, length := w.length, cause := cause } w.placed w.orphan
  | _ => s

/-! ### Placing sector requests, R45 to R48 -/

/-- The owner of a request that ends because its drive is not in use (R48): a handle is lost, and a mount, a format or a
catalogue write ended with its drive. -/
def State.driveLostTo (s : State) (o : Owner) : State :=
  match o with
  | .handleSector desk h _ => s.loseHandle desk h .driveLost .withImage
  | _ => s

/-- A sector request is placed (R48): it joins the work list of a drive in use, and ends with the drive lost on any other. -/
def State.place (s : State) (d : DriveNo) (t : Target) (op : Operation) (p : PageNo) (o : Owner) (c : Class) : State :=
  if s.drives[d].state.inUse then s.joinsAndActs d t op p o c else (s.freePage p).driveLostTo o

/-- The place of a story sector through the extents bound to a handle (R16). -/
def storyTarget (es : List Extent) (j : Nat) : Target := targetOfL ((sectorAt es j).getD 0)

/-- A story sector becomes READING with a page, and its READ is placed with the handle's class (R124, R128). -/
def State.startRead (s : State) (desk : Desk) (h : HandleNo) (r : ReadHandle) (j : Nat) (p : PageNo) : State :=
  (s.setHandle desk h (.reading { r with table := r.table.set j (.reading p) })).place r.drive (storyTarget r.extents j) .read p
    (.handleSector desk h j) r.cls

/-- A story sector becomes WRITING, and its WRITE is placed with the handle's class (R138, R140). -/
def State.startWrite (s : State) (desk : Desk) (h : HandleNo) (w : WriteHandle) (j : Nat) (p : PageNo) : State :=
  (s.setHandle desk h (.writing { w with table := w.table.set j (.writing p) })).place w.drive (storyTarget w.reservation j) .write p
    (.handleSector desk h j) w.cls

/-! ### Storing a PUT, R135 to R138 -/

/-- Where story sector `j` of a write handle ends: at its last byte, or at the story's (R138). -/
def sectorEnd (length j : Nat) : Nat := min (512 * (j + 1)) length

/-- The page of a FILLING sector. -/
def fillingPage (table : List WriteEntry) (j : Nat) : Option PageNo :=
  match table.getD j .unstarted with
  | .filling p => some p
  | _ => none

/-- New bytes go into their sectors' pages at their places, one sector after another (R136). -/
def State.storeIn (s : State) (table : List WriteEntry) (j : Nat) (from' : Nat) (bytes : List Byte) : State :=
  match fillingPage table j with
  | none => s
  | some p => s.fillPage p (overwrite (s.pageBytes p) (from' - 512 * j) bytes)

/-- A FILLING sector whose end W has reached is queued for writing (R138). -/
def State.queueSector (s : State) (desk : Desk) (h : HandleNo) (j : Nat) : State :=
  match s.handle desk h with
  | .writing w =>
    match fillingPage w.table j with
    | some p => if sectorEnd w.length j ≤ w.mark then s.startWrite desk h w j p else s
    | none => s
  | _ => s

/-- The story sector that needs a page before a PUT can store: the one W begins, or the one the new bytes cross into (R136). -/
def putNeeds (w : WriteHandle) (upTo : Nat) : Option Nat :=
  if w.mark % 512 = 0 then some (w.mark / 512)
  else if (upTo - 1) / 512 = w.mark / 512 then none else some ((upTo - 1) / 512)

/-- The new bytes of a PUT are stored, the sectors they complete are queued, and the PUT is answered DONE with the new W and
the number of new bytes (R136, R138, R177). Two sectors are queued when the bytes reach the ends of two (log 17). -/
def State.storePut (s : State) (desk : Desk) (h : HandleNo) (w : WriteHandle) (on : Bool) (offset : Nat) (data : List Byte)
    (page : Option (Nat × PageNo)) : State :=
  let upTo := offset + data.length
  let new := data.drop (w.mark - offset)
  let j := w.mark / 512
  let here := new.take (512 * (j + 1) - w.mark)
  let table :=
    match page with
    | none => w.table
    | some (k, p) => w.table.set k (.filling p)
  let w' := { w with table := table, mark := upTo, check := checkFrom w.check new }
  let s := s.setHandle desk h (.writing w')
  let s := (s.storeIn table j w.mark here).storeIn table (j + 1) (512 * (j + 1)) (new.drop here.length)
  let s := (s.queueSector desk h j).queueSector desk h (j + 1)
  (s.setInProgress desk none).done desk (if on then Kind.putOn.code else Kind.put.code) noFlags
    (twoBytes upTo ++ [byteOf new.length]) (.continues (.put h) upTo)

/-! ### Grants and reclaims of general pages, R86 to R95 -/

/-- A general page is granted to a waiter for the lowest sector it lacks, and its request goes on (R88, R128, R136). -/
def State.grantWaiter (s : State) (w : Waiter) (p : PageNo) : State :=
  match w.lacks with
  | [] => s.leaveWaiters w.desk
  | j :: rest =>
    let s := s.holdPage p (.handleSector w.desk w.handle j)
    let s :=
      if rest = [] then s.leaveWaiters w.desk
      else s.setPool { s.pool with waiters := s.pool.waiters.map (fun x => if x.desk == w.desk then { x with lacks := rest } else x) }
    match s.handle w.desk w.handle, s.desks[w.desk].inProgress with
    | .reading r, _ => s.startRead w.desk w.handle r j p
    | .writing v, some (.put on _ offset data) => s.storePut w.desk w.handle v on offset data (some (j, p))
    | _, _ => s.freePage p

/-- The oldest eligible waiter of a class (R87, R88). -/
def State.eligible (s : State) (c : Class) : Option Waiter :=
  s.pool.waiters.find? (fun w => w.cls == c && s.belowQuota w.desk)

/-- The waiter a free page goes to: the oldest eligible URGENT one, else the oldest eligible ROUTINE one (R88). -/
def State.nextWaiter (s : State) : Option Waiter :=
  match s.eligible .urgent with
  | some w => some w
  | none => s.eligible .routine

/-- The page of a READING or PRESENT sector. -/
def ReadEntry.page : ReadEntry → Option PageNo
  | .absent => none
  | .reading p => some p
  | .present p => some p

/-- The sectors a desk's waiting GET needs on a handle (R92). -/
def State.neededBy (s : State) (desk : Desk) (h : HandleNo) : List Nat :=
  match s.desks[desk].inProgress with
  | some (.get _ g offset n) => if g == h then sectorsCovering offset n else []
  | _ => []

/-- The farthest read-ahead page of one handle, with its distance (R92). -/
def State.farthestOf (s : State) (desk : Desk) (h : HandleNo) : Option (Nat × Nat) :=
  match s.handle desk h with
  | .reading r =>
    let mine := (List.range r.table.length).filter (fun j =>
      (r.table.getD j .absent).page.isSome && decide (r.delivery ≤ 512 * j) && !(s.neededBy desk h).contains j)
    mine.getLast?.map (fun j => (512 * j - r.delivery, j))
  | _ => none

/-- The farthest read-ahead page among some handles: of equal distances the first in the order given (R93, R94). -/
def State.farthest (s : State) (hs : List (Desk × HandleNo)) : Option (Desk × HandleNo × Nat × Nat) :=
  hs.foldl
    (fun best p =>
      match s.farthestOf p.1 p.2, best with
      | none, _ => best
      | some (dist, j), none => some (p.1, p.2, dist, j)
      | some (dist, j), some b => if b.2.2.1 < dist then some (p.1, p.2, dist, j) else best)
    none

/-- A read-ahead page is reclaimed: the sector is ABSENT at once, the page freed now or awaited at the end of its pass (R95). -/
def State.reclaim (s : State) (desk : Desk) (h : HandleNo) (j : Nat) : State :=
  match s.handle desk h with
  | .reading r =>
    let e := r.table.getD j .absent
    let s := s.setHandle desk h (.reading { r with table := r.table.set j .absent })
    match e with
    | .reading p =>
      let s := if s.isPassing r.drive p then s.setPage p ((s.pool.pages[p]).map (fun x => { x with awaited := true })) else s
      s.withdraw r.drive p
    | e => s.giveUpRead r.drive e
  | _ => s

/-- The desk reclaim of R93: the first waiting desk at or above its quota, less its awaited reclaims, that holds a read-ahead
page. DESIGN CHOICE (log 28): of two such desks the one that stands earlier in the waiter list comes first. -/
def State.deskReclaim (s : State) : Option State :=
  s.pool.waiters.findSome? (fun w =>
    if s.deskSettings[w.desk].quota ≤ s.holdings w.desk - s.awaitedOf w.desk then
      (s.farthest [(w.desk, 0), (w.desk, 1)]).map (fun b => s.reclaim b.1 b.2.1 b.2.2.2)
    else none)

/-- The sectors the eligible waiters lack (R94). -/
def State.eligibleLacks (s : State) : Nat :=
  ((s.pool.waiters.filter (fun w => s.belowQuota w.desk)).map (fun w => w.lacks.length)).sum

/-- The pool reclaim of R94. DESIGN CHOICE (log 31): its test is made whenever the pools are served, so also when a CANCEL or the answer
to a GET has made a held page a read-ahead page, and not only on the occasions that R94 lists. -/
def State.poolReclaim (s : State) : Option State :=
  if (s.freePageNo true).isNone && decide (s.awaitedTotal < s.eligibleLacks) then
    (s.farthest allHandles).map (fun b => s.reclaim b.1 b.2.1 b.2.2.2)
  else none

/-- One grant of a free general page, or one reclaim, if one is due (R88, R93, R94). DESIGN CHOICE: the desk reclaim is made before
the pool reclaim (log 28), and the test of R94 is made whenever the pools are served (log 31). -/
def State.serveOnce (s : State) : Option State :=
  match s.freePageNo true, s.nextWaiter with
  | some p, some w => some (s.grantWaiter w p)
  | _, _ =>
    match s.deskReclaim with
    | some t => some t
    | none => s.poolReclaim

/-- Grants and reclaims until none is due; `n` bounds their number (R88, R93, R94). -/
def State.serveUpTo : Nat → State → State
  | 0, s => s
  | n + 1, s =>
    match s.serveOnce with
    | none => s
    | some t => State.serveUpTo n t

/-- Every grant and reclaim that is due. A waiter lacks at most two sectors and there are at most 8 waiters and 56 general
pages, so at most 16 grants and 56 reclaims can follow one another (R86, R88). -/
def State.serveGeneral (s : State) : State := s.serveUpTo 80

/-! ### Asking for pages, R86 and R91 -/

/-- A page for one sector of an ask, if one is free and the desk is below its quota (R86). -/
def State.askNow (s : State) (desk : Desk) : Option PageNo := if s.belowQuota desk then s.freePageNo true else none

/-- The ask of a GET: pages at once for the lowest sectors, the request a waiter for the others (R86, R128). -/
def State.askForGet (s : State) (desk : Desk) (h : HandleNo) : List Nat → State
  | [] => s
  | j :: js =>
    match s.handle desk h, s.askNow desk with
    | .reading r, some p => ((s.holdPage p (.handleSector desk h j)).startRead desk h r j p).askForGet desk h js
    | .reading r, none =>
      s.setPool { s.pool with waiters := s.pool.waiters ++ [{ desk := desk, handle := h, cls := r.cls, lacks := j :: js }] }
    | _, _ => s

/-! ### Read-ahead, R124 -/

/-- A sector of a read handle lies wholly below a delivery point (R129). -/
def whollyBelow (length delivery j : Nat) : Bool := decide (min (512 * (j + 1)) length ≤ delivery)

/-- The target of read-ahead: the lowest ABSENT sector at or above the read-ahead point that does not lie wholly below the
delivery point (R124). -/
def ReadHandle.target (r : ReadHandle) : Option Nat :=
  (List.range r.table.length).find? (fun j =>
    decide (r.readAhead ≤ j) && r.table.getD j .absent == .absent && !whollyBelow r.length r.delivery j)

/-- How many sectors of a handle are READING (R124). -/
def ReadHandle.readingCount (r : ReadHandle) : Nat :=
  (r.table.filter (fun e => match e with | .reading _ => true | _ => false)).length

/-- Read-ahead on one occasion: at most `n` reads are placed (R91, R124). -/
def State.readAheadUpTo : Nat → State → Desk → HandleNo → State
  | 0, s, _, _ => s
  | n + 1, s, desk, h =>
    match s.handle desk h with
    | .reading r =>
      match r.target with
      | none => s
      | some j =>
        if r.readingCount < 2 && decide (Config.readAheadSlack < s.freeGeneral) && s.belowQuota desk && s.pool.waiters.isEmpty then
          match s.freePageNo true with
          | none => s
          | some p => State.readAheadUpTo n ((s.holdPage p (.handleSector desk h j)).startRead desk h r j p) desk h
        else s
    | _ => s

/-- Read-ahead on one occasion: fewer than two sectors READING allow at most two reads (R124). -/
def State.readAhead (s : State) (desk : Desk) (h : HandleNo) : State := s.readAheadUpTo 2 desk h

/-! ### Answering a GET, R126 to R130 -/

/-- The read-ahead point after a delivery (R129). -/
def readAheadAfter (old new point n : Nat) : Nat :=
  let least := min (new / 512) n
  if new < old then least else max point least

/-- The sector table after a delivery: the sectors wholly below the new point ABSENT (R129). -/
def tableAfter (r : ReadHandle) (delivery : Nat) : List ReadEntry :=
  (List.range r.table.length).map (fun j => if whollyBelow r.length delivery j then .absent else r.table.getD j .absent)

/-- The entries that give up their pages at a delivery (R129). -/
def givenUpAfter (r : ReadHandle) (delivery : Nat) : List ReadEntry :=
  (List.range r.table.length).filterMap (fun j => if whollyBelow r.length delivery j then some (r.table.getD j .absent) else none)

/-- The delivery point moves, sectors wholly below it give up their pages, the read-ahead point is set and read-ahead tried
(R129, R124). -/
def State.deliver (s : State) (desk : Desk) (h : HandleNo) (r : ReadHandle) (delivery : Nat) : State :=
  let r' := { r with delivery := delivery, table := tableAfter r delivery,
                     readAhead := readAheadAfter r.delivery delivery r.readAhead (sectorsFor r.length) }
  let s := s.setHandle desk h (.reading r')
  (s.giveUpReads r.drive (givenUpAfter r delivery)).serveGeneral.readAhead desk h

/-- The story bytes of a range whose sectors are PRESENT (R126). -/
def State.rangeBytes (s : State) (r : ReadHandle) (offset n : Nat) : List Byte :=
  (((sectorsCovering offset n).flatMap (fun j =>
      match r.table.getD j .absent with
      | .present p => s.pageBytes p
      | _ => [])).drop (offset - 512 * (offset / 512))).take n

/-- A GET is answered DONE with the bytes of its range; the end flag is set at the story's end (R126, R129, R177). -/
def State.answerGet (s : State) (desk : Desk) (h : HandleNo) (r : ReadHandle) (on : Bool) (offset n : Nat) : State :=
  let bytes := if n = 0 then [] else s.rangeBytes r offset n
  ((s.setInProgress desk none).done desk (if on then Kind.getOn.code else Kind.get.code)
      (endFlag (decide (r.length ≤ offset + n))) (byteOf n :: bytes) (.continues (.get h) (offset + n))).deliver desk h r (offset + n)

/-- Every sector of a range is PRESENT (R128). -/
def ReadHandle.covers (r : ReadHandle) (offset n : Nat) : Bool :=
  (sectorsCovering offset n).all (fun j => match r.table.getD j .absent with | .present _ => true | _ => false)

/-- A desk's waiting GET is examined: answered when every sector of its range is PRESENT (R128). -/
def State.examineGet (s : State) (desk : Desk) : State :=
  match s.desks[desk].inProgress with
  | some (.get on h offset n) =>
    match s.handle desk h with
    | .reading r => if r.covers offset n then s.answerGet desk h r on offset n else s
    | _ => s
  | _ => s

/-- The read of a sector failed for good: a waiting GET that needs it is answered FAILED MEDIA with the cause (R130). -/
def State.failGet (s : State) (desk : Desk) (h : HandleNo) (j : Nat) (cause : PassCause) : State :=
  match s.desks[desk].inProgress with
  | some (.get on g offset n) =>
    if g == h && (sectorsCovering offset n).contains j then s.failWaiting desk (.get on g offset n) .media [cause.code] else s
  | _ => s

/-- After a READ of a handle has ended: free pages served, read-ahead tried, a waiting GET examined (R124, R125). -/
def State.afterRead (s : State) (desk : Desk) (h : HandleNo) : State := (s.serveGeneral.readAhead desk h).examineGet desk

/-- A READ of a handle ended successfully (R125); the read of a sector given up since only frees its page. -/
def State.readDone (s : State) (desk : Desk) (h : HandleNo) (j : Nat) (p : PageNo) : State :=
  match s.handle desk h with
  | .reading r =>
    if r.table.getD j .absent == .reading p then
      (s.setHandle desk h (.reading { r with table := r.table.set j (.present p) })).afterRead desk h
    else s.freePage p
  | _ => s.freePage p

/-- A READ of a handle ended with a final failure (R125, R130). -/
def State.readFailed (s : State) (desk : Desk) (h : HandleNo) (j : Nat) (p : PageNo) (cause : PassCause) : State :=
  match s.handle desk h with
  | .reading r =>
    if r.table.getD j .absent == .reading p then
      let r' := { r with table := r.table.set j .absent, readAhead := if r.readAhead ≤ j then j + 1 else r.readAhead }
      (((s.setHandle desk h (.reading r')).freePage p).failGet desk h j cause).afterRead desk h
    else s.freePage p
  | _ => s.freePage p

/-! ### Write handles: failure, relocation, filing, R139 to R142 -/

/-- A write handle's table once it has given up its pages: no entry holds one (R141, log 19). -/
def tableGivenUp (t : List WriteEntry) : List WriteEntry :=
  t.map (fun e => match e with | .written => .written | _ => .unstarted)

/-- A write handle fails with a kept cause (R141); a handle of a desk reset since it was opened is dropped at once. -/
def State.failHandle (s : State) (desk : Desk) (h : HandleNo) (w : WriteHandle) (cause : Reason) : State :=
  if w.orphan then s.dropWrite desk h w
  else
    let s := s.giveUpWrites w.drive w.table
    let s := s.setHandle desk h (.writing { w with state := .failed cause, table := tableGivenUp w.table })
    s.failOnHandle desk h false cause

/-- The pending new version a handle hands the catalogue unit (R109, R142). -/
def WriteHandle.newVersion (w : WriteHandle) (desk : Desk) (h : HandleNo) (creating : Bool) : NewVersion :=
  { desk := desk, handle := h, extents := w.reservation, length := w.length, check := w.check, edition := w.edition,
    keepHold := w.keepHold, first := creating }

/-- Every sector of a handle is WRITTEN (R142). -/
def WriteHandle.allWritten (w : WriteHandle) : Bool := w.table.all (fun e => e == .written)

/-- The pending new version is placed when every sector of a COMMITTING handle is WRITTEN (R142). -/
def State.placeVersion (s : State) (desk : Desk) (h : HandleNo) : State :=
  match s.handle desk h with
  | .writing w =>
    if w.state == .committing && !w.placed && w.allWritten then
      let creating := (s.slot w.drive w.slot).state == .creating
      (s.setHandle desk h (.writing { w with placed := true })).placeChange w.drive w.slot (.newVersion (w.newVersion desk h creating))
    else s
  | _ => s

/-- A WRITE of a handle ended successfully (R139). -/
def State.writeDone (s : State) (desk : Desk) (h : HandleNo) (j : Nat) (p : PageNo) : State :=
  match s.handle desk h with
  | .writing w =>
    if w.table.getD j .unstarted == .writing p then
      ((s.setHandle desk h (.writing { w with table := w.table.set j .written })).freePage p).placeVersion desk h
    else s.freePage p
  | _ => s.freePage p

/-- A WRITE of a handle ended WRITE-PROTECTED (R139). -/
def State.writeProtected (s : State) (desk : Desk) (h : HandleNo) (j : Nat) (p : PageNo) : State :=
  match s.handle desk h with
  | .writing w =>
    if w.table.getD j .unstarted == .writing p then s.failHandle desk h w .writeProtected else s.freePage p
  | _ => s.freePage p

/-- A sector that cannot be written is moved to the lowest free sector and written there, or the handle fails (R140). -/
def State.relocate (s : State) (desk : Desk) (h : HandleNo) (w : WriteHandle) (j : Nat) (p : PageNo) : State :=
  let s := s.addSuspect w.drive ((sectorAt w.reservation j).getD 0)
  match s.images[w.drive] with
  | none => s.failHandle desk h w .diskFull
  | some img =>
    match img.lowestFree with
    | none => s.failHandle desk h w .diskFull
    | some l =>
      let es := joined (splitAt w.reservation j l)
      if Config.maxExtents < es.length then s.failHandle desk h w .fragmented
      else
        ((s.setImage w.drive (some (img.markAllocated [l]))).countDrive w.drive .relocations 1).startWrite desk h
          { w with reservation := es } j p

/-- A WRITE of a handle ended with a final failure (R139, R140). -/
def State.writeFailed (s : State) (desk : Desk) (h : HandleNo) (j : Nat) (p : PageNo) : State :=
  match s.handle desk h with
  | .writing w => if w.table.getD j .unstarted == .writing p then s.relocate desk h w j p else s.freePage p
  | _ => s.freePage p

end Sys2Proof.Machine
end

