-- ==== Sys2Proof/Machine/Teardown.lean ====
section
/-! DEFINITION. What a drive does when it leaves use, across the part (R43, R64, R74, R120, R144, R153, R187, R191, R195), and
the states a drive enters. -/

namespace Sys2Proof.Machine

/-- The pass in progress on a drive is aborted, the drive leaves the wait list and the channel is free of it; the next grant
follows when the teardown is made (R64, R74). -/
def State.abortPass (s : State) (d : DriveNo) : State :=
  let s := s.leaveWaitList d
  let c := s.channel
  let passing := match c.pass with | some p => p.drive == d | none => false
  let c := if passing then { c with pass := none, writeGate := false, writeData := .none } else c
  s.setChannel (if c.grant = some d then { c with grant := none } else c)

/-- The requests of a drive's work list are removed and their pages freed (R43). -/
def State.clearWorkList (s : State) (d : DriveNo) : State :=
  let pages := s.scheds[d].workList.map SectorRequest.page
  pages.foldl (fun s p => State.freePage s p) (s.setSched d { s.scheds[d] with workList := [] })

/-- The request in hand is removed and its page freed (R43, R50). -/
def State.clearHand (s : State) (d : DriveNo) : State :=
  match s.scheds[d].inHand with
  | none => s.setSched d { s.scheds[d] with runLength := 0 }
  | some h => (s.setSched d { s.scheds[d] with inHand := none, runLength := 0 }).freePage h.request.page

/-- The mechanism at a teardown: step timer stopped, position unknown, head unloaded, idle count 0, pending recalibration
cleared, attributes and mount record cleared (R33, R35, R43, R78). -/
def DriveUnit.stopped (u : DriveUnit) : DriveUnit :=
  { u with motion := .still, position := none, head := .unloaded, idleCount := 0, pendingRecal := false, isProtected := false,
           damaged := false, mount := .clear }

/-- Every handle on a drive that is not FREE or LOST becomes LOST, in ascending order of desk and then of handle
(R144, R148). -/
def State.loseHandlesOn (s : State) (d : DriveNo) : State :=
  allHandles.foldl (fun s p => if (s.handle p.1 p.2).openOn d then s.loseHandle p.1 p.2 .driveLost .withImage else s) s

/-- The owner of a pending change is answered FAILED DRIVE-LOST, unless its desk has been reset since (R120). -/
def State.answerLost (s : State) (d : DriveNo) (n : SlotNo) : Change → State
  | .newVersion v =>
    match s.desks[v.desk].inProgress with
    | some w => if w = .file v.handle then s.failWaiting v.desk w .driveLost [] else s
    | none => s
  | .removal desk =>
    match s.desks[desk].inProgress with
    | some (.spike e m lowered) => if e = d ∧ m = n then s.failWaiting desk (.spike e m lowered) .driveLost [] else s
    | _ => s

/-- One slot of a discarded image: its pending change is answered, its hold vanishes without an event (R120). -/
def State.discardSlot (s : State) (d : DriveNo) (n : SlotNo) : State :=
  let s :=
    match (s.slot d n).pending with
    | some c => s.answerLost d n c
    | none => s
  s.dropHold d n

/-- A drive's catalogue image is discarded (R120, R153). -/
def State.discardImage (s : State) (d : DriveNo) : State :=
  match s.images[d] with
  | none => s
  | some img =>
    let concerned := allSlots.filter (fun n => (img.slots[n]).pending.isSome || (img.slots[n]).holder.isSome)
    let s := concerned.foldl (fun s n => State.discardSlot s d n) s
    (s.returnWatches d).setImage d none

/-- A format on the drive is abandoned and the sequencer idle (R191). -/
def State.abandonFormat (s : State) (d : DriveNo) : State :=
  match s.sequencer with
  | some j => if j.drive = d then (s.leaveSystem (fun w => w == .format)).setSequencer none else s
  | none => s

/-- The parts of a teardown that reach the pool, the filing unit, the catalogue unit, the desks and the sequencer (R195). -/
def State.tearAround (s : State) (d : DriveNo) : State :=
  (((s.leaveSystem (SystemWaiter.ofDrive d)).loseHandlesOn d).discardImage d).abandonFormat d

/-- A drive record in a state, with the fault cause kept only in FAULTED (R20, R40). -/
def DriveUnit.enters (u : DriveUnit) (st : DriveState) (cause : Option FaultCause) : DriveUnit :=
  { u with state := st, faultCause := cause }

/-- The teardown of a drive up to its state, without the event (R43, R195). -/
def State.tearDown (s : State) (d : DriveNo) (st : DriveState) (cause : Option FaultCause) : State :=
  let s := ((s.abortPass d).clearWorkList d).clearHand d
  let s := (s.setDrive d s.drives[d].stopped).tearAround d
  s.setDrive d (s.drives[d].enters st cause)

/-- An UNMOUNT waiting on a drive torn down for another cause is answered FAILED DRIVE-LOST (R187). -/
def State.failUnmounts (s : State) (d : DriveNo) : State :=
  allDesks.foldl
    (fun s desk => if s.desks[desk].inProgress = some (.unmount d) then s.failWaiting desk (.unmount d) .driveLost [] else s) s

/-- A teardown with its event, for every cause but UNMOUNT and RESTART (R195). -/
def State.leaveUse (s : State) (d : DriveNo) (st : DriveState) (cause : Option FaultCause) (ev : Event) : State :=
  ((s.tearDown d st cause).raise ev).failUnmounts d

/-- The index timer stopped: e 0, reference, bad-period run and valid-capture count cleared (R23, R42). -/
def DriveUnit.timerStopped (u : DriveUnit) : DriveUnit := { u with elapsed := 0, reference := false, badRun := 0, validCount := 0 }

/-- The index timer started afresh (R24). -/
def DriveUnit.timerAfresh (u : DriveUnit) : DriveUnit := { u.timerStopped with period := Config.nominalPeriod }

/-- The index timer restarted by a speed fault (R29). -/
def DriveUnit.timerRestarted (u : DriveUnit) : DriveUnit := { u with elapsed := 0, reference := false, badRun := 0 }

/-- A speed fault in these states moves the drive to FAULTED (R29). -/
def DriveState.faultsOnSpeed : DriveState → Bool
  | .spinCheck | .mounting | .mounted | .formatting => true
  | _ => false

/-- A speed fault (R29). -/
def State.speedFault (s : State) (d : DriveNo) : State :=
  let s := s.setDrive d s.drives[d].timerRestarted
  if s.drives[d].state.faultsOnSpeed then
    (s.countDrive d .speedFaults 1).leaveUse d .faulted (some .speed) (.faulted d .speed)
  else s

/-- A failed recalibration (R32). -/
def State.trackZeroFault (s : State) (d : DriveNo) : State := s.leaveUse d .faulted (some .trackZero) (.faulted d .trackZero)

/-- Entry to MOUNTING: the mount record cleared, the valid-capture count 0, a recalibration started (R30, R36). -/
def State.enterMounting (s : State) (d : DriveNo) : State :=
  (s.setDrive d { s.drives[d].enters .mounting none with mount := .clear, validCount := 0 }).startRecal d

/-- Entry to BLANK: the head unloaded, the idle count 0, the work list empty, the mount over (R35, R36, R44). -/
def State.enterBlank (s : State) (d : DriveNo) : State :=
  let s := (s.clearWorkList d).leaveSystem (SystemWaiter.ofDrive d)
  s.setDrive d { s.drives[d].enters .blank none with head := .unloaded, idleCount := 0, mount := .clear }

/-- The state of a drive that is enabled: by READY and auto-mount (R42, R193). -/
def DriveUnit.stateByLines (u : DriveUnit) (auto : Bool) : DriveState :=
  if u.ready then (if auto then .spinCheck else .offline) else .empty

end Sys2Proof.Machine
end

