-- ==== Sys2Proof/Machine/Volumes.lean ====
section
/-! DEFINITION. The grants of system pages, the mount sequence, the format sequencer, the end of an UNMOUNT, and what follows
at once from a command (R36 to R38, R44, R90, R96, R110, R186, R190, R191). -/

namespace Sys2Proof.Machine

/-! ### Grants of system pages, R90 -/

/-- The page of a mounting drive is granted: the label's read is placed, or the next catalogue sector's, and the page for the
one after it asked for (R36, R37). -/
def State.grantMount (s : State) (d : DriveNo) (p : PageNo) : State :=
  let u := s.drives[d]
  match u.mount.label with
  | none => (s.holdPage p (.mountRead d .label)).place d labelTarget .read p .mountLabel .urgent
  | some _ =>
    if h : u.mount.nextQ < 29 then
      let q : CatNo := ⟨u.mount.nextQ, h⟩
      let s := (s.holdPage p (.mountRead d (.catalogue q))).setDrive d { u with mount := { u.mount with nextQ := u.mount.nextQ + 1 } }
      let s := s.place d (catalogueTarget q) .read p (.mountCatalogue q) .urgent
      if u.mount.nextQ + 1 < 29 then s.joinSystem (.mount d) else s
    else s

/-- The page of a catalogue-sector write is granted: its WRITE-VERIFY is placed, URGENT (R110). -/
def State.grantCatalogue (s : State) (d : DriveNo) (q : CatNo) (p : PageNo) : State :=
  (s.holdPage p (.catalogueWrite d q)).place d (catalogueTarget q) .writeVerify p (.catalogue q) .urgent

/-- The page of the format sequencer is granted: the request of its present step is placed, ROUTINE (R190). -/
def State.grantFormat (s : State) (p : PageNo) : State :=
  match s.sequencer with
  | none => s
  | some j =>
    let held := fun (x : FormatStep) => s.holdPage p (.formatStep j.drive x)
    match j.phase with
    | .tracks =>
      let skew := if j.nextTrack / 2 = 0 then 0 else j.skew
      ((held (.track j.nextTrack)).fillPage p (toSector (trackOrder skew j.nextTrack))).place j.drive (trackTarget j.nextTrack) .formatTrack p
        (.formatTrack j.nextTrack) .routine
    | .verify => (held (.verify j.verifyL)).place j.drive (targetOfL j.verifyL) .read p (.formatVerify j.verifyL) .routine
    | .label => ((held .label).fillPage p (labelBytes j.name j.skew j.bad)).place j.drive labelTarget .writeVerify p .formatLabel .routine
    | .catalogue =>
      if h : j.nextQ < 29 then
        (held (.catalogue ⟨j.nextQ, h⟩)).place j.drive (catalogueTarget ⟨j.nextQ, h⟩) .writeVerify p
          (.formatCatalogue ⟨j.nextQ, h⟩) .routine
      else s

/-- A free system page goes to the waiter at the head of the list (R90). -/
def State.grantSystem (s : State) (w : SystemWaiter) (p : PageNo) : State :=
  let s := s.setPool { s.pool with sysWaiters := s.pool.sysWaiters.tail }
  match w with
  | .mount d => s.grantMount d p
  | .catalogue d q => s.grantCatalogue d q p
  | .format => s.grantFormat p

/-- Grants of system pages while one is free and the list is not empty; `n` bounds their number (R90). -/
def State.serveSystemUpTo : Nat → State → State
  | 0, s => s
  | n + 1, s =>
    match s.freePageNo false, s.pool.sysWaiters with
    | some p, w :: _ => State.serveSystemUpTo n (s.grantSystem w p)
    | _, _ => s

/-- Every grant of a system page that is due: each takes one of the eight (R90). -/
def State.serveSystem (s : State) : State := s.serveSystemUpTo 8

/-! ### The mount sequence, R36 to R38 -/

/-- A recalibration has completed: a drive in MOUNTING that has not asked for its label's page asks now (R36). -/
def State.afterRecal (s : State) (d : DriveNo) : State :=
  let u := s.drives[d]
  if u.state = .mounting ∧ u.mount.labelAsked = false then
    (s.setDrive d { u with mount := { u.mount with labelAsked := true } }).joinSystem (.mount d)
  else s

/-- The label has been read: an accepted one starts the catalogue reads, any other sends the drive to BLANK (R12, R36). -/
def State.mountLabelDone (s : State) (d : DriveNo) (p : PageNo) : State :=
  let found := labelOf (s.pageBytes p)
  let s := s.freePage p
  match found with
  | none => s.enterBlank d
  | some l => (s.setDrive d { s.drives[d] with mount := { s.drives[d].mount with label := some l } }).joinSystem (.mount d)

/-- The label could not be read (R36). -/
def State.mountLabelFailed (s : State) (d : DriveNo) (p : PageNo) : State := (s.freePage p).enterBlank d

/-- The catalogue image built at the end of a mount (R38, R96, R100). -/
def buildImage (id : Nat) (l : Label) (a : Accepted) : Image :=
  { id := id, name := l.name, skew := l.skew, bad := l.bad,
    slots := a.records.foldl (fun v (p : SlotNo × StoryRecord) => v.set p.1 p.2.slot) (Vector.replicate 232 Slot.free),
    allocated := sorted a.claimed, retired := [], nextRetired := 0, suspect := [], writes := Vector.replicate 29 .clean,
    unmounting := false }

/-- The mount is completed: the cross-record examination, the image, MOUNTED and its event (R15, R25, R38). -/
def State.completeMount (s : State) (d : DriveNo) : State :=
  let u := s.drives[d]
  match u.mount.label with
  | none => s
  | some l =>
    let a := crossExamine l.bad u.mount.kept
    let damaged := u.mount.damaged || a.discarded
    let s := (s.setImage d (some (buildImage s.imageSerial l a))).setImageSerial (s.imageSerial + 1)
    (s.setDrive d { u.enters .mounted none with isProtected := u.writeProtect, damaged := damaged, mount := .clear }).raise
      (.mounted d l.name damaged)

/-- One catalogue read has come back; the last one completes the mount (R37, R38). -/
def State.mountReturned (s : State) (d : DriveNo) (m : MountRecord) : State :=
  let m := { m with returned := m.returned + 1 }
  let s := s.setDrive d { s.drives[d] with mount := m }
  if m.returned = 29 then s.completeMount d else s

/-- A catalogue sector has been read (R14, R37). -/
def State.mountCatalogueDone (s : State) (d : DriveNo) (q : CatNo) (p : PageNo) : State :=
  let m := s.drives[d].mount
  let found := examineSector q (s.pageBytes p)
  (s.freePage p).mountReturned d { m with kept := m.kept ++ found.1, damaged := m.damaged || found.2 }

/-- A catalogue sector is given up as unreadable (R37). -/
def State.mountCatalogueFailed (s : State) (d : DriveNo) (q : CatNo) (p : PageNo) : State :=
  let m := s.drives[d].mount
  (s.freePage p).mountReturned d { m with givenUp := m.givenUp ++ [q], damaged := true }

/-! ### The format sequencer, R190 and R191 -/

/-- The sequencer asks for the page of its next step (R190). -/
def State.formatAsks (s : State) (j : FormatJob) : State := (s.setSequencer (some j)).joinSystem .format

/-- A format ends without a volume: the sequencer idle, the drive BLANK (R191). -/
def State.formatEnds (s : State) (j : FormatJob) : State := (s.setSequencer none).enterBlank j.drive

/-- The step after the last track (R190). -/
def FormatJob.afterTracks (j : FormatJob) : FormatJob := { j with phase := if j.verify then .verify else .label }

/-- The job after a track has been recorded (R190). -/
def FormatJob.trackDone (j : FormatJob) : FormatJob :=
  let j := { j with nextTrack := j.nextTrack + 1 }
  if j.nextTrack = Config.tracks then j.afterTracks else j

/-- The job after a verify read, good or bad (R190). -/
def FormatJob.verifyDone (j : FormatJob) : FormatJob :=
  let j := { j with verifyL := j.verifyL + 1 }
  if j.verifyL = Config.dataSectors then { j with phase := .label } else j

/-- A step of the format has succeeded: its page freed, the next step's asked for, or the drive handed to its mount
(R44, R190). -/
def State.formatDone (s : State) (p : PageNo) : State :=
  let s := s.freePage p
  match s.sequencer with
  | none => s
  | some j =>
    match j.phase with
    | .tracks => s.formatAsks j.trackDone
    | .verify => s.formatAsks j.verifyDone
    | .label => s.formatAsks { j with phase := .catalogue }
    | .catalogue =>
      if j.nextQ + 1 = 29 then (s.setSequencer none).enterMounting j.drive
      else s.formatAsks { j with nextQ := j.nextQ + 1 }

/-- A step of the format has ended with MEDIA: a bad sector noted, a 17th or a cylinder-0 write the end of the format
(R190, R191). -/
def State.formatFailed (s : State) (p : PageNo) : State :=
  let s := s.freePage p
  match s.sequencer with
  | none => s
  | some j =>
    match j.phase with
    | .verify =>
      if j.bad.length = Config.maxBad then (s.formatEnds j).raise (.faulted j.drive .tooManyBad)
      else s.formatAsks { j.verifyDone with bad := j.bad ++ [j.verifyL] }
    | _ => s.formatEnds j

/-- A step of the format has ended WRITE-PROTECTED (R191). -/
def State.formatProtected (s : State) (p : PageNo) : State :=
  let s := s.freePage p
  match s.sequencer with
  | none => s
  | some j => s.formatEnds j

/-! ### The end of an UNMOUNT, R186 -/

/-- The desk whose UNMOUNT of a drive waits. -/
def State.unmountingDesk (s : State) (d : DriveNo) : Option Desk :=
  allDesks.find? (fun desk => s.desks[desk].inProgress == some (.unmount d))

/-- A marked drive whose last catalogue sector is CLEAN is torn down to OFFLINE with REMOVED, and its UNMOUNT answered DONE
(R186). -/
def State.completeUnmount (s : State) (d : DriveNo) : State :=
  match s.images[d] with
  | none => s
  | some img =>
    if img.unmounting && img.allClean then
      let asker := s.unmountingDesk d
      let s := (s.tearDown d .offline none).raise (.removed d)
      match asker with
      | none => s
      | some desk => (s.setInProgress desk none).done desk Kind.unmount.code noFlags [] .clear
    else s

/-! ### What follows at once -/

/-- Unmounts that can end, system pages that can be granted, general pages that can be granted or reclaimed, in this order
(R86 to R95, R186, log 13). -/
def State.servePools (s : State) : State :=
  (allDrives.foldl (fun s d => State.completeUnmount s d) s).serveSystem.serveGeneral

/-- All that follows at once from a command: the pools, then the drives and the channel (R51, R60, log 13). -/
def State.settle (s : State) : State := s.servePools.runDrives

end Sys2Proof.Machine
end

