-- ==== Sys2Proof/Machine/Passes.lean ====
section
/-! DEFINITION. Passes, their endings and what their owners make of them: ID search, transfers, read-back, format tracks,
retries, commits of catalogue-sector writes, and the pass RESTART lets finish (R61 to R63, R65 to R80, R112 to R115). -/

namespace Sys2Proof.Machine

/-! ### Catalogue-sector writes that have ended, R112 to R115 -/

/-- The request in progress of a desk, if it is still the one given, is answered DONE with its fields and the desk has nothing
in progress; a desk reset since gets no reply (R112, R113). -/
def State.answerDone (s : State) (desk : Desk) (mine : Waiting → Bool) (fields : List Byte) : State :=
  match s.desks[desk].inProgress with
  | some w => if mine w then (s.setInProgress desk none).done desk w.kind.code w.flags fields .clear else s
  | none => s

/-- The same, answered FAILED with a reason (R115). -/
def State.answerFailed (s : State) (desk : Desk) (mine : Waiting → Bool) (r : Reason) : State :=
  match s.desks[desk].inProgress with
  | some w => if mine w then s.failWaiting desk w r [] else s
  | none => s

/-- The waiting request is the FILE of a handle. -/
def Waiting.isFile (h : HandleNo) : Waiting → Bool
  | .file g => g == h
  | _ => false

/-- The waiting request is the SPIKE of a slot. -/
def Waiting.isSpike (d : DriveNo) (n : SlotNo) : Waiting → Bool
  | .spike e m _ => e == d && m == n
  | _ => false

/-- The filing desk of a new version has been reset since it filed: its COMMITTING handle bears the mark (R145). -/
def State.resetSince (s : State) (v : NewVersion) : Bool :=
  match s.handle v.desk v.handle with
  | .writing w => w.orphan
  | _ => false

/-- The hold a commit releases: without keep-hold, that of the filing desk (R112), unless the desk has been reset since, when the
commit finds no hold of its filing to release (R107, R145, R182; DEDUCED, log 29). -/
def commitReleases (t : Slot) (v : NewVersion) (reset : Bool) : Bool := !reset && !v.keepHold && t.holder == some v.desk

/-- A slot when a new version has committed, its hold apart (R112). -/
def Slot.committed (t : Slot) (v : NewVersion) : Slot :=
  { t with state := .filed, origin := v.desk, edition := v.edition, version := versionAfter t v, length := v.length,
           check := v.check, extents := v.extents, readers := 0, pending := none, carried := false }

/-- A carried new version commits (R112). -/
def State.commitVersion (s : State) (d : DriveNo) (n : SlotNo) (v : NewVersion) : State :=
  let s := if (s.slot d n).state = .filed then s.retire d n else s
  let t := s.slot d n
  let released := commitReleases t v (s.resetSince v)
  let s := s.setSlot d n (t.committed v)
  let s := if released then s.dropHold d n else s
  let s := (s.setHandle v.desk v.handle .free).raise (.filed d t.slug v.desk (versionAfter t v) v.first released)
  s.answerDone v.desk (Waiting.isFile v.handle) (twoBytes (versionAfter t v))

/-- A carried removal commits (R113). -/
def State.commitRemoval (s : State) (d : DriveNo) (n : SlotNo) (desk : Desk) : State :=
  let t := s.slot d n
  let s := ((s.retire d n).releaseWithEvent d n).setSlot d n Slot.free
  (s.raise (.spiked d t.slug desk t.version)).answerDone desk (Waiting.isSpike d n) (twoBytes t.version)

/-- A slot's carried change commits (R112, R113). -/
def State.commitSlot (s : State) (d : DriveNo) (n : SlotNo) : State :=
  let t := s.slot d n
  match t.carried, t.pending with
  | true, some (.newVersion v) => s.commitVersion d n v
  | true, some (.removal desk) => s.commitRemoval d n desk
  | _, _ => s

/-- The write state after a write, and the fresh ask of a sector changed during it (R114, R115). -/
def State.writeOver (s : State) (d : DriveNo) (q : CatNo) (p : PageNo) : State :=
  let s := s.freePage p
  match s.writeState d q with
  | .writingDirty => (s.setWriteState d q .dirty).joinSystem (.catalogue d q)
  | .writing => s.setWriteState d q .clean
  | _ => s

/-- A catalogue-sector write has ended successfully: its changes commit in ascending slot order (R112, R114). -/
def State.catalogueDone (s : State) (d : DriveNo) (q : CatNo) (p : PageNo) : State :=
  ((slotsOf q).foldl (fun s n => State.commitSlot s d n) s).writeOver d q p

/-- A carried new version fails (R115). -/
def State.failVersion (s : State) (d : DriveNo) (n : SlotNo) (v : NewVersion) (r : Reason) : State :=
  let s := (s.giveBack d v.extents).setHandle v.desk v.handle .free
  let s :=
    if (s.slot d n).state = .creating then s.freeCreating d n
    else s.setSlot d n { s.slot d n with pending := none, carried := false }
  s.answerFailed v.desk (Waiting.isFile v.handle) r

/-- A carried removal fails (R115). -/
def State.failRemoval (s : State) (d : DriveNo) (n : SlotNo) (desk : Desk) (r : Reason) : State :=
  (s.setSlot d n { s.slot d n with pending := none, carried := false }).answerFailed desk (Waiting.isSpike d n) r

/-- A slot's carried change fails (R115). -/
def State.failSlot (s : State) (d : DriveNo) (r : Reason) (n : SlotNo) : State :=
  let t := s.slot d n
  match t.carried, t.pending with
  | true, some (.newVersion v) => s.failVersion d n v r
  | true, some (.removal desk) => s.failRemoval d n desk r
  | _, _ => s

/-- A catalogue-sector write has failed: every carried change fails together (R115). -/
def State.catalogueFailed (s : State) (d : DriveNo) (q : CatNo) (p : PageNo) (r : Reason) : State :=
  let s := if r = .catalogueWrite then s.setDrive d { s.drives[d] with damaged := true } else s
  ((slotsOf q).foldl (fun s n => State.failSlot s d r n) s).writeOver d q p

/-! ### Owners of sector requests, R76 -/

/-- A successful pass goes to its owner (R76). -/
def State.ownerDone (s : State) (r : SectorRequest) : State :=
  match r.owner with
  | .handleSector desk h j => if r.operation = .read then s.readDone desk h j r.page else s.writeDone desk h j r.page
  | .catalogue q => s.catalogueDone r.drive q r.page
  | .mountLabel => s.mountLabelDone r.drive r.page
  | .mountCatalogue q => s.mountCatalogueDone r.drive q r.page
  | .formatTrack _ => s.formatDone r.page
  | .formatVerify _ => s.formatDone r.page
  | .formatLabel => s.formatDone r.page
  | .formatCatalogue _ => s.formatDone r.page

/-- A final failure, MEDIA, goes to its owner with the cause of the last attempt (R76, R77). -/
def State.ownerFailed (s : State) (r : SectorRequest) (cause : PassCause) : State :=
  match r.owner with
  | .handleSector desk h j => if r.operation = .read then s.readFailed desk h j r.page cause else s.writeFailed desk h j r.page
  | .catalogue q => s.catalogueFailed r.drive q r.page .catalogueWrite
  | .mountLabel => s.mountLabelFailed r.drive r.page
  | .mountCatalogue q => s.mountCatalogueFailed r.drive q r.page
  | .formatTrack _ => s.formatFailed r.page
  | .formatVerify _ => s.formatFailed r.page
  | .formatLabel => s.formatFailed r.page
  | .formatCatalogue _ => s.formatFailed r.page

/-- The outcome WRITE-PROTECTED goes to its owner (R70, R76); only passes that write have it. -/
def State.ownerProtected (s : State) (r : SectorRequest) : State :=
  match r.owner with
  | .handleSector desk h j => s.writeProtected desk h j r.page
  | .catalogue q => s.catalogueFailed r.drive q r.page .isProtected
  | .mountLabel => s.freePage r.page
  | .mountCatalogue _ => s.freePage r.page
  | .formatTrack _ => s.formatProtected r.page
  | .formatVerify _ => s.formatProtected r.page
  | .formatLabel => s.formatProtected r.page
  | .formatCatalogue _ => s.formatProtected r.page

/-! ### The end of a pass, R61 to R63 and R75 to R80 -/

/-- How a pass ends, an abort apart (R61). -/
inductive PassEnd where
  | done
  | isProtected
  | failed (cause : PassCause)
  deriving DecidableEq, Repr

/-- The tallies of a pass that ends (R80). -/
def State.countPass (s : State) (d : DriveNo) (op : Operation) : PassEnd → State
  | .done =>
    match op with
    | .read => s.countDrive d .sectorsRead 1
    | .write => s.countDrive d .sectorsWritten 1
    | .writeVerify => s.countDrive d .sectorsWritten 1
    | .formatTrack => s.countDrive d .sectorsWritten 15
  | .isProtected => s
  | .failed _ => s.countDrive d .failedAttempts 1

/-- The drive record after RESTART in a state (R20): every field but the lines at the table's value. -/
def DriveUnit.restartedIn (u : DriveUnit) (st : DriveState) : DriveUnit :=
  { (u.stopped.timerAfresh).enters st none with latches := [] }

/-- The drive record after RESTART (R20), by READY and auto-mount. -/
def DriveUnit.restarted (u : DriveUnit) (auto : Bool) : DriveUnit := u.restartedIn (u.stateByLines auto)

/-- The pass RESTART let finish has ended: its page freed, the drive takes the state RESTART gives it, the channel is released
(R75, R193). -/
def State.finishPass (s : State) (d : DriveNo) (p : PageNo) : State :=
  let s := (s.freePage p).setSched d { s.scheds[d] with inHand := none }
  (s.setDrive d (s.drives[d].restarted s.settings[d].autoMount)).releaseChannel d

/-- A failed attempt marks a recalibration of R78: the third, when the request goes back and has not recalibrated. -/
def SectorRequest.marksRecal (r : SectorRequest) : Bool := decide (r.attempts + 1 = 3) && !r.recalibrated

/-- A request after a failed attempt that is not final (R77, R78). -/
def SectorRequest.retried (r : SectorRequest) : SectorRequest :=
  { r with attempts := r.attempts + 1, recalibrated := r.recalibrated || r.marksRecal }

/-- A failed attempt is counted: the request ends with MEDIA, or goes back to the work list, with a recalibration pending at
its third attempt (R77, R78). -/
def State.retryOrFail (s : State) (d : DriveNo) (r : SectorRequest) (cause : PassCause) : State :=
  if s.settings[d].retries ≤ r.attempts + 1 then
    (s.countDrive d .hardFailures 1).ownerFailed { r with attempts := r.attempts + 1 } cause
  else
    let s := s.setSched d { s.scheds[d] with workList := s.scheds[d].workList ++ [r.retried] }
    if r.marksRecal && cause != .wrongCylinder then s.setDrive d { s.drives[d] with pendingRecal := true } else s

/-- The drive record when a recalibration that may issue no step pulse starts: with TRACK-ZERO active it settles, else it is cut off
before its first pulse and the position stays unknown (R32, R33, R39; DEDUCED, log 18). -/
def DriveUnit.startRecalUnstepped (u : DriveUnit) (st : Settings) : DriveUnit :=
  if u.trackZero then u.startRecal st else { u.startRecal st with stepPulses := 0, motion := .still }

/-- WRONG-CYLINDER makes the position unknown and starts a recalibration at once, which counts (R79, R80); on a drive that is no
longer in use it issues no steps (R39, log 18). -/
def State.recalAtOnce (s : State) (d : DriveNo) : State :=
  if s.drives[d].state.inUse then s.startRecal d
  else (s.setDrive d (s.drives[d].startRecalUnstepped s.settings[d])).countDrive d .recalibrations 1

/-- A pass ends (R61, R76): tallies, the request out of hand, its owner or the retry sequence, then the channel. -/
def State.endPass (s : State) (p : Pass) (r : SectorRequest) (e : PassEnd) : State :=
  let d := p.drive
  let s := (s.countPass d r.operation e).setChannel { s.channel with pass := none, writeGate := false, writeData := .none }
  if p.finishing then s.finishPass d r.page
  else
    let s := s.setSched d { s.scheds[d] with inHand := none }
    match e with
    | .done => ((if p.withdrawn then s.freePage r.page else s.ownerDone r).servePools).continueRun d
    | .isProtected => ((if p.withdrawn then s.freePage r.page else s.ownerProtected r).servePools).releaseChannel d
    | .failed cause =>
      let s := ((if p.withdrawn then s.freePage r.page else s.retryOrFail d r cause).servePools).releaseChannel d
      if cause = .wrongCylinder then s.recalAtOnce d else s

/-! ### What passes under the head, R67 to R73 -/

/-- The pass in progress with the request it serves (R65). -/
def State.passOf (s : State) : Option (Pass × SectorRequest) :=
  match s.channel.pass with
  | none => none
  | some p =>
    match s.scheds[p.drive].inHand with
    | none => none
    | some h => some (p, h.request)

/-- The pass record replaced. -/
def State.setPass (s : State) (p : Pass) : State := s.setChannel { s.channel with pass := some p }

/-- The cause a search ends with: in the read-back every ending is VERIFY-MISMATCH (R68, R72). -/
def searchCause (p : Pass) (c : PassCause) : PassCause := if p.phase = .readBack then .verifyMismatch else c

/-- The target's ID has been found: a READ awaits its data field, a write starts unless the line is active, a read-back awaits
its data field (R67, R69, R70, R71, R72). -/
def State.idMatched (s : State) (p : Pass) (r : SectorRequest) : State :=
  if p.phase = .readBack then s.setPass { p with matched := true }
  else if r.operation = .read then s.setPass { p with phase := .transfer }
  else if s.drives[p.drive].writeProtect then s.endPass p r .isProtected
  else
    s.setChannel { s.channel with pass := some { p with phase := .transfer }, writeGate := true,
                                  writeData := .dataField (recorded (s.pageBytes r.page)) }

/-- An ID field with a valid check and another cylinder (R67, R68). -/
def State.wrongCylinder (s : State) (p : Pass) (r : SectorRequest) : State :=
  if p.wrongCount + 1 = 2 then s.endPass p r (.failed (searchCause p .wrongCylinder))
  else s.setPass { p with wrongCount := p.wrongCount + 1 }

/-- An ID field met by a search (R67). -/
def State.searchId (s : State) (p : Pass) (r : SectorRequest) (cylinder head sector : Byte) (check : Check) : State :=
  if checkOf [cylinder, head, sector] ≠ check then s
  else if cylinder.toNat ≠ r.target.cylinder then s.wrongCylinder p r
  else if head.toNat = r.target.head ∧ sector.toNat = r.target.sector then s.idMatched p r
  else s

/-- An ID field passes under the head (R67); where a data field is awaited it is the next field mark, without one
(R69, R72). -/
def State.takeId (s : State) (cylinder head sector : Byte) (check : Check) : State :=
  match s.passOf with
  | none => s
  | some (p, r) =>
    match p.phase with
    | .search => s.searchId p r cylinder head sector check
    | .transfer => if r.operation = .read then s.endPass p r (.failed .dataCheck) else s
    | .readBack => if p.matched then s.endPass p r (.failed .verifyMismatch) else s.searchId p r cylinder head sector check
    | .formatWait => s
    | .formatWrite => s

/-- A data field passes under the head (R69, R72). -/
def State.takeData (s : State) (data : List Byte) (check : Check) : State :=
  match s.passOf with
  | none => s
  | some (p, r) =>
    match p.phase with
    | .transfer =>
      if r.operation = .read then
        (s.fillPage r.page data).endPass p r (if checkOf data = check then .done else .failed .dataCheck)
      else s
    | .readBack =>
      if p.matched then
        s.endPass p r (if data = s.pageBytes r.page ∧ checkOf data = check then .done else .failed .verifyMismatch)
      else s
    | _ => s

/-- The recording of a data field ends (R71, R72). -/
def State.fieldWritten (s : State) : State :=
  match s.passOf with
  | none => s
  | some (p, r) =>
    match p.phase, r.operation with
    | .transfer, .write => s.endPass p r .done
    | .transfer, .writeVerify =>
      s.setChannel { s.channel with pass := some { p with phase := .readBack, indexCount := 0, wrongCount := 0, matched := false },
                                    writeGate := false, writeData := .none }
    | _, _ => s

/-- An index pulse of the granted drive meets its pass (R67, R68, R69, R72, R73). -/
def State.indexInPass (s : State) (p : Pass) (r : SectorRequest) : State :=
  match p.phase with
  | .search =>
    if p.indexCount + 1 = 2 then s.endPass p r (.failed .idNotFound) else s.setPass { p with indexCount := p.indexCount + 1 }
  | .transfer => if r.operation = .read then s.endPass p r (.failed .dataCheck) else s
  | .readBack =>
    if p.matched ∨ p.indexCount + 1 = 2 then s.endPass p r (.failed .verifyMismatch)
    else s.setPass { p with indexCount := p.indexCount + 1 }
  | .formatWait =>
    if s.drives[p.drive].writeProtect then s.endPass p r .isProtected
    else
      s.setChannel { s.channel with pass := some { p with phase := .formatWrite }, writeGate := true,
                                    writeData := .track (((s.pageBytes r.page).take 15).map
                                      (formattedSector r.target.cylinder r.target.head)) }
  | .formatWrite => s.endPass p r .done

end Sys2Proof.Machine
end

