-- ==== Sys2Proof/Machine/DriveEvents.lean ====
section
/-! DEFINITION. The events of a drive: READY and WRITE-PROTECT edges, index pulses, the no-index test, the expiries of step
interval, settle and head load, and the fields that pass under the head (R22 to R32, R34, R35, R67 to R73). -/

namespace Sys2Proof.Machine

/-! ### Edges, R22 to R25 -/

/-- A READY rising edge starts the timer afresh and sends the drive to SPIN-CHECK or OFFLINE (R24). -/
def DriveUnit.rises (u : DriveUnit) (auto : Bool) : DriveUnit :=
  ({ u.timerAfresh with position := none } : DriveUnit).enters (if auto then .spinCheck else .offline) none

/-- A latched edge is taken (R23 to R25). -/
def State.takeEdge (s : State) (d : DriveNo) : Edge → State
  | .readyFalls =>
    let s := s.leaveUse d .empty none (.removed d)
    s.setDrive d s.drives[d].timerStopped
  | .readyRises => if s.drives[d].state = .empty then s.setDrive d (s.drives[d].rises s.settings[d].autoMount) else s
  | .protectChanges active =>
    if s.drives[d].state = .mounted then s.setDrive d { s.drives[d] with isProtected := active } else s

/-- The latched edges are taken in their order (R22). -/
def State.takeEdges (s : State) (d : DriveNo) : State :=
  s.drives[d].latches.foldl (fun s e => State.takeEdge s d e) (s.setDrive d { s.drives[d] with latches := [] })

/-- An edge is latched outside DISABLED and taken (R22). -/
def State.edge (s : State) (d : DriveNo) (e : Edge) : State :=
  if s.drives[d].state = .disabled then s
  else ((s.setDrive d { s.drives[d] with latches := s.drives[d].latches ++ [e] }).takeEdges d).settle

/-- READY-d falls (R22, R23): the pin's level, then the edge. -/
def execReadyFalling (d : DriveNo) (s : State) : Host.Outcome State Fault Refusal :=
  .next ((s.setReady d false).powered (fun s => s.edge d .readyFalls))

/-- READY-d rises (R22, R24). -/
def execReadyRising (d : DriveNo) (s : State) : Host.Outcome State Fault Refusal :=
  .next ((s.setReady d true).powered (fun s => s.edge d .readyRises))

/-- WRITE-PROTECT-d changes to a level (R22, R25). -/
def execWriteProtectChange (d : DriveNo) (active : Bool) (s : State) : Host.Outcome State Fault Refusal :=
  .next ((s.setWriteProtect d active).powered (fun s => s.edge d (.protectChanges active)))

/-! ### Index pulses, R27 to R30, R35 -/

/-- A capture is in range (R28). -/
def captureValid (e : Nat) : Bool := decide (Config.minPeriod ≤ e) && decide (e ≤ Config.maxPeriod)

/-- The drive record after a valid capture (R28). -/
def DriveUnit.captured (u : DriveUnit) : DriveUnit :=
  { u with period := u.elapsed, elapsed := 0, badRun := 0, validCount := if u.state = .spinCheck then u.validCount + 1 else u.validCount }

/-- The drive record after a capture out of range (R28). -/
def DriveUnit.missed (u : DriveUnit) : DriveUnit :=
  { u with elapsed := 0, badRun := u.badRun + 1, validCount := if u.state = .spinCheck then 0 else u.validCount }

/-- An index pulse ends a capture interval (R27 to R30). -/
def State.capture (s : State) (d : DriveNo) : State :=
  let u := s.drives[d]
  if !u.reference then s.setDrive d { u with elapsed := 0, reference := true }
  else if captureValid u.elapsed then
    let s := s.setDrive d u.captured
    if u.state = .spinCheck ∧ u.captured.validCount = 3 then s.enterMounting d else s
  else
    let s := s.setDrive d u.missed
    if 3 ≤ u.missed.badRun then s.speedFault d else s

/-- The idle count after an idle revolution; at the head-idle setting the head is unloaded (R35). -/
def DriveUnit.idles (u : DriveUnit) (headIdle : Nat) : DriveUnit :=
  let n := min 60 (u.idleCount + 1)
  if 1 ≤ headIdle ∧ headIdle ≤ n then { u with head := .unloaded, idleCount := 0 } else { u with idleCount := n }

/-- The pulse counts an idle revolution (R35). -/
def State.idleRevolution (s : State) (d : DriveNo) : State :=
  let u := s.drives[d]
  if u.state.inUse && u.head == .loaded && s.scheds[d].inHand.isNone then s.setDrive d (u.idles s.settings[d].headIdle) else s

/-- The pulse meets the pass in progress on the drive (R67 to R69, R72, R73). -/
def State.passPulse (s : State) (d : DriveNo) : State :=
  match s.passOf with
  | some (p, r) => if p.drive = d then s.indexInPass p r else s
  | none => s

/-- The drive takes notice of its spindle: READY is high and it is not DISABLED (R19, R27). -/
def DriveUnit.turns (u : DriveUnit) : Bool := u.ready && u.state != .disabled

/-- A pulse on INDEX-d: the timer first, then the idle revolution, then the pass (R27, log 12). -/
def State.pulse (s : State) (d : DriveNo) : State :=
  if s.drives[d].turns then (((s.capture d).idleRevolution d).passPulse d).settle else s

/-- INDEX_PULSE (R27). -/
def execIndexPulse (d : DriveNo) (s : State) : Host.Outcome State Fault Refusal := .next (s.powered (fun s => s.pulse d))

/-- No index pulse has come for 3,666 ticks (R29). -/
def State.noIndex (s : State) (d : DriveNo) : State := if s.drives[d].turns then (s.speedFault d).settle else s

/-- NO_INDEX_TIMEOUT (R29). -/
def execNoIndexTimeout (d : DriveNo) (s : State) : Host.Outcome State Fault Refusal := .next (s.powered (fun s => s.noIndex d))

/-! ### Expiries of the mechanism, R31, R32, R34 -/

/-- The step interval of a seek pulse has run out: the next pulse, or the settle (R31). -/
def DriveUnit.seekExpires (u : DriveUnit) : DriveUnit :=
  match u.motion with
  | .seekStep target settle interval _ =>
    if u.position = some target then { u with motion := .seekSettle target settle }
    else { u with position := u.position.map (fun c => towards c target), stepPulses := u.stepPulses + 1,
                  motion := .seekStep target settle interval interval }
  | _ => u

/-- STEP_INTERVAL_EXPIRY (R31); the level of TRACK-ZERO-d comes with it (log 5). -/
def execStepIntervalExpiry (d : DriveNo) (trackZero : Bool) (s : State) : Host.Outcome State Fault Refusal :=
  .next ((s.setTrackZero d trackZero).powered
    (fun s => (s.setDrive d s.drives[d].seekExpires).settle))

/-- The step interval of a recalibration pulse has run out: settle, fault after 80 pulses, or the next pulse (R32). -/
def State.recalExpires (s : State) (d : DriveNo) : State :=
  let u := s.drives[d]
  match u.motion with
  | .recalStep pulses settle interval _ =>
    if u.trackZero then s.setDrive d { u with motion := .recalSettle settle }
    else if Config.recalSteps ≤ pulses then s.trackZeroFault d
    else s.setDrive d { u with stepPulses := u.stepPulses + 1, motion := .recalStep (pulses + 1) settle interval interval }
  | _ => s

/-- RECALIBRATION_STEP_EXPIRY (R32); the level of TRACK-ZERO-d comes with it (log 5). -/
def execRecalibrationStepExpiry (d : DriveNo) (trackZero : Bool) (s : State) : Host.Outcome State Fault Refusal :=
  .next ((s.setTrackZero d trackZero).powered (fun s => (s.recalExpires d).settle))

/-- The settle time has run out: a seek or a recalibration is complete (R31, R32, R36). -/
def State.settles (s : State) (d : DriveNo) : State :=
  let u := s.drives[d]
  match u.motion with
  | .seekSettle target _ => s.setDrive d { u with motion := .still, position := some target }
  | .recalSettle _ => (s.setDrive d { u with motion := .still, position := some 0 }).afterRecal d
  | _ => s

/-- SETTLE_EXPIRY (R31, R32). -/
def execSettleExpiry (d : DriveNo) (s : State) : Host.Outcome State Fault Refusal :=
  .next (s.powered (fun s => (s.settles d).settle))

/-- The head-load time has run out (R34). -/
def DriveUnit.headLoads (u : DriveUnit) : DriveUnit :=
  match u.head with
  | .loading _ => { u with head := .loaded }
  | _ => u

/-- HEAD_LOAD_EXPIRY (R34). -/
def execHeadLoadExpiry (d : DriveNo) (s : State) : Host.Outcome State Fault Refusal :=
  .next (s.powered (fun s => (s.setDrive d s.drives[d].headLoads).settle))

/-! ### Fields under the head, R67 to R72 -/

/-- ID_FIELD_READ (R67). -/
def execIdFieldRead (cylinder head sector : Byte) (check : Byte × Byte) (s : State) : Host.Outcome State Fault Refusal :=
  .next (s.powered (fun s => (s.takeId cylinder head sector (checkOfTwo check.1 check.2)).settle))

/-- DATA_FIELD_READ (R69, R72). -/
def execDataFieldRead (data : Vector Byte 512) (check : Byte × Byte) (s : State) : Host.Outcome State Fault Refusal :=
  .next (s.powered (fun s => (s.takeData data.toList (checkOfTwo check.1 check.2)).settle))

/-- DATA_FIELD_WRITTEN (R71, R72). -/
def execDataFieldWritten (s : State) : Host.Outcome State Fault Refusal := .next (s.powered (fun s => s.fieldWritten.settle))

end Sys2Proof.Machine
end

