-- ==== Sys2Proof/Machine/Desks.lean ====
section
/-! DEFINITION. The context store: the tests before a kind's own (R171, R175, R178), class lowering (R176), what a cancel and a
desk reset do (R172, R181, R182), and the requests IDLE, STATUS and CANCEL (R172, R179, R180). -/

namespace Sys2Proof.Machine

/-! ### The tests of R171 -/

/-- A continuing kind is taken only on its own continuation (R178). -/
def Continuation.admits (c : Continuation) : Kind → Bool
  | .putOn => match c with | .put _ => true | _ => false
  | .getOn => match c with | .get _ => true | _ => false
  | .listOn => match c with | .list .. => true | _ => false
  | _ => true

/-- The first of BAD-LENGTH, BUSY, NOT-PERMITTED and ILLEGAL-SEQUENCE that applies, in this order (R171 steps 2 to 4). -/
def State.preTest (s : State) (desk : Desk) (k : Kind) (fields : List Byte) : Option Reason :=
  if !lenAllowed k fields then some .badLength
  else if s.desks[desk].inProgress.isSome && k != .cancel then some .busy
  else if k.supervisor && !s.deskSettings[desk].supervisor then some .notPermitted
  else if !s.desks[desk].continuation.admits k then some .illegalSequence
  else none

/-- A request is taken: the tests of R171 first, then its own. -/
def State.taking (s : State) (desk : Desk) (k : Kind) (fields : List Byte) (own : State → State) : State :=
  match s.preTest desk k fields with
  | some r => s.refuse desk k.code noFlags r
  | none => own s

/-- A refusal by a kind's own tests that carries no flag. -/
def State.refuseKind (s : State) (desk : Desk) (k : Kind) (r : Reason) : State := s.refuse desk k.code noFlags r

/-- A plain reply DONE of a kind, after which there is no continuation (R177). -/
def State.doneKind (s : State) (desk : Desk) (k : Kind) (fields : List Byte) : State := s.done desk k.code noFlags fields .clear

/-- The class a class byte names was lowered for want of the URGENT right (R176). -/
def State.lowers (s : State) (desk : Desk) (b : Byte) : Bool := classOf b == .urgent && !s.deskSettings[desk].urgent

/-- The class a class byte names after the desk's rights have been applied (R176). -/
def State.classFor (s : State) (desk : Desk) (b : Byte) : Class := if s.lowers desk b then .routine else classOf b

/-! ### UNMOUNT's mark, R186 and R187 -/

/-- The unmounting mark of a drive's image set or cleared (R186, R187). -/
def State.setUnmounting (s : State) (d : DriveNo) (b : Bool) : State :=
  s.setImage d ((s.images[d]).map (fun img => { img with unmounting := b }))

/-! ### CANCEL, R172 and R146 -/

/-- The request in progress can still be cancelled (R172). -/
def State.cancellable (s : State) (desk : Desk) : Waiting → Bool
  | .get .. => true
  | .put .. => true
  | .file h =>
    match s.handle desk h with
    | .writing w => !w.placed
    | _ => false
  | .spike d n _ => !(s.slot d n).carried
  | .unmount _ => true

/-- A FILE not yet placed gives its handle back to WRITE-OPEN (R146). -/
def State.reopen (s : State) (desk : Desk) (h : HandleNo) : State :=
  match s.handle desk h with
  | .writing w => s.setHandle desk h (.writing { w with state := .isOpen })
  | _ => s

/-- The effect of a cancel on the request in progress (R172). -/
def State.cancelEffect (s : State) (desk : Desk) : Waiting → State
  | .get .. => s.leaveWaiters desk
  | .put .. => s.leaveWaiters desk
  | .file h => s.reopen desk h
  | .spike d n _ => s.takeBackRemoval d n
  | .unmount d => s.setUnmounting d false

/-- What the answer to a cancelled request brings: a GET answered is an occasion of read-ahead (R124; DEDUCED, log 30: one answered
CANCELLED too). -/
def State.afterCancelled (s : State) (desk : Desk) : Waiting → State
  | .get _ h _ _ => s.readAhead desk h
  | _ => s

/-- CANCEL meets the desk's request in progress (R172). -/
def State.cancel (s : State) (desk : Desk) : State :=
  match s.desks[desk].inProgress with
  | none => s.done desk Kind.cancel.code (nothingFlag true) [] .clear
  | some w =>
    if s.cancellable desk w then
      let s := (s.cancelEffect desk w).setInProgress desk none
      let s := (s.refuse desk w.kind.code w.flags .cancelled).afterCancelled desk w
      (s.done desk Kind.cancel.code (nothingFlag false) [] .clear).settle
    else s.refuseKind desk .cancel .notCancellable

/-! ### The desk reset, R181 and R182 -/

/-- What the dropping of a request in progress does (R181). -/
def State.dropEffect (s : State) (desk : Desk) : Waiting → State
  | .get .. => s.leaveWaiters desk
  | .put .. => s.leaveWaiters desk
  | .file _ => s
  | .spike d n _ => if (s.slot d n).carried then s else s.takeBackRemoval d n
  | .unmount d => s.setUnmounting d false

/-- The request in progress is dropped without a reply (R181). -/
def State.dropInProgress (s : State) (desk : Desk) : State :=
  match s.desks[desk].inProgress with
  | none => s
  | some w => (s.dropEffect desk w).setInProgress desk none

/-- A handle ends by its state at a desk reset (R145). -/
def State.endHandle (s : State) (desk : Desk) (h : HandleNo) : State :=
  match s.handle desk h with
  | .free => s
  | .reading r => s.closeRead desk h r
  | .writing w =>
    match w.state with
    | .committing => s.setHandle desk h (.writing { w with orphan := true })
    | _ => s.dropWrite desk h w
  | .lost _ => s.setHandle desk h .free

/-- The slots of a drive that a desk holds, in ascending order. -/
def State.heldBy (s : State) (d : DriveNo) (desk : Desk) : List SlotNo :=
  match s.images[d] with
  | none => []
  | some img => allSlots.filter (fun n => (img.slots[n]).holder == some desk)

/-- The desk's remaining holds are released in ascending order of drive and then of slot (R182). -/
def State.releaseHolds (s : State) (desk : Desk) : State :=
  allDrives.foldl (fun s d => (State.heldBy s d desk).foldl (fun s n => State.releaseWithEvent s d n) s) s

/-- A desk reset (R181, R182). -/
def State.deskReset (s : State) (desk : Desk) : State :=
  ((((s.dropInProgress desk).endHandle desk 0).endHandle desk 1).releaseHolds desk).setDesk desk .clear

/-! ### IDLE, R179 -/

/-- IDLE (R179). -/
def takeIdle (desk : Desk) (fields : List Byte) (s : State) : State :=
  s.taking desk .idle fields (fun s => s.done desk Kind.idle.code noFlags [] .keep)

/-- An accepted IDLE frame. -/
def execIdle (desk : Desk) (fields : List Byte) (s : State) : Host.Outcome State Fault Refusal :=
  .next (s.powered (takeIdle desk fields))

/-! ### STATUS, R180 -/

/-- The continuation's number and its handle or drive (R180). -/
def Continuation.bytes : Continuation → List Byte
  | .none => [0, 0]
  | .put h => [1, byteOf h.val]
  | .get h => [2, byteOf h.val]
  | .list d _ _ _ => [3, byteOf d.val]

/-- The 23 bytes of a handle in STATUS (R180). -/
def handleBytes (code : Byte) (drive : Nat) (slug : Chars) (length mark cause : Nat) : List Byte :=
  [code, byteOf drive] ++ padded 16 slug ++ twoBytes length ++ twoBytes mark ++ [byteOf cause]

/-- A handle as STATUS reports it (R180). -/
def Handle.bytes : Handle → List Byte
  | .free => handleBytes 0 0 [] 0 0 0
  | .reading r => handleBytes 1 r.drive.val r.slug r.length r.delivery 0
  | .writing w =>
    match w.state with
    | .isOpen => handleBytes 2 w.drive.val w.slug w.length w.mark 0
    | .committing => handleBytes 3 w.drive.val w.slug w.length w.mark 0
    | .failed c => handleBytes 4 w.drive.val w.slug w.length w.mark c.number
  | .lost l => handleBytes 5 l.drive.val l.slug l.length 0 l.cause.number

/-- The cylinder the format sequencer reports as its progress (R190). -/
def FormatJob.cylinder (j : FormatJob) : Nat :=
  match j.phase with
  | .tracks => j.nextTrack / 2
  | .verify => (targetOfL j.verifyL).cylinder
  | .label => 0
  | .catalogue => 0

/-- The format cylinder of a drive: 255 unless it is FORMATTING (R180). -/
def State.formatCylinder (s : State) (d : DriveNo) : Nat :=
  if s.drives[d].state = .formatting then
    match s.sequencer with
    | some j => if j.drive = d then j.cylinder else 255
    | none => 255
  else 255

/-- The volume name of a drive's image, empty without one (R180). -/
def State.volumeName (s : State) (d : DriveNo) : Chars :=
  match s.images[d] with
  | some img => img.name
  | none => []

/-- The 15 bytes of a drive in STATUS (R180). -/
def State.driveBytes (s : State) (d : DriveNo) : List Byte :=
  let u := s.drives[d]
  [u.state.code, driveAttributes u.isProtected u.damaged] ++ padded 12 (s.volumeName d) ++ [byteOf (s.formatCylinder d)]

/-- The channel byte of STATUS: the drive with the grant, or 255 (R180). -/
def Channel.byte (c : Channel) : Byte :=
  match c.grant with
  | some d => byteOf d.val
  | none => 255

/-- The reply fields of STATUS (R180). -/
def State.statusBytes (s : State) (desk : Desk) : List Byte :=
  let t := s.deskSettings[desk]
  let c := s.desks[desk]
  [rightsByte t.supervisor t.urgent, byteOf t.quota, byteOf (s.holdings desk), byteOf c.holds] ++ c.continuation.bytes
    ++ twoBytes c.cursor ++ (s.handle desk 0).bytes ++ (s.handle desk 1).bytes
    ++ s.driveBytes 0 ++ s.driveBytes 1 ++ s.driveBytes 2 ++ s.driveBytes 3 ++ [s.channel.byte]

/-- STATUS (R180). -/
def takeStatus (desk : Desk) (fields : List Byte) (s : State) : State :=
  s.taking desk .status fields (fun s => s.done desk Kind.status.code noFlags (s.statusBytes desk) .keep)

/-- An accepted STATUS frame. -/
def execStatus (desk : Desk) (fields : List Byte) (s : State) : Host.Outcome State Fault Refusal :=
  .next (s.powered (takeStatus desk fields))

/-- CANCEL (R172). -/
def takeCancel (desk : Desk) (fields : List Byte) (s : State) : State := s.taking desk .cancel fields (fun s => s.cancel desk)

/-- An accepted CANCEL frame. -/
def execCancel (desk : Desk) (fields : List Byte) (s : State) : Host.Outcome State Fault Refusal :=
  .next (s.powered (takeCancel desk fields))

end Sys2Proof.Machine
end

