-- ==== Sys2Proof/Machine/News.lean ====
section
/-! DEFINITION. The requests about watches, subscriptions and notices: WATCH, UNWATCH, SUBSCRIBE and TAKE-NOTICE
(R154 to R156, R159). -/

namespace Sys2Proof.Machine

/-- One watch place of a desk replaced (R149). -/
def State.setWatch (s : State) (desk : Desk) (i : WatchNo) (w : Option Watch) : State :=
  s.setDesk desk { s.desks[desk] with watches := (s.desks[desk].watches).set i w }

/-- The byte that says whether a watch stood in the place (R154, R155). -/
def State.watchByte (s : State) (desk : Desk) (i : WatchNo) : Byte := if ((s.desks[desk].watches)[i]).isSome then 1 else 0

/-- The watch id and conditions a WATCH body names, none when one is out of range (R154). -/
def watchFields (id first second rep : Byte) : Option (WatchNo × Condition × Option Condition × Bool) :=
  match watchOf id, conditionOf first with
  | some i, some c =>
    if 1 < rep.toNat then none
    else if second = 0 then some (i, c, none, rep == 1)
    else (conditionOf second).map (fun c2 => (i, c, some c2, rep == 1))
  | _, _ => none

/-- WATCH once the tests of R171 are passed: watch id, drive, conditions, repeat, prefix (R154). -/
def State.watchOwn (s : State) (desk : Desk) (fields : List Byte) : State :=
  match fields with
  | id :: d :: first :: second :: rep :: start =>
    match slugOf start with
    | none => s.refuseKind desk .watch .badSlug
    | some start =>
      match watchFields id first second rep with
      | none => s.refuseKind desk .watch .outOfRange
      | some (i, c1, c2, again) =>
        match driveOf d with
        | none => s.refuseKind desk .watch .noDrive
        | some d =>
          (s.setWatch desk i (some { drive := d, start := start, first := c1, second := c2, repeats := again, matched := none })).doneKind
            desk .watch [s.watchByte desk i]
  | _ => s.refuseKind desk .watch .badLength

/-- WATCH (R154). -/
def takeWatch (desk : Desk) (fields : List Byte) (s : State) : State := s.taking desk .watch fields (fun s => s.watchOwn desk fields)

/-- An accepted WATCH frame. -/
def execWatch (desk : Desk) (fields : List Byte) (s : State) : Host.Outcome State Fault Refusal :=
  .next (s.powered (takeWatch desk fields))

/-- UNWATCH once the tests of R171 are passed: watch id (R155). -/
def State.unwatchOwn (s : State) (desk : Desk) (fields : List Byte) : State :=
  match fields with
  | [id] =>
    match watchOf id with
    | none => s.refuseKind desk .unwatch .outOfRange
    | some i => (s.setWatch desk i none).doneKind desk .unwatch [s.watchByte desk i]
  | _ => s.refuseKind desk .unwatch .badLength

/-- UNWATCH (R155). -/
def takeUnwatch (desk : Desk) (fields : List Byte) (s : State) : State :=
  s.taking desk .unwatch fields (fun s => s.unwatchOwn desk fields)

/-- An accepted UNWATCH frame. -/
def execUnwatch (desk : Desk) (fields : List Byte) (s : State) : Host.Outcome State Fault Refusal :=
  .next (s.powered (takeUnwatch desk fields))

/-- SUBSCRIBE once the tests of R171 are passed: DRIVE set, FILINGS set (R156). -/
def State.subscribeOwn (s : State) (desk : Desk) (fields : List Byte) : State :=
  match fields with
  | [a, b] =>
    match driveSetOf a, driveSetOf b with
    | some x, some y => (s.setDesk desk { s.desks[desk] with driveSet := x, filingsSet := y }).doneKind desk .subscribe [a, b]
    | _, _ => s.refuseKind desk .subscribe .outOfRange
  | _ => s.refuseKind desk .subscribe .badLength

/-- SUBSCRIBE (R156). -/
def takeSubscribe (desk : Desk) (fields : List Byte) (s : State) : State :=
  s.taking desk .subscribe fields (fun s => s.subscribeOwn desk fields)

/-- An accepted SUBSCRIBE frame. -/
def execSubscribe (desk : Desk) (fields : List Byte) (s : State) : Host.Outcome State Fault Refusal :=
  .next (s.powered (takeSubscribe desk fields))

/-- TAKE-NOTICE once the tests of R171 are passed: the oldest notice removed and returned (R159). -/
def State.takeNoticeOwn (s : State) (desk : Desk) : State :=
  match s.desks[desk].notices with
  | [] => s.done desk Kind.takeNotice.code noFlags [0] .keep
  | n :: ns => (s.setDesk desk { s.desks[desk] with notices := ns }).done desk Kind.takeNotice.code noFlags n.bytes .keep

/-- TAKE-NOTICE (R159). -/
def takeTakeNotice (desk : Desk) (fields : List Byte) (s : State) : State :=
  s.taking desk .takeNotice fields (fun s => s.takeNoticeOwn desk)

/-- An accepted TAKE-NOTICE frame. -/
def execTakeNotice (desk : Desk) (fields : List Byte) (s : State) : Host.Outcome State Fault Refusal :=
  .next (s.powered (takeTakeNotice desk fields))

end Sys2Proof.Machine
end

