-- ==== Sys2Proof/Machine/Listings.lean ====
section
/-! DEFINITION. The requests of the catalogue unit: LIST, LIST-ON, HOLD, RELEASE and SPIKE (R107, R108, R117 to R119). -/

namespace Sys2Proof.Machine

/-! ### LIST and LIST-ON, R118 and R119 -/

/-- A slot matches a listing: FILED or CREATING, the prefix begins its slug, and the edition filter admits its edition; a filter
of 16 to 255 admits any (R118). -/
def Slot.matchesList (t : Slot) (start : Chars) (edition : Nat) : Bool :=
  t.state != .free && start.isPrefixOf t.slug && (decide (16 ≤ edition) || t.edition == edition)

/-- An entry of a listing in 24 bytes (R118). -/
def Slot.listEntry (t : Slot) : List Byte :=
  padded 16 t.slug ++ twoBytes t.length ++ twoBytes t.version ++ [byteOf t.edition, byteOf t.origin.val]
    ++ [match t.holder with | some d => byteOf d.val | none => 255]
    ++ [listFlags (t.state == .creating) t.pending.isSome]

/-- The matching slots from a slot number on, in ascending order (R118). -/
def Image.matching (img : Image) (start : Chars) (edition : Nat) (from' : Nat) : List SlotNo :=
  allSlots.filter (fun n => decide (from' ≤ n.val) && (img.slots[n]).matchesList start edition)

/-- The desk cursor after a listing: the slot after the last of three entries, 232 after fewer (R118). -/
def listCursor (shown : List SlotNo) : Nat :=
  if shown.length < 3 then 232
  else
    match shown.getLast? with
    | some n => n.val + 1
    | none => 232

/-- LIST and LIST-ON are answered DONE with the first three matches (R118, R119). -/
def State.answerList (s : State) (desk : Desk) (k : Kind) (d : DriveNo) (img : Image) (start : Chars) (edition : Nat) (from' : Nat) :
    State :=
  let found := img.matching start edition from'
  let shown := found.take 3
  s.done desk k.code (moreFlag (decide (3 < found.length)))
    (byteOf shown.length :: shown.flatMap (fun n => (img.slots[n]).listEntry))
    (.continues (.list d img.id start edition) (listCursor shown))

/-- LIST once the tests of R171 are passed: drive, edition filter, prefix (R118). -/
def State.listOwn (s : State) (desk : Desk) (fields : List Byte) : State :=
  match fields with
  | d :: edition :: start =>
    match slugOf start with
    | none => s.refuseKind desk .list .badSlug
    | some start =>
      match s.imageOf d with
      | none => s.refuseKind desk .list .noDrive
      | some (d, img) => s.answerList desk .list d img start edition.toNat 0
  | _ => s.refuseKind desk .list .badLength

/-- LIST (R118). -/
def takeList (desk : Desk) (fields : List Byte) (s : State) : State := s.taking desk .list fields (fun s => s.listOwn desk fields)

/-- An accepted LIST frame. -/
def execList (desk : Desk) (fields : List Byte) (s : State) : Host.Outcome State Fault Refusal :=
  .next (s.powered (takeList desk fields))

/-- LIST-ON once the tests of R171 are passed (R119). -/
def State.listOnOwn (s : State) (desk : Desk) : State :=
  match s.desks[desk].continuation with
  | .list d id start edition =>
    match s.images[d] with
    | none => s.refuseKind desk .listOn .noDrive
    | some img =>
      if img.id = id then s.answerList desk .listOn d img start edition s.desks[desk].cursor
      else s.refuseKind desk .listOn .noDrive
  | _ => s.refuseKind desk .listOn .illegalSequence

/-- LIST-ON (R119). -/
def takeListOn (desk : Desk) (fields : List Byte) (s : State) : State := s.taking desk .listOn fields (fun s => s.listOnOwn desk)

/-- An accepted LIST-ON frame. -/
def execListOn (desk : Desk) (fields : List Byte) (s : State) : Host.Outcome State Fault Refusal :=
  .next (s.powered (takeListOn desk fields))

/-! ### The story a request names, R96, R98 and R186 -/

/-- The drive and the FILED slot a request names, or the first of BAD-SLUG, NO-DRIVE, IN-USE for a drive being unmounted, and
NOT-FOUND that applies; the IN-USE test is made only for the requests R186 names. -/
def State.findStory (s : State) (markMatters : Bool) (driveByte : Byte) (chars : List Byte) : Except Reason (DriveNo × SlotNo) :=
  match slugOf chars with
  | none => .error .badSlug
  | some slug =>
    match s.imageOf driveByte with
    | none => .error .noDrive
    | some (d, img) =>
      if markMatters && img.unmounting then .error .inUse
      else
        match img.lookupFiled slug with
        | none => .error .notFound
        | some n => .ok (d, n)

/-- Another desk than the one given holds the story. -/
def Slot.heldElsewhere (t : Slot) (desk : Desk) : Bool :=
  match t.holder with
  | some e => e != desk
  | none => false

/-- The slot carries a pending removal. -/
def Slot.beingRemoved (t : Slot) : Bool :=
  match t.pending with
  | some (.removal _) => true
  | _ => false

/-- A desk that does not hold the story already has 8 holds (R106). -/
def State.tooManyHolds (s : State) (desk : Desk) (t : Slot) : Bool :=
  t.holder != some desk && decide (Config.maxHolds ≤ s.desks[desk].holds)

/-- A desk takes a hold with its HELD event (R107, R133). -/
def State.takeHoldWithEvent (s : State) (d : DriveNo) (n : SlotNo) (desk : Desk) : State :=
  let t := s.slot d n
  (s.takeHold d n desk).raise (.held d t.slug desk t.version)

/-! ### HOLD and RELEASE, R107 and R108 -/

/-- HOLD on a story that was found (R107). -/
def State.holdStory (s : State) (desk : Desk) (d : DriveNo) (n : SlotNo) : State :=
  let t := s.slot d n
  if t.heldElsewhere desk then s.refuseKind desk .hold .heldElsewhere
  else if t.beingRemoved then s.refuseKind desk .hold .inUse
  else if s.tooManyHolds desk t then s.refuseKind desk .hold .tooManyHolds
  else if t.holder = some desk then s.doneKind desk .hold []
  else (s.takeHoldWithEvent d n desk).doneKind desk .hold []

/-- HOLD once the tests of R171 are passed (R107). -/
def State.holdOwn (s : State) (desk : Desk) (fields : List Byte) : State :=
  match fields with
  | d :: slug =>
    match s.findStory false d slug with
    | .error r => s.refuseKind desk .hold r
    | .ok (d, n) => s.holdStory desk d n
  | _ => s.refuseKind desk .hold .badLength

/-- HOLD (R107). -/
def takeHold (desk : Desk) (fields : List Byte) (s : State) : State := s.taking desk .hold fields (fun s => s.holdOwn desk fields)

/-- An accepted HOLD frame. -/
def execHold (desk : Desk) (fields : List Byte) (s : State) : Host.Outcome State Fault Refusal :=
  .next (s.powered (takeHold desk fields))

/-- RELEASE on a story that was found (R108). -/
def State.releaseStory (s : State) (desk : Desk) (d : DriveNo) (n : SlotNo) : State :=
  if (s.slot d n).holder ≠ some desk then s.refuseKind desk .release .notHolder
  else if s.deskWriterOn desk d n then s.refuseKind desk .release .inUse
  else (s.releaseWithEvent d n).doneKind desk .release []

/-- RELEASE once the tests of R171 are passed (R108). -/
def State.releaseOwn (s : State) (desk : Desk) (fields : List Byte) : State :=
  match fields with
  | d :: slug =>
    match s.findStory false d slug with
    | .error r => s.refuseKind desk .release r
    | .ok (d, n) => s.releaseStory desk d n
  | _ => s.refuseKind desk .release .badLength

/-- RELEASE (R108). -/
def takeRelease (desk : Desk) (fields : List Byte) (s : State) : State :=
  s.taking desk .release fields (fun s => s.releaseOwn desk fields)

/-- An accepted RELEASE frame. -/
def execRelease (desk : Desk) (fields : List Byte) (s : State) : Host.Outcome State Fault Refusal :=
  .next (s.powered (takeRelease desk fields))

/-! ### SPIKE, R117 -/

/-- The first refusal of a SPIKE of a story that was found (R117). -/
def State.spikeTest (s : State) (desk : Desk) (d : DriveNo) (n : SlotNo) : Option Reason :=
  let t := s.slot d n
  if s.drives[d].readOnly then some .isProtected
  else if t.heldElsewhere desk then some .heldElsewhere
  else if s.writerOn d n || t.pending.isSome then some .inUse
  else none

/-- SPIKE once the tests of R171 are passed: drive, class, slug (R117). -/
def State.spikeOwn (s : State) (desk : Desk) (fields : List Byte) : State :=
  match fields with
  | d :: cls :: slug =>
    let lowered := s.lowers desk cls
    match s.findStory true d slug with
    | .error r => s.refuse desk Kind.spike.code (loweredFlag lowered) r
    | .ok (d, n) =>
      match s.spikeTest desk d n with
      | some r => s.refuse desk Kind.spike.code (loweredFlag lowered) r
      | none => ((s.placeChange d n (.removal desk)).setInProgress desk (some (.spike d n lowered))).settle
  | _ => s.refuseKind desk .spike .badLength

/-- SPIKE (R117). -/
def takeSpike (desk : Desk) (fields : List Byte) (s : State) : State := s.taking desk .spike fields (fun s => s.spikeOwn desk fields)

/-- An accepted SPIKE frame. -/
def execSpike (desk : Desk) (fields : List Byte) (s : State) : Host.Outcome State Fault Refusal :=
  .next (s.powered (takeSpike desk fields))

end Sys2Proof.Machine
end

