-- ==== Sys2Proof/Machine/Stories.lean ====
section
/-! DEFINITION. The requests of the filing unit: OPEN-READ, GET, GET-ON, CLOSE, OPEN-WRITE, PUT, PUT-ON, FILE and DROP
(R122, R123, R126 to R128, R131 to R137, R142, R143). -/

namespace Sys2Proof.Machine

/-- The lowest FREE handle of a desk (R123, R134). -/
def State.freeHandle (s : State) (desk : Desk) : Option HandleNo :=
  if s.handle desk 0 = .free then some 0 else if s.handle desk 1 = .free then some 1 else none

/-! ### OPEN-READ, R123 -/

/-- A read handle just opened on a slot's current version (R123). -/
def Slot.opened (t : Slot) (d : DriveNo) (n : SlotNo) (c : Class) : ReadHandle :=
  { drive := d, slot := n, slug := t.slug, cls := c, length := t.length, version := t.version, extents := t.extents,
    binding := .current, delivery := 0, readAhead := 0, table := List.replicate (sectorsFor t.length) .absent }

/-- OPEN-READ on a story that was found: the handle bound, the reply, the first read-ahead (R104, R123, R124). -/
def State.openRead (s : State) (desk : Desk) (d : DriveNo) (n : SlotNo) (c : Class) (lowered : Bool) (h : HandleNo) : State :=
  let t := s.slot d n
  let s := (s.setSlot d n { t with readers := t.readers + 1 }).setHandle desk h (.reading (t.opened d n c))
  let s := s.done desk Kind.openRead.code (loweredFlag lowered) (byteOf h.val :: twoBytes t.length ++ twoBytes t.version) .clear
  (s.readAhead desk h).settle

/-- OPEN-READ once the tests of R171 are passed: drive, class, slug (R123). -/
def State.openReadOwn (s : State) (desk : Desk) (fields : List Byte) : State :=
  match fields with
  | d :: cls :: slug =>
    let lowered := s.lowers desk cls
    match s.findStory true d slug with
    | .error r => s.refuse desk Kind.openRead.code (loweredFlag lowered) r
    | .ok (d, n) =>
      match s.freeHandle desk with
      | none => s.refuse desk Kind.openRead.code (loweredFlag lowered) .noHandle
      | some h => s.openRead desk d n (s.classFor desk cls) lowered h
  | _ => s.refuseKind desk .openRead .badLength

/-- OPEN-READ (R123). -/
def takeOpenRead (desk : Desk) (fields : List Byte) (s : State) : State :=
  s.taking desk .openRead fields (fun s => s.openReadOwn desk fields)

/-- An accepted OPEN-READ frame. -/
def execOpenRead (desk : Desk) (fields : List Byte) (s : State) : Host.Outcome State Fault Refusal :=
  .next (s.powered (takeOpenRead desk fields))

/-! ### GET and GET-ON, R126 to R128 -/

/-- A GET that must wait: it becomes the request in progress and asks for pages for its ABSENT sectors (R128). -/
def State.waitGet (s : State) (desk : Desk) (h : HandleNo) (r : ReadHandle) (on : Bool) (offset n : Nat) : State :=
  let absent := (sectorsCovering offset n).filter (fun j => r.table.getD j .absent == .absent)
  (s.setInProgress desk (some (.get on h offset n))).askForGet desk h absent

/-- A GET on a READ-OPEN handle (R126, R128). A refusal changes nothing beyond its reply and the tally (R171), so it is no occasion of
read-ahead (DEDUCED, log 30, beside R124). -/
def State.getOpen (s : State) (desk : Desk) (h : HandleNo) (r : ReadHandle) (on : Bool) (offset count : Nat) : State :=
  if count = 0 ∨ 128 < count then s.refuseKind desk (if on then .getOn else .get) .outOfRange
  else if r.length ≤ offset then (s.answerGet desk h r on offset 0).settle
  else
    let n := min count (r.length - offset)
    if r.covers offset n then (s.answerGet desk h r on offset n).settle else (s.waitGet desk h r on offset n).settle

/-- GET meets the state of its handle (R122). -/
def State.getOf (s : State) (desk : Desk) (on : Bool) (h : HandleNo) (offset count : Nat) : State :=
  let k : Kind := if on then .getOn else .get
  match s.handle desk h with
  | .reading r => s.getOpen desk h r on offset count
  | .lost l => s.fail desk k.code noFlags l.cause []
  | .free => s.refuseKind desk k .badHandle
  | .writing _ => s.refuseKind desk k .badHandle

/-- GET once the tests of R171 are passed: handle, offset, count (R126). -/
def State.getOwn (s : State) (desk : Desk) (fields : List Byte) : State :=
  match fields with
  | [hb, o1, o0, count] =>
    match handleOf hb with
    | none => s.refuseKind desk .get .badHandle
    | some h => s.getOf desk false h (ofTwo o1 o0) count.toNat
  | _ => s.refuseKind desk .get .badLength

/-- GET (R126). -/
def takeGet (desk : Desk) (fields : List Byte) (s : State) : State := s.taking desk .get fields (fun s => s.getOwn desk fields)

/-- An accepted GET frame. -/
def execGet (desk : Desk) (fields : List Byte) (s : State) : Host.Outcome State Fault Refusal :=
  .next (s.powered (takeGet desk fields))

/-- GET-ON once the tests of R171 are passed: count; handle and offset from the context (R127). -/
def State.getOnOwn (s : State) (desk : Desk) (fields : List Byte) : State :=
  match fields, s.desks[desk].continuation with
  | [count], .get h => s.getOf desk true h s.desks[desk].cursor count.toNat
  | [_], _ => s.refuseKind desk .getOn .illegalSequence
  | _, _ => s.refuseKind desk .getOn .badLength

/-- GET-ON (R127). -/
def takeGetOn (desk : Desk) (fields : List Byte) (s : State) : State := s.taking desk .getOn fields (fun s => s.getOnOwn desk fields)

/-- An accepted GET-ON frame. -/
def execGetOn (desk : Desk) (fields : List Byte) (s : State) : Host.Outcome State Fault Refusal :=
  .next (s.powered (takeGetOn desk fields))

/-! ### CLOSE, R131 -/

/-- CLOSE meets the state of its handle (R122, R131). -/
def State.closeOf (s : State) (desk : Desk) (h : HandleNo) : State :=
  match s.handle desk h with
  | .reading r => ((s.closeRead desk h r).doneKind desk .close []).settle
  | .lost _ => (s.setHandle desk h .free).doneKind desk .close []
  | .free => s.refuseKind desk .close .badHandle
  | .writing _ => s.refuseKind desk .close .badHandle

/-- CLOSE once the tests of R171 are passed: handle (R131). -/
def State.closeOwn (s : State) (desk : Desk) (fields : List Byte) : State :=
  match fields with
  | [hb] =>
    match handleOf hb with
    | none => s.refuseKind desk .close .badHandle
    | some h => s.closeOf desk h
  | _ => s.refuseKind desk .close .badLength

/-- CLOSE (R131). -/
def takeClose (desk : Desk) (fields : List Byte) (s : State) : State := s.taking desk .close fields (fun s => s.closeOwn desk fields)

/-- An accepted CLOSE frame. -/
def execClose (desk : Desk) (fields : List Byte) (s : State) : Host.Outcome State Fault Refusal :=
  .next (s.powered (takeClose desk fields))

/-! ### OPEN-WRITE, R132 to R134 -/

/-- The fields of an OPEN-WRITE after its slug has been taken (R132). -/
structure WriteOrder where
  mode : WriteMode
  cls : Class
  edition : Nat
  length : Nat
  slug : Chars
  deriving DecidableEq, Repr

/-- The tests of NEW mode: the slot that would become CREATING (R133). -/
def State.newTest (s : State) (desk : Desk) (img : Image) (slug : Chars) : Except Reason SlotNo :=
  if (img.lookup slug).isSome then .error .existsAlready
  else
    match img.freeSlot with
    | none => .error .catalogueFull
    | some n => if Config.maxHolds ≤ s.desks[desk].holds then .error .tooManyHolds else .ok n

/-- The tests of REPLACE mode: the slot to be replaced (R133). -/
def State.replaceTest (s : State) (desk : Desk) (d : DriveNo) (img : Image) (slug : Chars) : Except Reason SlotNo :=
  match img.lookupFiled slug with
  | none => .error .notFound
  | some n =>
    let t := img.slots[n]
    if t.heldElsewhere desk then .error .heldElsewhere
    else if t.pending.isSome || s.writerOn d n then .error .inUse
    else if s.tooManyHolds desk t then .error .tooManyHolds
    else .ok n

/-- The tests of the mode (R133). -/
def State.modeTest (s : State) (desk : Desk) (d : DriveNo) (img : Image) (o : WriteOrder) : Except Reason SlotNo :=
  match o.mode with
  | .new => s.newTest desk img o.slug
  | .replace => s.replaceTest desk d img o.slug

/-- A slot OPEN-WRITE makes CREATING, before its hold is taken (R97). -/
def creatingSlot (desk : Desk) (o : WriteOrder) : Slot :=
  { Slot.free with state := .creating, slug := o.slug, origin := desk, edition := o.edition, length := o.length }

/-- The slot or the hold a granted OPEN-WRITE takes (R133). -/
def State.takeStory (s : State) (desk : Desk) (d : DriveNo) (n : SlotNo) (o : WriteOrder) : State :=
  match o.mode with
  | .new => (s.setSlot d n (creatingSlot desk o)).takeHold d n desk
  | .replace => if (s.slot d n).holder = some desk then s else s.takeHoldWithEvent d n desk

/-- A write handle just opened (R134). -/
def openedWrite (d : DriveNo) (n : SlotNo) (o : WriteOrder) (es : List Extent) : WriteHandle :=
  { drive := d, slot := n, slug := o.slug, cls := o.cls, length := o.length, state := .isOpen, mode := o.mode, edition := o.edition,
    reservation := es, mark := 0, check := checkStart, table := List.replicate (sectorsFor o.length) .unstarted, keepHold := false,
    placed := false, orphan := false }

/-- OPEN-WRITE is granted (R101, R133, R134). -/
def State.openWrite (s : State) (desk : Desk) (d : DriveNo) (img : Image) (n : SlotNo) (o : WriteOrder) (es : List Extent)
    (lowered : Bool) (h : HandleNo) : State :=
  let s := ((s.setImage d (some (img.markAllocated (sectorsOf es)))).takeStory desk d n o).setHandle desk h
    (.writing (openedWrite d n o es))
  s.done desk Kind.openWrite.code (loweredFlag lowered) [byteOf h.val, byteOf (sectorsFor o.length)] .clear

/-- The tests of OPEN-WRITE after NO-DRIVE, and its grant (R132, R186). -/
def State.openWriteOn (s : State) (desk : Desk) (d : DriveNo) (img : Image) (o : WriteOrder) (lowered : Bool) : State :=
  let no := fun (r : Reason) => s.refuse desk Kind.openWrite.code (loweredFlag lowered) r
  if img.unmounting then no .inUse
  else if s.drives[d].readOnly then no .isProtected
  else
    match s.freeHandle desk with
    | none => no .noHandle
    | some h =>
      match s.modeTest desk d img o with
      | .error r => no r
      | .ok n =>
        match img.reserve (sectorsFor o.length) with
        | .error r => no r
        | .ok es => s.openWrite desk d img n o es lowered h

/-- OPEN-WRITE once the tests of R171 are passed: drive, mode, class, edition, length, slug (R132). -/
def State.openWriteOwn (s : State) (desk : Desk) (fields : List Byte) : State :=
  match fields with
  | d :: mode :: cls :: edition :: l1 :: l0 :: chars =>
    let lowered := s.lowers desk cls
    let no := fun (r : Reason) => s.refuse desk Kind.openWrite.code (loweredFlag lowered) r
    match slugOf chars with
    | none => no .badSlug
    | some slug =>
      if 1 < mode.toNat ∨ 15 < edition.toNat then no .outOfRange
      else if Config.maxStory < ofTwo l1 l0 then no .tooLong
      else
        match s.imageOf d with
        | none => no .noDrive
        | some (d, img) =>
          s.openWriteOn desk d img
            { mode := if mode = 0 then .new else .replace, cls := s.classFor desk cls, edition := edition.toNat,
              length := ofTwo l1 l0, slug := slug } lowered
  | _ => s.refuseKind desk .openWrite .badLength

/-- OPEN-WRITE (R132). -/
def takeOpenWrite (desk : Desk) (fields : List Byte) (s : State) : State :=
  s.taking desk .openWrite fields (fun s => s.openWriteOwn desk fields)

/-- An accepted OPEN-WRITE frame. -/
def execOpenWrite (desk : Desk) (fields : List Byte) (s : State) : Host.Outcome State Fault Refusal :=
  .next (s.powered (takeOpenWrite desk fields))

/-! ### PUT and PUT-ON, R135 to R137 -/

/-- A PUT with new bytes: stored at once, or the desk's waiting request until its page comes (R86, R136). -/
def State.putNew (s : State) (desk : Desk) (h : HandleNo) (w : WriteHandle) (on : Bool) (offset : Nat) (data : List Byte) : State :=
  match putNeeds w (offset + data.length) with
  | none => s.storePut desk h w on offset data none
  | some j =>
    match s.askNow desk with
    | some p => (s.holdPage p (.handleSector desk h j)).storePut desk h w on offset data (some (j, p))
    | none =>
      let s := s.setInProgress desk (some (.put on h offset data))
      s.setPool { s.pool with waiters := s.pool.waiters ++ [{ desk := desk, handle := h, cls := w.cls, lacks := [j] }] }

/-- A PUT on a WRITE-OPEN handle (R135). -/
def State.putOpen (s : State) (desk : Desk) (h : HandleNo) (w : WriteHandle) (on : Bool) (offset : Nat) (data : List Byte) : State :=
  let k : Kind := if on then .putOn else .put
  if w.mark < offset then s.refuseKind desk k .gap
  else if w.length < offset + data.length then s.refuseKind desk k .outOfRange
  else if offset + data.length ≤ w.mark then
    s.done desk k.code noFlags (twoBytes w.mark ++ [0]) (.continues (.put h) (offset + data.length))
  else (s.putNew desk h w on offset data).settle

/-- PUT meets the state of its handle (R122). -/
def State.putOf (s : State) (desk : Desk) (on : Bool) (h : HandleNo) (offset : Nat) (data : List Byte) : State :=
  let k : Kind := if on then .putOn else .put
  match s.handle desk h with
  | .writing w =>
    match w.state with
    | .isOpen => s.putOpen desk h w on offset data
    | .committing => s.refuseKind desk k .badHandle
    | .failed c => s.fail desk k.code noFlags c []
  | .lost l => s.fail desk k.code noFlags l.cause []
  | .free => s.refuseKind desk k .badHandle
  | .reading _ => s.refuseKind desk k .badHandle

/-- PUT once the tests of R171 are passed: handle, offset, data (R135). -/
def State.putOwn (s : State) (desk : Desk) (fields : List Byte) : State :=
  match fields with
  | hb :: o1 :: o0 :: data =>
    match handleOf hb with
    | none => s.refuseKind desk .put .badHandle
    | some h => s.putOf desk false h (ofTwo o1 o0) data
  | _ => s.refuseKind desk .put .badLength

/-- PUT (R135). -/
def takePut (desk : Desk) (fields : List Byte) (s : State) : State := s.taking desk .put fields (fun s => s.putOwn desk fields)

/-- An accepted PUT frame. -/
def execPut (desk : Desk) (fields : List Byte) (s : State) : Host.Outcome State Fault Refusal :=
  .next (s.powered (takePut desk fields))

/-- PUT-ON once the tests of R171 are passed: data; handle and offset from the context (R137). -/
def State.putOnOwn (s : State) (desk : Desk) (fields : List Byte) : State :=
  match s.desks[desk].continuation with
  | .put h => s.putOf desk true h s.desks[desk].cursor fields
  | _ => s.refuseKind desk .putOn .illegalSequence

/-- PUT-ON (R137). -/
def takePutOn (desk : Desk) (fields : List Byte) (s : State) : State := s.taking desk .putOn fields (fun s => s.putOnOwn desk fields)

/-- An accepted PUT-ON frame. -/
def execPutOn (desk : Desk) (fields : List Byte) (s : State) : Host.Outcome State Fault Refusal :=
  .next (s.powered (takePutOn desk fields))

/-! ### FILE, R142 -/

/-- The first refusal of a FILE on a WRITE-OPEN handle (R142). -/
def State.fileTest (s : State) (w : WriteHandle) (check : Check) (keep : Byte) : Option Reason :=
  if 1 < keep.toNat then some .outOfRange
  else if s.drives[w.drive].readOnly then some .isProtected
  else if w.mark ≠ w.length then some .incomplete
  else if check ≠ w.check then some .checkMismatch
  else none

/-- A FILE on a WRITE-OPEN handle (R142). -/
def State.fileOpen (s : State) (desk : Desk) (h : HandleNo) (w : WriteHandle) (check : Check) (keep : Byte) : State :=
  match s.fileTest w check keep with
  | some r => s.refuseKind desk .file r
  | none =>
    let s := s.setHandle desk h (.writing { w with state := .committing, keepHold := keep != 0 })
    ((s.setInProgress desk (some (.file h))).placeVersion desk h).settle

/-- FILE meets the state of its handle (R122). -/
def State.fileOf (s : State) (desk : Desk) (h : HandleNo) (check : Check) (keep : Byte) : State :=
  match s.handle desk h with
  | .writing w =>
    match w.state with
    | .isOpen => s.fileOpen desk h w check keep
    | .committing => s.refuseKind desk .file .badHandle
    | .failed c => s.fail desk Kind.file.code noFlags c []
  | .lost l => s.fail desk Kind.file.code noFlags l.cause []
  | .free => s.refuseKind desk .file .badHandle
  | .reading _ => s.refuseKind desk .file .badHandle

/-- FILE once the tests of R171 are passed: handle, check, keep-hold choice (R142). -/
def State.fileOwn (s : State) (desk : Desk) (fields : List Byte) : State :=
  match fields with
  | [hb, c1, c0, keep] =>
    match handleOf hb with
    | none => s.refuseKind desk .file .badHandle
    | some h => s.fileOf desk h (checkOfTwo c1 c0) keep
  | _ => s.refuseKind desk .file .badLength

/-- FILE (R142). -/
def takeFile (desk : Desk) (fields : List Byte) (s : State) : State := s.taking desk .file fields (fun s => s.fileOwn desk fields)

/-- An accepted FILE frame. -/
def execFile (desk : Desk) (fields : List Byte) (s : State) : Host.Outcome State Fault Refusal :=
  .next (s.powered (takeFile desk fields))

/-! ### DROP, R143 -/

/-- DROP meets the state of its handle (R122, R143). -/
def State.dropOf (s : State) (desk : Desk) (h : HandleNo) : State :=
  match s.handle desk h with
  | .writing w =>
    match w.state with
    | .committing => s.refuseKind desk .drop .badHandle
    | .isOpen => ((s.dropWrite desk h w).doneKind desk .drop []).settle
    | .failed _ => ((s.dropWrite desk h w).doneKind desk .drop []).settle
  | .lost _ => (s.setHandle desk h .free).doneKind desk .drop []
  | .free => s.refuseKind desk .drop .badHandle
  | .reading _ => s.refuseKind desk .drop .badHandle

/-- DROP once the tests of R171 are passed: handle (R143). -/
def State.dropOwn (s : State) (desk : Desk) (fields : List Byte) : State :=
  match fields with
  | [hb] =>
    match handleOf hb with
    | none => s.refuseKind desk .drop .badHandle
    | some h => s.dropOf desk h
  | _ => s.refuseKind desk .drop .badLength

/-- DROP (R143). -/
def takeDrop (desk : Desk) (fields : List Byte) (s : State) : State := s.taking desk .drop fields (fun s => s.dropOwn desk fields)

/-- An accepted DROP frame. -/
def execDrop (desk : Desk) (fields : List Byte) (s : State) : Host.Outcome State Fault Refusal :=
  .next (s.powered (takeDrop desk fields))

end Sys2Proof.Machine
end

