-- ==== Sys2Proof/Machine/Supervision.lean ====
section
/-! DEFINITION. The supervisor requests: DRIVE-SET, DESK-SET, MOUNT, UNMOUNT, BREAK-HOLD, FORMAT, TALLY and RESTART
(R42, R44, R75, R183 to R193). -/

namespace Sys2Proof.Machine

/-! ### DRIVE-SET, R42 and R183 -/

/-- The drive record in DISABLED: the timer stopped, the latches empty, every output inactive (R19, R42). -/
def DriveUnit.disabled (u : DriveUnit) : DriveUnit := { u.timerStopped with latches := [], direction := false }

/-- The drive record of a drive that is enabled: by READY and auto-mount, with the timer afresh when READY is high (R42). -/
def DriveUnit.enabled (u : DriveUnit) (auto : Bool) : DriveUnit :=
  let u := { u with position := none }
  (if u.ready then u.timerAfresh else u).enters (u.stateByLines auto) none

/-- A change of the enabled setting takes effect (R42). -/
def State.applyEnabled (s : State) (d : DriveNo) (t : Settings) : State :=
  if t.enabled then
    if s.drives[d].state = .disabled then s.setDrive d (s.drives[d].enabled t.autoMount) else s
  else if s.drives[d].state = .disabled then s
  else
    let s := s.leaveUse d .disabled none (.removed d)
    s.setDrive d s.drives[d].disabled

/-- DRIVE-SET once the tests of R171 are passed: the drive and its fourteen bytes of settings (R183). -/
def State.driveSetOwn (s : State) (desk : Desk) (fields : List Byte) : State :=
  match fields with
  | db :: body =>
    match driveOf db, settingsOf body with
    | none, _ => s.refuseKind desk .driveSet .noDrive
    | some d, some t => (((s.setSettings d t).applyEnabled d t).doneKind desk .driveSet (settingsBytes t)).settle
    | some _, none => s.refuseKind desk .driveSet .badLength
  | _ => s.refuseKind desk .driveSet .badLength

/-- DRIVE-SET (R183). -/
def takeDriveSet (desk : Desk) (fields : List Byte) (s : State) : State :=
  s.taking desk .driveSet fields (fun s => s.driveSetOwn desk fields)

/-- An accepted DRIVE-SET frame. -/
def execDriveSet (desk : Desk) (fields : List Byte) (s : State) : Host.Outcome State Fault Refusal :=
  .next (s.powered (takeDriveSet desk fields))

/-! ### DESK-SET, R161, R175, R184 -/

/-- The desk settings a DESK-SET body gives after the desk number (R184). -/
def deskSettingsOf (rights quota rate : Byte) : DeskSettings :=
  { supervisor := rights.getLsbD 0, urgent := rights.getLsbD 1, quota := clamp 1 56 quota.toNat, rate := rateOf rate }

/-- Some desk would still hold SUPERVISOR (R175). -/
def keepsSupervisor (all : Vector DeskSettings 8) (target : Desk) (t : DeskSettings) : Bool :=
  allDesks.any (fun d => ((all.set target t)[d]).supervisor)

/-- The reply of a DESK-SET; the target's line takes the new rate when it has been sent (R161, R184). -/
def State.answerDeskSet (s : State) (desk target : Desk) (t : DeskSettings) : State :=
  (s.queueReply desk
    { kind := Kind.deskSet.code, result := .done, reason := none, notices := 0, flags := noFlags,
      fields := [rightsByte t.supervisor t.urgent, byteOf t.quota, t.rate.code], rateChange := some (target, t.rate) }).continueDesk
    desk .clear

/-- DESK-SET once the tests of R171 are passed: desk, rights, quota, rate code (R184). -/
def State.deskSetOwn (s : State) (desk : Desk) (fields : List Byte) : State :=
  match fields with
  | [n, rights, quota, rate] =>
    match deskOf n with
    | none => s.refuseKind desk .deskSet .outOfRange
    | some target =>
      let t := deskSettingsOf rights quota rate
      if keepsSupervisor s.deskSettings target t then ((s.setDeskSettings target t).answerDeskSet desk target t).settle
      else s.refuseKind desk .deskSet .lastSupervisor
  | _ => s.refuseKind desk .deskSet .badLength

/-- DESK-SET (R184). -/
def takeDeskSet (desk : Desk) (fields : List Byte) (s : State) : State :=
  s.taking desk .deskSet fields (fun s => s.deskSetOwn desk fields)

/-- An accepted DESK-SET frame. -/
def execDeskSet (desk : Desk) (fields : List Byte) (s : State) : Host.Outcome State Fault Refusal :=
  .next (s.powered (takeDeskSet desk fields))

/-! ### MOUNT, R39 and R185 -/

/-- MOUNT once the tests of R171 are passed: the drive (R185). -/
def State.mountOwn (s : State) (desk : Desk) (fields : List Byte) : State :=
  match fields with
  | [db] =>
    match driveOf db with
    | none => s.refuseKind desk .mount .noDrive
    | some d =>
      if s.drives[d].state = .offline then
        (s.setDrive d { s.drives[d].enters .spinCheck none with validCount := 0 }).doneKind desk .mount []
      else s.refuseKind desk .mount .inUse
  | _ => s.refuseKind desk .mount .badLength

/-- MOUNT (R185). -/
def takeMount (desk : Desk) (fields : List Byte) (s : State) : State := s.taking desk .mount fields (fun s => s.mountOwn desk fields)

/-- An accepted MOUNT frame. -/
def execMount (desk : Desk) (fields : List Byte) (s : State) : Host.Outcome State Fault Refusal :=
  .next (s.powered (takeMount desk fields))

/-! ### UNMOUNT, R144, R186 -/

/-- A forced UNMOUNT loses this handle: it is open on the drive and its version, if it has one, is not yet placed (R144). -/
def Handle.forcedOff (d : DriveNo) : Handle → Bool
  | .reading r => r.drive == d
  | .writing w => w.drive == d && !(w.state == .committing && w.placed)
  | _ => false

/-- The handles a forced UNMOUNT loses, in ascending order of desk and then of handle (R186). -/
def State.forceOff (s : State) (d : DriveNo) : State :=
  allHandles.foldl
    (fun s p => if (s.handle p.1 p.2).forcedOff d then s.loseHandle p.1 p.2 .driveLost .imageStands else s) s

/-- UNMOUNT is taken: the mark, with force the handles, and the wait for the last catalogue write (R186). -/
def State.startUnmount (s : State) (desk : Desk) (d : DriveNo) (force : Bool) : State :=
  let s := s.setUnmounting d true
  let s := if force then s.forceOff d else s
  (s.setInProgress desk (some (.unmount d))).settle

/-- UNMOUNT once the tests of R171 are passed: drive, force choice (R186). -/
def State.unmountOwn (s : State) (desk : Desk) (fields : List Byte) : State :=
  match fields with
  | [db, force] =>
    if 1 < force.toNat then s.refuseKind desk .unmount .outOfRange
    else
      match s.imageOf db with
      | none => s.refuseKind desk .unmount .noDrive
      | some (d, img) =>
        if img.unmounting then s.refuseKind desk .unmount .inUse
        else if force = 0 ∧ s.anyOpenOn d = true then s.refuseKind desk .unmount .inUse
        else s.startUnmount desk d (force == 1)
  | _ => s.refuseKind desk .unmount .badLength

/-- UNMOUNT (R186). -/
def takeUnmount (desk : Desk) (fields : List Byte) (s : State) : State :=
  s.taking desk .unmount fields (fun s => s.unmountOwn desk fields)

/-- An accepted UNMOUNT frame. -/
def execUnmount (desk : Desk) (fields : List Byte) (s : State) : Host.Outcome State Fault Refusal :=
  .next (s.powered (takeUnmount desk fields))

/-! ### BREAK-HOLD, R188 -/

/-- A write handle on a slot, COMMITTING as asked. -/
def Handle.writesSlot (d : DriveNo) (n : SlotNo) (committing : Bool) : Handle → Bool
  | .writing w => w.drive == d && w.slot == n && ((w.state == .committing) == committing)
  | _ => false

/-- The desk has a COMMITTING handle on the slot (R188). -/
def State.commitsOn (s : State) (desk : Desk) (d : DriveNo) (n : SlotNo) : Bool :=
  [(0 : HandleNo), 1].any (fun h => (s.handle desk h).writesSlot d n true)

/-- The former holder's WRITE-OPEN or FAILED handle on the story is lost (R144, R188). -/
def State.loseWriter (s : State) (holder : Desk) (d : DriveNo) (n : SlotNo) : State :=
  [(0 : HandleNo), 1].foldl
    (fun s h => if (s.handle holder h).writesSlot d n false then s.loseHandle holder h .notHolder .imageStands else s) s

/-- The hold on a story is broken (R188). -/
def State.breakHold (s : State) (desk holder : Desk) (d : DriveNo) (n : SlotNo) : State :=
  let t := s.slot d n
  let s := (s.dropHold d n).post holder (.holdBroken d t.slug desk)
  (((s.loseWriter holder d n).raise (.released d t.slug holder t.version)).doneKind desk .breakHold []).settle

/-- BREAK-HOLD once the tests of R171 are passed: drive, slug (R188). -/
def State.breakHoldOwn (s : State) (desk : Desk) (fields : List Byte) : State :=
  match fields with
  | db :: slug =>
    match s.findStory false db slug with
    | .error r => s.refuseKind desk .breakHold r
    | .ok (d, n) =>
      match (s.slot d n).holder with
      | none => s.refuseKind desk .breakHold .notHolder
      | some holder =>
        if s.commitsOn holder d n then s.refuseKind desk .breakHold .inUse else s.breakHold desk holder d n
  | _ => s.refuseKind desk .breakHold .badLength

/-- BREAK-HOLD (R188). -/
def takeBreakHold (desk : Desk) (fields : List Byte) (s : State) : State :=
  s.taking desk .breakHold fields (fun s => s.breakHoldOwn desk fields)

/-- An accepted BREAK-HOLD frame. -/
def execBreakHold (desk : Desk) (fields : List Byte) (s : State) : Host.Outcome State Fault Refusal :=
  .next (s.powered (takeBreakHold desk fields))

/-! ### FORMAT, R44 and R189 -/

/-- Any slot of an image has a holder (R189). -/
def Image.anyHeld (img : Image) : Bool := allSlots.any (fun n => (img.slots[n]).holder.isSome)

/-- A MOUNTED drive cannot be formatted now (R189). -/
def State.mountedBusy (s : State) (d : DriveNo) : Bool :=
  match s.images[d] with
  | none => true
  | some img => img.unmounting || s.anyOpenOn d || img.anyHeld || !img.allClean

/-- The IN-USE cases of FORMAT (R189). -/
def State.formatInUse (s : State) (d : DriveNo) : Bool :=
  s.sequencer.isSome ||
    match s.drives[d].state with
    | .blank => false
    | .offline => false
    | .mounted => s.mountedBusy d
    | _ => true

/-- The PROTECTED cases of FORMAT (R189). -/
def State.formatProtectedNow (s : State) (d : DriveNo) : Bool :=
  match s.drives[d].state with
  | .mounted => s.drives[d].isProtected
  | .offline => s.drives[d].writeProtect
  | .blank => s.drives[d].writeProtect
  | _ => false

/-- Entry to FORMATTING: attributes cleared, a recalibration started if the position is unknown and none is running (R44,
log 27). -/
def State.enterFormatting (s : State) (d : DriveNo) : State :=
  let u := { s.drives[d].enters .formatting none with isProtected := false, damaged := false, mount := .clear }
  let s := s.setDrive d u
  if u.position = none ∧ u.motion = .still then s.startRecal d else s

/-- The format sequencer takes a drive (R189, R190). -/
def State.startFormat (s : State) (d : DriveNo) (name : Chars) (skew : Nat) (verify : Bool) : State :=
  ((s.discardImage d).enterFormatting d).formatAsks
    { drive := d, name := name, skew := skew, verify := verify, phase := .tracks, nextTrack := 0, verifyL := 0, nextQ := 0, bad := [] }

/-- FORMAT once the tests of R171 are passed: drive, skew, verify choice, volume name (R189). -/
def State.formatOwn (s : State) (desk : Desk) (fields : List Byte) : State :=
  match fields with
  | db :: skew :: verify :: chars =>
    match slugOf chars with
    | none => s.refuseKind desk .format .badSlug
    | some name =>
      if 14 < skew.toNat ∨ 1 < verify.toNat then s.refuseKind desk .format .outOfRange
      else
        match driveOf db with
        | none => s.refuseKind desk .format .noDrive
        | some d =>
          if s.formatInUse d then s.refuseKind desk .format .inUse
          else if s.formatProtectedNow d then s.refuseKind desk .format .isProtected
          else ((s.startFormat d name skew.toNat (verify == 1)).doneKind desk .format []).settle
  | _ => s.refuseKind desk .format .badLength

/-- FORMAT (R189). -/
def takeFormat (desk : Desk) (fields : List Byte) (s : State) : State :=
  s.taking desk .format fields (fun s => s.formatOwn desk fields)

/-- An accepted FORMAT frame. -/
def execFormat (desk : Desk) (fields : List Byte) (s : State) : Host.Outcome State Fault Refusal :=
  .next (s.powered (takeFormat desk fields))

/-! ### TALLY, R82 and R192 -/

/-- The counters of a drive in the order of R80, two bytes each. -/
def DriveTally.bytes (t : DriveTally) : List Byte :=
  twoBytes t.sectorsRead ++ twoBytes t.sectorsWritten ++ twoBytes t.failedAttempts ++ twoBytes t.hardFailures
    ++ twoBytes t.recalibrations ++ twoBytes t.relocations ++ twoBytes t.speedFaults

/-- The counters of a desk in the order of R81, two bytes each. -/
def DeskTally.bytes (t : DeskTally) : List Byte := twoBytes t.framesDiscarded ++ twoBytes t.requestsRefused

/-- TALLY of a drive's set (R82, R192). -/
def State.tallyDrive (s : State) (desk : Desk) (d : DriveNo) (clear : Bool) : State :=
  (if clear then s.setDriveTally d .zero else s).doneKind desk .tally s.driveTallies[d].bytes

/-- TALLY of a desk's set (R82, R192). -/
def State.tallyDesk (s : State) (desk target : Desk) (clear : Bool) : State :=
  (if clear then s.setDeskTally target .zero else s).doneKind desk .tally s.deskTallies[target].bytes

/-- TALLY once the tests of R171 are passed: set, number, clear choice (R192). -/
def State.tallyOwn (s : State) (desk : Desk) (fields : List Byte) : State :=
  match fields with
  | [set, number, clear] =>
    if 1 < set.toNat ∨ 1 < clear.toNat then s.refuseKind desk .tally .outOfRange
    else if set = 0 then
      match driveOf number with
      | none => s.refuseKind desk .tally .outOfRange
      | some d => s.tallyDrive desk d (clear == 1)
    else
      match deskOf number with
      | none => s.refuseKind desk .tally .outOfRange
      | some target => s.tallyDesk desk target (clear == 1)
  | _ => s.refuseKind desk .tally .badLength

/-- TALLY (R192). -/
def takeTally (desk : Desk) (fields : List Byte) (s : State) : State := s.taking desk .tally fields (fun s => s.tallyOwn desk fields)

/-- An accepted TALLY frame. -/
def execTally (desk : Desk) (fields : List Byte) (s : State) : Host.Outcome State Fault Refusal :=
  .next (s.powered (takeTally desk fields))

/-! ### RESTART, R75 and R193 -/

/-- The WRITE-VERIFY request in a pass on a drive that RESTART lets finish (R75). -/
def State.finishingOn (s : State) (d : DriveNo) : Option (Pass × SectorRequest) :=
  match s.passOf with
  | some (p, r) => if p.drive = d ∧ r.operation = .writeVerify then some (p, r) else none
  | none => none

/-- A drive whose WRITE-VERIFY pass runs on: everything of its teardown but the pass, the request in hand, the grant and the
mechanism (R75, R193, log 15). -/
def State.restartFinishing (s : State) (d : DriveNo) (p : Pass) (r : SectorRequest) : State :=
  let s := ((s.setPass { p with finishing := true }).leaveWaitList d).clearWorkList d
  let s := s.setPage r.page ((s.pool.pages[r.page]).map (fun x => { x with holder := .finishingPass, awaited := false }))
  let s := s.setDrive d { s.drives[d] with pendingRecal := false, isProtected := false, damaged := false, mount := .clear }
  s.tearAround d

/-- A drive at RESTART: torn down without an event and put into its state after RESTART, or left to its finishing pass; a
DISABLED drive stays DISABLED, with no work and no place at the channel, its record at the values of the table (R20, R57, R193). -/
def State.restartDrive (s : State) (d : DriveNo) : State :=
  if s.drives[d].state = .disabled then ((s.abortPass d).setSched d .idle).setDrive d (s.drives[d].restartedIn .disabled)
  else
    match s.finishingOn d with
    | some (p, r) => s.restartFinishing d p r
    | none =>
      let s := s.tearDown d .empty none
      s.setDrive d (s.drives[d].restarted s.settings[d].autoMount)

/-- A page RESTART leaves held: that of a finishing pass (R83, R193). -/
def finishingPage : Option HeldPage → Option HeldPage
  | some x => if x.holder = .finishingPass then some x else none
  | none => none

/-- The pool after RESTART (R83). -/
def Pool.restarted (p : Pool) : Pool := { pages := p.pages.map finishingPage, waiters := [], sysWaiters := [] }

/-- RESTART after its reply: desks, drives, pages, sequencer (R193). DESIGN CHOICE (log 32): nothing that one desk's reset frees is
served to another desk before that desk is reset too. -/
def State.restartParts (s : State) : State :=
  let s := allDesks.foldl (fun s desk => State.deskReset s desk) s
  let s := allDrives.foldl (fun s d => State.restartDrive s d) s
  (s.setPool s.pool.restarted).setSequencer none

/-- RESTART (R193): the reply is made first. -/
def takeRestart (desk : Desk) (fields : List Byte) (s : State) : State :=
  s.taking desk .restart fields (fun s => (s.doneKind desk .restart []).restartParts)

/-- An accepted RESTART frame. -/
def execRestart (desk : Desk) (fields : List Byte) (s : State) : Host.Outcome State Fault Refusal :=
  .next (s.powered (takeRestart desk fields))

end Sys2Proof.Machine
end

