-- ==== Sys2Proof/Machine/Lines.lean ====
section
/-! DEFINITION. The line units: characters, frames and their judgement, gaps, breaks, the sending of replies and the change of a
line rate (R160 to R168), and the frames of an unknown kind (R171). -/

namespace Sys2Proof.Machine

/-! ### Frames to requests, R168 and R171 -/

/-- A request of a defined kind goes to its meaning. -/
def takeKind (k : Kind) (desk : Desk) (fields : List Byte) (s : State) : State :=
  match k with
  | .idle => takeIdle desk fields s
  | .status => takeStatus desk fields s
  | .cancel => takeCancel desk fields s
  | .list => takeList desk fields s
  | .listOn => takeListOn desk fields s
  | .openRead => takeOpenRead desk fields s
  | .openWrite => takeOpenWrite desk fields s
  | .put => takePut desk fields s
  | .putOn => takePutOn desk fields s
  | .get => takeGet desk fields s
  | .getOn => takeGetOn desk fields s
  | .file => takeFile desk fields s
  | .drop => takeDrop desk fields s
  | .close => takeClose desk fields s
  | .hold => takeHold desk fields s
  | .release => takeRelease desk fields s
  | .spike => takeSpike desk fields s
  | .watch => takeWatch desk fields s
  | .unwatch => takeUnwatch desk fields s
  | .subscribe => takeSubscribe desk fields s
  | .takeNotice => takeTakeNotice desk fields s
  | .driveSet => takeDriveSet desk fields s
  | .deskSet => takeDeskSet desk fields s
  | .mount => takeMount desk fields s
  | .unmount => takeUnmount desk fields s
  | .format => takeFormat desk fields s
  | .breakHold => takeBreakHold desk fields s
  | .tally => takeTally desk fields s
  | .restart => takeRestart desk fields s

/-- The kind byte of an accepted frame decides: an unknown one is refused ILLEGAL-KIND before every other test (R169, R171). -/
def takeKindByte (b : Byte) (desk : Desk) (fields : List Byte) (s : State) : State :=
  match kindOfCode b with
  | some k => takeKind k desk fields s
  | none => s.refuse desk b noFlags .illegalKind

/-- An accepted frame of a kind outside the table of R169; a kind byte of the table is taken as that kind (R171, log 24). -/
def execIllegalKind (desk : Desk) (kind : Byte) (fields : List Byte) (s : State) : Host.Outcome State Fault Refusal :=
  .next (s.powered (takeKindByte kind desk fields))

/-- The body of an accepted frame is taken as one request (R168). -/
def takeBody (desk : Desk) (body : List Byte) (s : State) : State :=
  match body with
  | [] => s
  | b :: fields => takeKindByte b desk fields s

/-! ### Characters, R160, R163 to R165 -/

/-- A frame is being received: the receive state holds a partial frame (R163). -/
def Receive.partly : Receive → Bool
  | .length => true
  | .body .. => true
  | .check .. => true
  | _ => false

/-- The line hunts for a frame and its inter-byte timer is stopped (R163, R164). -/
def LineUnit.hunt (l : LineUnit) : LineUnit := { l with receive := .hunting, gap := none }

/-- A receive state after a byte, with the inter-byte timer at 0 (R163, R164). -/
def LineUnit.expects (l : LineUnit) (r : Receive) : LineUnit := { l with receive := r, gap := some 0 }

/-- The partial frame is discarded and counted, and the line hunts (R165). -/
def State.discard (s : State) (desk : Desk) : State := (s.setLine desk s.lines[desk].hunt).countDiscard desk

/-- A completed frame is judged: bad check, overrun, or accepted (R165). -/
def State.judge (s : State) (desk : Desk) (len : Nat) (bytes : List Byte) (check : Check) : State :=
  if checkOf (byteOf len :: bytes) ≠ check then s.discard desk
  else if Config.overrunReplies ≤ s.lines[desk].replies.length then s.discard desk
  else takeBody desk bytes (s.setLine desk s.lines[desk].hunt)

/-- A byte meets the receive state (R163). -/
def State.takeByte (s : State) (desk : Desk) (b : Byte) : State :=
  let l := s.lines[desk]
  match l.receive with
  | .inBreak => s
  | .hunting => if b = Config.lead then s.setLine desk (l.expects .length) else s
  | .length =>
    if 1 ≤ b.toNat ∧ b.toNat ≤ 200 then s.setLine desk (l.expects (.body b.toNat [])) else s.discard desk
  | .body len bytes =>
    let bytes := bytes ++ [b]
    s.setLine desk (l.expects (if bytes.length = len then .check len bytes none else .body len bytes))
  | .check len bytes none => s.setLine desk (l.expects (.check len bytes (some b)))
  | .check len bytes (some hi) => s.judge desk len bytes (checkOfTwo hi b)

/-- The level of RXD as last sampled; a marking sample sets the break timer to 0 (R166, log 9). -/
def LineUnit.sampled (l : LineUnit) (spacing : Bool) : LineUnit :=
  { l with spacing := spacing, breakTimer := if spacing then l.breakTimer else 0 }

/-- A character with a marking stop bit; in BREAK nothing is received (R160, R163, R166). -/
def State.receiveByte (s : State) (desk : Desk) (b : Byte) : State :=
  if s.lines[desk].receive = .inBreak then s else (s.setLine desk (s.lines[desk].sampled false)).takeByte desk b

/-- BYTE_RECEIVED (R163). -/
def execByteReceived (desk : Desk) (b : Byte) (s : State) : Host.Outcome State Fault Refusal :=
  .next (s.powered (fun s => s.receiveByte desk b))

/-- A framing error ends a frame in reception, and is skipped in HUNTING (R163). -/
def State.receiveError (s : State) (desk : Desk) : State :=
  if s.lines[desk].receive = .inBreak then s
  else
    let s := s.setLine desk (s.lines[desk].sampled true)
    if s.lines[desk].receive.partly then s.discard desk else s

/-- FRAMING_ERROR (R160, R163). -/
def execFramingError (desk : Desk) (s : State) : Host.Outcome State Fault Refusal := .next (s.powered (fun s => s.receiveError desk))

/-- The inter-byte timer has reached 200 ticks (R164). -/
def State.gapExpires (s : State) (desk : Desk) : State := if s.lines[desk].receive.partly then s.discard desk else s

/-- INTER_BYTE_TIMEOUT (R164). -/
def execInterByteTimeout (desk : Desk) (s : State) : Host.Outcome State Fault Refusal := .next (s.powered (fun s => s.gapExpires desk))

/-! ### Sending, R161 and R167 -/

/-- The rate at which what is being sent goes out (R184). -/
def LineUnit.sendRate (l : LineUnit) : Rate := l.oldRate.getD l.rate

/-- The line unit with a new rate, which what is being sent does not take: it finishes at the old one (R184). -/
def LineUnit.withRate (l : LineUnit) (sending : Bool) (r : Rate) : LineUnit :=
  { l with rate := r, oldRate := if sending then some l.sendRate else none }

/-- A line takes a new rate: a partial frame is discarded and counted, a line in BREAK stays there, and the rate the line already
has changes nothing (R161). What is being sent then on the line, if anything, finishes at the old rate (R184). -/
def State.takeRate (s : State) (desk : Desk) (sending : Bool) (r : Rate) : State :=
  let l := s.lines[desk]
  if l.rate = r then s
  else
    let s := s.setLine desk (l.withRate sending r)
    if l.receive.partly then s.discard desk else s

/-- A reply, or the last character of one a break has cut off, is being sent (R166, R167). -/
def LineUnit.sending (l : LineUnit) : Bool := !l.replies.isEmpty || l.cutOff.isSome

/-- The rate that a reply carried whose last stop bit a desk's line has just sent is taken (R161). On that line no reply is being sent
at that moment. -/
def State.takeReplyRate (s : State) (desk : Desk) : Option (Desk × Rate) → State
  | none => s
  | some (target, rate) => s.takeRate target (target != desk && s.lines[target].sending) rate

/-- The last stop bit of a last character that a break has left: the rate it carries is taken (R161, R166). -/
def State.cutEnds (s : State) (desk : Desk) : State :=
  (s.setLine desk { s.lines[desk] with cutOff := none, cutRate := none, oldRate := none }).takeReplyRate desk s.lines[desk].cutRate

/-- The last stop bit of the reply being sent: it leaves the queue, the next goes at the line's rate, and a rate the reply carries
is taken (R161, R167). While the last character of a DESK-SET reply is being sent that a break cut off, it is that one's (log 10). -/
def State.sent (s : State) (desk : Desk) : State :=
  let l := s.lines[desk]
  if l.cutRate.isSome then s.cutEnds desk
  else
    match l.replies with
    | [] => s
    | r :: rest =>
      (s.setLine desk { l with replies := rest, progress := 0, oldRate := none, cutOff := none }).takeReplyRate desk r.rateChange

/-- REPLY_SENT (R167). -/
def execReplySent (desk : Desk) (s : State) : Host.Outcome State Fault Refusal := .next (s.powered (fun s => s.sent desk))

/-! ### Breaks, R166 -/

/-- The ten bits of one character, in ten-thousandths of a bit (R160). -/
def characterBits : Nat := 10 * 10000

/-- The bits of the reply being sent, in ten-thousandths of a bit (R160). -/
def replyBits : List Reply → Nat
  | [] => 0
  | r :: _ => characterBits * r.frame.length

/-- What is left of the character in progress, in ten-thousandths of a bit: of a reply cut off before, or of the reply being sent,
whose characters have ten bits each (R160, R166; log 10). -/
def LineUnit.characterLeft (l : LineUnit) : Option Nat :=
  match l.cutOff with
  | some n => some n
  | none => if l.progress < replyBits l.replies then some (characterBits - l.progress % characterBits) else none

/-- The rate change that the character in progress carries: that of a DESK-SET reply when it is the last one of it, whose last stop
bit is still sent (R161, R166; DEDUCED, log 11). -/
def LineUnit.rateLeft (l : LineUnit) : Option (Desk × Rate) :=
  match l.cutOff, l.replies with
  | some _, _ => l.cutRate
  | none, [] => none
  | none, r :: _ => if characterBits * (r.frame.length - 1) ≤ l.progress then r.rateChange else none

/-- The line unit when a break is detected: the queue emptied, the character in progress left to finish (R166). -/
def LineUnit.broken (l : LineUnit) : LineUnit :=
  { l with receive := .inBreak, gap := none, breakTimer := Config.breakTicks, spacing := true, replies := [], progress := 0,
           cutOff := l.characterLeft, cutRate := l.rateLeft, oldRate := if l.characterLeft.isSome then l.oldRate else none }

/-- The reply being sent has been sent by the count, its last stop bit too (R161, R167, log 11). -/
def LineUnit.sentWhole (l : LineUnit) : Bool := l.cutOff.isNone && !l.replies.isEmpty && decide (replyBits l.replies ≤ l.progress)

/-- A line break is detected: a reply that has been sent whole leaves first, then the partial frame is counted, the queue emptied and
the desk reset; a break under way is one break (R166, R167, R181). -/
def State.breaks (s : State) (desk : Desk) : State :=
  if s.lines[desk].receive = .inBreak then s
  else
    let s := if s.lines[desk].sentWhole then s.sent desk else s
    let s := if s.lines[desk].receive.partly then s.countDiscard desk else s
    ((s.setLine desk s.lines[desk].broken).deskReset desk).settle

/-- LINE_BREAK (R166). -/
def execLineBreak (desk : Desk) (s : State) : Host.Outcome State Fault Refusal := .next (s.powered (fun s => s.breaks desk))

/-- The first marking sample in BREAK (R166). -/
def State.breakEnds (s : State) (desk : Desk) : State :=
  let l := s.lines[desk].sampled false
  s.setLine desk (if l.receive = .inBreak then l.hunt else l)

/-- LINE_BREAK_END (R166). -/
def execLineBreakEnd (desk : Desk) (s : State) : Host.Outcome State Fault Refusal := .next (s.powered (fun s => s.breakEnds desk))

end Sys2Proof.Machine
end

