-- ==== Sys2Proof/Machine/Power.lean ====
section
/-! DEFINITION. POWER-GOOD (R194) and the tick that an empty queue stands for (R1, R46, log 1). -/

namespace Sys2Proof.Machine

/-! ### POWER-GOOD, R20 and R194 -/

/-- The drive record at power-on with the levels of its input lines (R20). -/
def DriveUnit.atPowerOn (ready writeProtect trackZero : Bool) : DriveUnit :=
  { DriveUnit.powerOn with state := if ready then .spinCheck else .empty, ready := ready, writeProtect := writeProtect,
                           trackZero := trackZero }

/-- The power-on state with the levels of the input lines; the commands that wait stay in the queue (R194). -/
def State.poweredOn (s : State) (ready writeProtect trackZero : BitVec 4) : State :=
  let u := fun (i : Nat) => DriveUnit.atPowerOn (ready.getLsbD i) (writeProtect.getLsbD i) (trackZero.getLsbD i)
  { State.reset with drives := #v[u 0, u 1, u 2, u 3], pending := s.pending }

/-- POWER_GOOD_RISE (R194). -/
def execPowerGoodRise (ready writeProtect trackZero : BitVec 4) (s : State) : Host.Outcome State Fault Refusal :=
  .next (s.poweredOn ready writeProtect trackZero)

/-- A drive while POWER-GOOD is low: its outputs inactive, its seek, recalibration and head load cut off (R194, log 7). -/
def DriveUnit.powerOff (u : DriveUnit) : DriveUnit :=
  { u with motion := .still, position := none, head := .unloaded, direction := false }

/-- A line while POWER-GOOD is low: it sends nothing (R194, log 7). -/
def LineUnit.powerOff (l : LineUnit) : LineUnit := { l with replies := [], progress := 0, oldRate := none, cutOff := none, cutRate := none }

/-- A desk while POWER-GOOD is low: its request in progress is abandoned (R194, log 7). -/
def DeskContext.powerOff (c : DeskContext) : DeskContext := { c with inProgress := none }

/-- POWER-GOOD is low: every operation in flight abandoned without completing it, every output inactive (R194, log 7). -/
def State.poweredOff (s : State) : State :=
  { s with powerGood := false, drives := s.drives.map DriveUnit.powerOff, scheds := Vector.replicate 4 .idle, channel := .idle,
           pool := .allFree, lines := s.lines.map LineUnit.powerOff, desks := s.desks.map DeskContext.powerOff, sequencer := none }

/-- POWER_GOOD_FALL (R194). -/
def execPowerGoodFall (s : State) : Host.Outcome State Fault Refusal := .next s.poweredOff

/-! ### One tick, R1, R27, R31, R32, R34, R46, R160, R164, R166, R167 -/

/-- The ticks left of the running step interval, settle or nothing, one tick later; the expiry itself is a command (log 2). -/
def Motion.ticked : Motion → Motion
  | .still => .still
  | .seekStep t d i left => .seekStep t d i (left - 1)
  | .seekSettle t left => .seekSettle t (left - 1)
  | .recalStep n d i left => .recalStep n d i (left - 1)
  | .recalSettle left => .recalSettle (left - 1)

/-- The ticks left of a running head load, one tick later. -/
def HeadState.ticked : HeadState → HeadState
  | .loading left => .loading (left - 1)
  | h => h

/-- A drive one tick later: e counts while the spindle turns and stops at 65,535 (R27). -/
def DriveUnit.ticked (u : DriveUnit) : DriveUnit :=
  { u with elapsed := if u.turns then min (u.elapsed + 1) Config.maxElapsed else u.elapsed, motion := u.motion.ticked,
           head := u.head.ticked }

/-- What is being sent one tick later: the last character of a reply cut off, and after it the reply at the front of the queue,
in ten-thousandths of a bit (R160, R166, R184, log 10). -/
def LineUnit.sent (l : LineUnit) : LineUnit :=
  match l.cutOff with
  | none => { l with progress := min (l.progress + l.sendRate.baud) (replyBits l.replies) }
  | some n => if l.sendRate.baud < n then { l with cutOff := some (n - l.sendRate.baud) } else { l with cutOff := none, oldRate := none }

/-- A line one tick later: the inter-byte timer, the break timer while the line is spacing, and what is being sent
(R160, R164, R166, log 10). -/
def LineUnit.ticked (l : LineUnit) : LineUnit :=
  { l.sent with gap := l.gap.map (fun n => min (n + 1) Config.interByteTicks),
                breakTimer := if l.spacing then min (l.breakTimer + 1) Config.breakTicks else l.breakTimer }

/-- A rate change whose character has just been sent to its last stop bit is taken (R161, R166). -/
def State.rateDue (s : State) (desk : Desk) : State :=
  if s.lines[desk].cutOff.isNone && s.lines[desk].cutRate.isSome then s.cutEnds desk else s

/-- The whole part one tick later (R46); of two rate changes in one tick that of the lower desk's line comes first (log 10). -/
def State.ticked (s : State) : State :=
  allDesks.foldl (fun s desk => State.rateDue s desk)
    { s with tick := s.tick + 1, drives := s.drives.map DriveUnit.ticked, lines := s.lines.map LineUnit.ticked }

/-- What the block does while no command waits: a tick passes when POWER-GOOD is high (log 1). -/
def State.idles (s : State) : State := s.powered State.ticked

end Sys2Proof.Machine
end

