-- ==== Sys2Proof/Machine/Dispatch.lean ====
section
/-! DEFINITION. exec: one arm for each command of the table, each one call of its meaning. -/

namespace Sys2Proof.Machine

def exec (i : Instr) (s : State) : Host.Outcome State Fault Refusal :=
  match i with
  | .idle desk fields => Sys2Proof.Machine.execIdle desk fields s
  | .status desk fields => Sys2Proof.Machine.execStatus desk fields s
  | .cancel desk fields => Sys2Proof.Machine.execCancel desk fields s
  | .list desk fields => Sys2Proof.Machine.execList desk fields s
  | .listOn desk fields => Sys2Proof.Machine.execListOn desk fields s
  | .openRead desk fields => Sys2Proof.Machine.execOpenRead desk fields s
  | .openWrite desk fields => Sys2Proof.Machine.execOpenWrite desk fields s
  | .put desk fields => Sys2Proof.Machine.execPut desk fields s
  | .putOn desk fields => Sys2Proof.Machine.execPutOn desk fields s
  | .get desk fields => Sys2Proof.Machine.execGet desk fields s
  | .getOn desk fields => Sys2Proof.Machine.execGetOn desk fields s
  | .file desk fields => Sys2Proof.Machine.execFile desk fields s
  | .drop desk fields => Sys2Proof.Machine.execDrop desk fields s
  | .close desk fields => Sys2Proof.Machine.execClose desk fields s
  | .hold desk fields => Sys2Proof.Machine.execHold desk fields s
  | .release desk fields => Sys2Proof.Machine.execRelease desk fields s
  | .spike desk fields => Sys2Proof.Machine.execSpike desk fields s
  | .watch desk fields => Sys2Proof.Machine.execWatch desk fields s
  | .unwatch desk fields => Sys2Proof.Machine.execUnwatch desk fields s
  | .subscribe desk fields => Sys2Proof.Machine.execSubscribe desk fields s
  | .takeNotice desk fields => Sys2Proof.Machine.execTakeNotice desk fields s
  | .driveSet desk fields => Sys2Proof.Machine.execDriveSet desk fields s
  | .deskSet desk fields => Sys2Proof.Machine.execDeskSet desk fields s
  | .mount desk fields => Sys2Proof.Machine.execMount desk fields s
  | .unmount desk fields => Sys2Proof.Machine.execUnmount desk fields s
  | .format desk fields => Sys2Proof.Machine.execFormat desk fields s
  | .breakHold desk fields => Sys2Proof.Machine.execBreakHold desk fields s
  | .tally desk fields => Sys2Proof.Machine.execTally desk fields s
  | .restart desk fields => Sys2Proof.Machine.execRestart desk fields s
  | .illegalKind desk kind fields => Sys2Proof.Machine.execIllegalKind desk kind fields s
  | .byteReceived desk b => Sys2Proof.Machine.execByteReceived desk b s
  | .framingError desk => Sys2Proof.Machine.execFramingError desk s
  | .interByteTimeout desk => Sys2Proof.Machine.execInterByteTimeout desk s
  | .lineBreak desk => Sys2Proof.Machine.execLineBreak desk s
  | .lineBreakEnd desk => Sys2Proof.Machine.execLineBreakEnd desk s
  | .replySent desk => Sys2Proof.Machine.execReplySent desk s
  | .readyFalling drive => Sys2Proof.Machine.execReadyFalling drive s
  | .readyRising drive => Sys2Proof.Machine.execReadyRising drive s
  | .writeProtectChange drive active => Sys2Proof.Machine.execWriteProtectChange drive active s
  | .indexPulse drive => Sys2Proof.Machine.execIndexPulse drive s
  | .noIndexTimeout drive => Sys2Proof.Machine.execNoIndexTimeout drive s
  | .stepIntervalExpiry drive trackZero => Sys2Proof.Machine.execStepIntervalExpiry drive trackZero s
  | .recalibrationStepExpiry drive trackZero => Sys2Proof.Machine.execRecalibrationStepExpiry drive trackZero s
  | .settleExpiry drive => Sys2Proof.Machine.execSettleExpiry drive s
  | .headLoadExpiry drive => Sys2Proof.Machine.execHeadLoadExpiry drive s
  | .idFieldRead cylinder head sector check => Sys2Proof.Machine.execIdFieldRead cylinder head sector check s
  | .dataFieldRead data check => Sys2Proof.Machine.execDataFieldRead data check s
  | .dataFieldWritten => Sys2Proof.Machine.execDataFieldWritten s
  | .powerGoodRise ready writeProtect trackZero => Sys2Proof.Machine.execPowerGoodRise ready writeProtect trackZero s
  | .powerGoodFall => Sys2Proof.Machine.execPowerGoodFall s

end Sys2Proof.Machine
end

