-- ==== Sys2Proof/Machine/Step.lean ====
section
/-! DEFINITION. One step: the command at the front of the queue is taken with the queue's rest, and an empty queue is a tick. -/

namespace Sys2Proof.Machine

/-- The queue of waiting commands replaced. -/
def State.setPending (s : State) (q : List Instr) : State := { s with pending := q }

/-- One step. DESIGN CHOICE (log 1): with no command waiting, one tick passes. -/
def step (s : State) : Host.Outcome State Fault Refusal :=
  match s.pending with
  | [] => .next s.idles
  | c :: rest => exec c (s.setPending rest)

/-- The command a word spells is put at the front of the queue; a word that spells none changes nothing (log 25). -/
def State.withFetchWord (s : State) (nbits w : Nat) : State :=
  match Sys2Proof.decodeTableWord nbits w with
  | some c => s.setPending (c :: s.pending)
  | none => s

end Sys2Proof.Machine
end

