-- ==== Sys2Proof/Safety.lean ====
section
/-! DEFINITION. What a sound state is, in the terms the statements use: rights, settings, notice queues and allocation maps in
their ranges; and a run of commands one after another. -/

namespace Sys2Proof.Machine

/-- At least one desk holds SUPERVISOR (R175, R184). -/
def State.someSupervisor (s : State) : Prop := ∃ desk : Desk, s.deskSettings[desk].supervisor = true

/-- Every desk's quota is 1 to 56 (R85). -/
def State.quotasInRange (s : State) : Prop :=
  ∀ desk : Desk, 1 ≤ s.deskSettings[desk].quota ∧ s.deskSettings[desk].quota ≤ 56

/-- The settings of a drive are in the ranges of R41. -/
def Settings.inRange (t : Settings) : Prop :=
  (10 ≤ t.stepInterval ∧ t.stepInterval ≤ 160) ∧ t.settle ≤ 500 ∧ t.headLoad ≤ 1000 ∧ t.headIdle ≤ 60
    ∧ (1 ≤ t.retries ∧ t.retries ≤ 16) ∧ (1000 ≤ t.aging ∧ t.aging ≤ 100000)

/-- Every drive's settings are in their ranges (R41). -/
def State.settingsInRange (s : State) : Prop := ∀ d : DriveNo, (s.settings[d]).inRange

/-- The rights, quotas and settings are legal together (R41, R85, R175). -/
def State.legalSettings (s : State) : Prop := s.someSupervisor ∧ s.quotasInRange ∧ s.settingsInRange

/-- The notice is a NOTICES-LOST marker. -/
def Notice.isLost : Notice → Bool
  | .noticesLost _ => true
  | _ => false

/-- A marker's lost count is 2 to 65,535; other notices carry none (R158). -/
def Notice.countSound : Notice → Prop
  | .noticesLost k => 2 ≤ k ∧ k ≤ 65535
  | _ => True

/-- A notice queue holds at most 8 notices, and NOTICES-LOST stands only as its last entry, with a count of 2 to 65,535
(R158). -/
def queueSound (q : List Notice) : Prop :=
  q.length ≤ 8 ∧ (∀ n ∈ q.dropLast, n.isLost = false) ∧ ∀ n ∈ q, n.countSound

/-- Every desk's notice queue is sound (R158). -/
def State.queuesSound (s : State) : Prop := ∀ desk : Desk, queueSound s.desks[desk].notices

/-- An allocation map names data sectors only, each once, in ascending order (R100). -/
def Image.mapSound (img : Image) : Prop :=
  img.allocated.Pairwise (fun a b => a < b) ∧ ∀ l ∈ img.allocated, l < Config.dataSectors

/-- An extent ends within the data sectors (R14). -/
def Extent.within (e : Extent) : Prop := e.start + e.count ≤ Config.dataSectors

/-- What a mount record has kept names data sectors only (R12, R14). -/
def MountRecord.sound (m : MountRecord) : Prop :=
  (∀ l, m.label = some l → ∀ b ∈ l.bad, b < Config.dataSectors) ∧ ∀ p ∈ m.kept, ∀ e ∈ p.2.extents, e.within

/-- Every allocation map and every mount record names data sectors only (R12, R14, R100). -/
def State.mapsSound (s : State) : Prop :=
  (∀ (d : DriveNo) (img : Image), s.images[d] = some img → img.mapSound) ∧ ∀ d : DriveNo, (s.drives[d]).mount.sound

/-- A sound state: every range above holds. A run is safe while its states are sound. -/
def State.sound (s : State) : Prop := s.legalSettings ∧ s.queuesSound ∧ s.mapsSound

/-- Commands taken one after another, stopping at the first stop. -/
def runCommands : List Instr → State → Host.Outcome State Fault Refusal
  | [], s => .next s
  | c :: cs, s =>
    match exec c s with
    | .next t => runCommands cs t
    | .fault r => .fault r
    | .refused r => .refused r

/-- The command of a kind with its desk and field bytes (R168, R169). -/
def Kind.command (k : Kind) (desk : Desk) (fields : List Byte) : Instr :=
  match k with
  | .idle => .idle desk fields
  | .status => .status desk fields
  | .cancel => .cancel desk fields
  | .list => .list desk fields
  | .listOn => .listOn desk fields
  | .openRead => .openRead desk fields
  | .openWrite => .openWrite desk fields
  | .put => .put desk fields
  | .putOn => .putOn desk fields
  | .get => .get desk fields
  | .getOn => .getOn desk fields
  | .file => .file desk fields
  | .drop => .drop desk fields
  | .close => .close desk fields
  | .hold => .hold desk fields
  | .release => .release desk fields
  | .spike => .spike desk fields
  | .watch => .watch desk fields
  | .unwatch => .unwatch desk fields
  | .subscribe => .subscribe desk fields
  | .takeNotice => .takeNotice desk fields
  | .driveSet => .driveSet desk fields
  | .deskSet => .deskSet desk fields
  | .mount => .mount desk fields
  | .unmount => .unmount desk fields
  | .format => .format desk fields
  | .breakHold => .breakHold desk fields
  | .tally => .tally desk fields
  | .restart => .restart desk fields

/-- The part is powered and the desk has no request in progress: its next request meets the tests after BUSY (R171, R194). -/
def State.listens (s : State) (desk : Desk) : Prop := s.powerGood = true ∧ s.desks[desk].inProgress = none

/-- A listening desk that holds SUPERVISOR (R175). -/
def State.listensTo (s : State) (desk : Desk) : Prop := s.listens desk ∧ s.deskSettings[desk].supervisor = true

/-- What a desk sees of itself alone: its line unit, its request in progress, its continuation and cursor, and its
subscriptions (R160, R174). -/
def State.sameDesk (s t : State) (desk : Desk) : Prop :=
  t.lines[desk] = s.lines[desk] ∧ t.desks[desk].inProgress = s.desks[desk].inProgress
    ∧ t.desks[desk].continuation = s.desks[desk].continuation ∧ t.desks[desk].cursor = s.desks[desk].cursor
    ∧ t.desks[desk].driveSet = s.desks[desk].driveSet ∧ t.desks[desk].filingsSet = s.desks[desk].filingsSet

/-- What a record of drive position `d` holds right after POWER-GOOD has risen (R20), for the levels its lines have then. -/
def DriveUnit.afterPower (u : DriveUnit) (ready writeProtect trackZero : Bool) : Prop :=
  u.state = (if ready then DriveState.spinCheck else .empty) ∧ u.isProtected = false ∧ u.damaged = false ∧ u.faultCause = none ∧
    u.position = none ∧ u.head = .unloaded ∧ u.idleCount = 0 ∧ u.elapsed = 0 ∧ u.period = 1667 ∧ u.badRun = 0 ∧
    u.reference = false ∧ u.validCount = 0 ∧ u.latches = [] ∧ u.pendingRecal = false ∧ u.motion = .still ∧
    u.ready = ready ∧ u.writeProtect = writeProtect ∧ u.trackZero = trackZero

/-- What the spec gives of the whole part right after POWER-GOOD has risen (R194), its drives and pins apart. -/
def State.afterPower (s : State) : Prop :=
  s.powerGood = true ∧ s.tick = 0 ∧ s.seq = 0 ∧ s.sequencer = none ∧
    (s.channel.grant = none ∧ s.channel.waitList = [] ∧ s.channel.pass = none) ∧
    (∀ p : PageNo, s.pool.pages[p] = none) ∧ s.pool.waiters = [] ∧ s.pool.sysWaiters = [] ∧
    (∀ d : DriveNo,
      s.settings[d] = { stepInterval := 60, settle := 150, headLoad := 350, headIdle := 10, retries := 6, aging := 20000,
                        autoMount := true, enabled := true } ∧
      s.images[d] = none ∧ (s.scheds[d].workList = [] ∧ s.scheds[d].inHand = none) ∧
      s.driveTallies[d] = ⟨0, 0, 0, 0, 0, 0, 0⟩) ∧
    ∀ desk : Desk,
      (∀ h : HandleNo, s.handle desk h = .free) ∧
      (s.desks[desk].inProgress = none ∧ s.desks[desk].continuation = .none ∧ s.desks[desk].cursor = 0 ∧ s.desks[desk].holds = 0 ∧
        (∀ i : WatchNo, (s.desks[desk].watches)[i] = none) ∧ s.desks[desk].driveSet = 0 ∧ s.desks[desk].filingsSet = 0 ∧
        s.desks[desk].notices = []) ∧
      s.deskSettings[desk] = { supervisor := decide (desk = 0), urgent := decide (desk = 0), quota := 12, rate := .r9600 } ∧
      (s.lines[desk].rate = .r9600 ∧ s.lines[desk].receive = .hunting ∧ s.lines[desk].gap = none ∧
        s.lines[desk].replies = [] ∧ s.lines[desk].oldRate = none ∧ s.lines[desk].cutOff = none ∧
        s.lines[desk].cutRate = none) ∧
      s.deskTallies[desk] = ⟨0, 0⟩

/-- The kinds with their codes, least and greatest LEN, in the order of the table of R169. -/
def kindTable : List (Kind × Byte × Nat × Nat) :=
  [(.idle, 0x01, 1, 1), (.status, 0x02, 1, 1), (.cancel, 0x0F, 1, 1), (.list, 0x10, 3, 19), (.listOn, 0x11, 1, 1),
   (.openRead, 0x20, 4, 19), (.openWrite, 0x21, 8, 23), (.put, 0x22, 5, 132), (.putOn, 0x23, 2, 129), (.get, 0x24, 5, 5),
   (.getOn, 0x25, 2, 2), (.file, 0x26, 5, 5), (.drop, 0x27, 2, 2), (.close, 0x28, 2, 2), (.hold, 0x30, 3, 18),
   (.release, 0x31, 3, 18), (.spike, 0x32, 4, 19), (.watch, 0x40, 7, 22), (.unwatch, 0x41, 2, 2), (.subscribe, 0x42, 3, 3),
   (.takeNotice, 0x43, 1, 1), (.driveSet, 0x60, 16, 16), (.deskSet, 0x61, 5, 5), (.mount, 0x62, 2, 2), (.unmount, 0x63, 3, 3),
   (.format, 0x64, 5, 16), (.breakHold, 0x65, 3, 18), (.tally, 0x66, 4, 4), (.restart, 0x67, 1, 1)]

/-- The lowest-numbered FREE handle of a desk (R123, R134). -/
def State.lowestFreeHandle (s : State) (desk : Desk) (h : HandleNo) : Prop :=
  s.handle desk h = .free ∧ ∀ g : HandleNo, g < h → s.handle desk g ≠ .free

/-- A slot whose record the mount would accept: FILED, with a slug of 1 to 16 characters of the slug set, an edition up to 15, a
version of 1 to 65,535, and at most 8 extents of 1 to 120 data sectors that sum to what its length takes (R14, R99). -/
def Slot.recordable (t : Slot) : Prop :=
  (1 ≤ t.slug.length ∧ t.slug.length ≤ 16 ∧ ∀ b ∈ t.slug, slugChar b = true) ∧ t.edition ≤ 15 ∧
    (1 ≤ t.version ∧ t.version ≤ 65535) ∧ t.length ≤ 61440 ∧ t.extents.length ≤ 8 ∧
    (∀ e ∈ t.extents, 1 ≤ e.count ∧ e.count ≤ 120 ∧ e.start + e.count ≤ 2280) ∧ totalCount t.extents = (t.length + 511) / 512

end Sys2Proof.Machine
end

