-- ==== Sys2Proof/Certificates/Slice0/Obligations.lean ====
section
/-! DEFINITION. The statements for the provers. A conclusion `.next t.settle` gives the state t that the command itself leads to;
what follows at once from t (grants of pages, choices of the drives, the end of an unmount) is `State.settle`, and the statement
SettlingAnswersOnlyWaitingDesks says what that leaves alone. What a drive does as soon as a request is placed is in `State.place`
(ReadsFillTheirSectors, DrivesActAsSoonAsTheyCan). -/

open Sys2Proof Sys2Proof.Machine

/-! ### The block, its queue and its power -/

/-- The command at the front of the queue is what a step takes (the model's queue, log 25). -/
def Obligations.StepTakesTheFrontCommand : Prop :=
  ∀ (c : Instr) (rest : List Instr) (s : State), s.pending = c :: rest → step s = exec c { s with pending := rest }

/-- With no command waiting a step is one tick (R1, R46; the model's choice, log 1): the tick count goes up modulo 2^32, e goes up to
65,535 on a turning spindle, the running times go down, the inter-byte and break timers go up to their limits, and what is being sent
goes on (R160, R166, R184; how it is counted is log 10): the reply at the front of the queue at the line's rate, or at the rate the
line had when the reply began, and first of all the last character of a reply that a break has cut off. Where that character was the
last one of a DESK-SET reply, the rate it carries is taken as soon as its last stop bit is sent (R161; that it is taken after a break
is log 11, that the lower desk's line comes first is log 10). Nothing else changes, and nothing at all while POWER-GOOD is low. -/
def Obligations.EmptyQueueIsOneTick : Prop :=
  ∀ s : State, s.pending = [] →
    (s.powerGood = false → step s = .next s) ∧
    (s.powerGood = true →
      ∃ t,
        step s = .next (([0, 1, 2, 3, 4, 5, 6, 7] : List Desk).foldl
          (fun v desk =>
            match v.lines[desk].cutOff, v.lines[desk].cutRate with
            | none, some (target, rate) =>
              (v.setLine desk { v.lines[desk] with cutRate := none, oldRate := none }).takeRate target
                (decide (target ≠ desk ∧ (v.lines[target].replies ≠ [] ∨ v.lines[target].cutOff ≠ none))) rate
            | _, _ => v)
          t) ∧
        t = { s with tick := t.tick, drives := t.drives, lines := t.lines } ∧ t.tick = s.tick + 1 ∧
        (∀ d : DriveNo,
          t.drives[d] = { s.drives[d] with elapsed := t.drives[d].elapsed, motion := t.drives[d].motion, head := t.drives[d].head } ∧
          t.drives[d].elapsed =
            (if s.drives[d].ready = true ∧ s.drives[d].state ≠ .disabled then min (s.drives[d].elapsed + 1) 65535
             else s.drives[d].elapsed) ∧
          (∀ n, s.drives[d].head = .loading n → t.drives[d].head = .loading (n - 1)) ∧
          ((∀ n, s.drives[d].head ≠ .loading n) → t.drives[d].head = s.drives[d].head) ∧
          (∀ x i b n, s.drives[d].motion = .seekStep x i b n → t.drives[d].motion = .seekStep x i b (n - 1)) ∧
          (∀ x n, s.drives[d].motion = .seekSettle x n → t.drives[d].motion = .seekSettle x (n - 1)) ∧
          (∀ k i b n, s.drives[d].motion = .recalStep k i b n → t.drives[d].motion = .recalStep k i b (n - 1)) ∧
          (∀ n, s.drives[d].motion = .recalSettle n → t.drives[d].motion = .recalSettle (n - 1)) ∧
          (s.drives[d].motion = .still → t.drives[d].motion = .still)) ∧
        (∀ desk : Desk,
          t.lines[desk] = { s.lines[desk] with gap := t.lines[desk].gap, breakTimer := t.lines[desk].breakTimer,
                                               progress := t.lines[desk].progress, oldRate := t.lines[desk].oldRate,
                                               cutOff := t.lines[desk].cutOff } ∧
          t.lines[desk].gap = (s.lines[desk].gap).map (fun n => min (n + 1) 200) ∧
          t.lines[desk].breakTimer =
            (if s.lines[desk].spacing then min (s.lines[desk].breakTimer + 1) 1000 else s.lines[desk].breakTimer) ∧
          ∀ baud, (s.lines[desk].oldRate.getD s.lines[desk].rate, baud) ∈
              [(Rate.r2400, 2400), (.r4800, 4800), (.r9600, 9600), (.r19200, 19200), (.r38400, 38400)] →
            (s.lines[desk].cutOff = none →
              t.lines[desk].cutOff = none ∧ t.lines[desk].oldRate = s.lines[desk].oldRate ∧
              (s.lines[desk].replies = [] → t.lines[desk].progress = 0) ∧
              ∀ r rest, s.lines[desk].replies = r :: rest →
                t.lines[desk].progress = min (s.lines[desk].progress + baud) (100000 * r.frame.length)) ∧
            ∀ left, s.lines[desk].cutOff = some left →
              t.lines[desk].progress = s.lines[desk].progress ∧
              (baud < left → t.lines[desk].cutOff = some (left - baud) ∧ t.lines[desk].oldRate = s.lines[desk].oldRate) ∧
              (left ≤ baud → t.lines[desk].cutOff = none ∧ t.lines[desk].oldRate = none)))

/-- POWER-GOOD (R194). It rises: the 860 starts in its power-on state whatever was before, and the commands that wait stay. It falls:
every seek, head load, pass, sector request, page wait, format and desk request in flight is abandoned, the drive outputs and the
shared bus lines are inactive and nothing is sent; that the images, settings, tallies, handles and counters stand meanwhile is the
model's choice (log 7). While it is low no command but a POWER-GOOD edge changes anything, the levels of the input pins that the
command itself carries apart (log 7). -/
def Obligations.PowerGoodGovernsThePart : Prop :=
  (∀ (ready writeProtect trackZero : BitVec 4) (s : State),
    ∃ t, exec (.powerGoodRise ready writeProtect trackZero) s = .next t ∧ t.afterPower ∧ t.pending = s.pending ∧
      ∀ d : DriveNo,
        (t.drives[d]).afterPower (ready.getLsbD d.val) (writeProtect.getLsbD d.val) (trackZero.getLsbD d.val)) ∧
  (∀ s : State,
    ∃ t, exec .powerGoodFall s = .next t ∧ t.powerGood = false ∧
      (∀ d : DriveNo,
        t.drives[d] = { s.drives[d] with motion := .still, position := none, head := .unloaded, direction := false } ∧
        t.scheds[d].workList = [] ∧ t.scheds[d].inHand = none) ∧
      t.channel.grant = none ∧ t.channel.waitList = [] ∧ t.channel.pass = none ∧ t.channel.writeGate = false ∧
      t.channel.headSelect = 0 ∧ t.channel.writeData = .none ∧
      (∀ p : PageNo, t.pool.pages[p] = none) ∧ t.pool.waiters = [] ∧ t.pool.sysWaiters = [] ∧
      t.sequencer = none ∧
      (∀ desk : Desk,
        t.lines[desk] = { s.lines[desk] with replies := [], progress := 0, oldRate := none, cutOff := none, cutRate := none } ∧
        t.desks[desk] = { s.desks[desk] with inProgress := none }) ∧
      t.tick = s.tick ∧ t.seq = s.seq ∧ t.images = s.images ∧ t.settings = s.settings ∧ t.handles = s.handles ∧
      t.deskSettings = s.deskSettings ∧ t.driveTallies = s.driveTallies ∧ t.deskTallies = s.deskTallies ∧ t.pending = s.pending) ∧
  (∀ (c : Instr) (s : State), s.powerGood = false → (∀ r w z, c ≠ .powerGoodRise r w z) → c ≠ .powerGoodFall →
    ∃ t, exec c s = .next t ∧ t = { s with drives := t.drives } ∧
      ∀ d : DriveNo,
        t.drives[d] = { s.drives[d] with ready := t.drives[d].ready, writeProtect := t.drives[d].writeProtect,
                                         trackZero := t.drives[d].trackZero } ∧
        (c ≠ .readyFalling d → c ≠ .readyRising d → t.drives[d].ready = s.drives[d].ready) ∧
        ((∀ b, c ≠ .writeProtectChange d b) → t.drives[d].writeProtect = s.drives[d].writeProtect) ∧
        ((∀ b, c ≠ .stepIntervalExpiry d b) → (∀ b, c ≠ .recalibrationStepExpiry d b) →
          t.drives[d].trackZero = s.drives[d].trackZero))

/-! ### Replies and the tests before a kind's own -/

/-- How a reply is made: it joins the end of its desk's reply queue with the number of notices waiting then (R159, R167), a refusal
counts in the desk's tally up to 65,535 (R81, R82), and the continuation and cursor follow R177. Nothing else changes. -/
def Obligations.RepliesAreQueuedAndCounted : Prop :=
  ∀ (desk : Desk) (kind : Byte) (flags : ReplyFlags) (fields : List Byte) (r : Reason) (s : State),
    let line := fun (x : Reply) => s.lines.set desk { s.lines[desk] with replies := s.lines[desk].replies ++ [x] }
    let waiting := s.desks[desk].notices.length
    s.done desk kind flags fields .keep =
        { s with lines := line ⟨kind, .done, none, waiting, flags, fields, none⟩ } ∧
    s.done desk kind flags fields .clear =
        { s with lines := line ⟨kind, .done, none, waiting, flags, fields, none⟩,
                 desks := s.desks.set desk { s.desks[desk] with continuation := .none, cursor := 0 } } ∧
    (∀ c n, s.done desk kind flags fields (.continues c n) =
        { s with lines := line ⟨kind, .done, none, waiting, flags, fields, none⟩,
                 desks := s.desks.set desk { s.desks[desk] with continuation := c, cursor := n } }) ∧
    (r ≠ .busy → s.refuse desk kind flags r =
        { s with lines := line ⟨kind, .refused, some r, waiting, flags, [], none⟩,
                 desks := s.desks.set desk { s.desks[desk] with continuation := .none, cursor := 0 },
                 deskTallies := s.deskTallies.set desk
                   { s.deskTallies[desk] with requestsRefused := min (s.deskTallies[desk].requestsRefused + 1) 65535 } }) ∧
    s.refuse desk kind flags .busy =
        { s with lines := line ⟨kind, .refused, some .busy, waiting, flags, [], none⟩,
                 deskTallies := s.deskTallies.set desk
                   { s.deskTallies[desk] with requestsRefused := min (s.deskTallies[desk].requestsRefused + 1) 65535 } } ∧
    s.fail desk kind flags r fields =
        { s with lines := line ⟨kind, .failed, some r, waiting, flags, fields, none⟩,
                 desks := s.desks.set desk { s.desks[desk] with continuation := .none, cursor := 0 } }

/-- The tests of R171, steps 1 to 4. A kind outside the table of R169 is refused ILLEGAL-KIND before every other test, whatever its
length and whatever the desk has in progress. For every kind of the table and every body, the first of BAD-LENGTH, BUSY, NOT-PERMITTED
and ILLEGAL-SEQUENCE that applies answers the request, and changes nothing beyond its reply and the tally. -/
def Obligations.TestsBeforeTheKindsOwn : Prop :=
  (∀ (desk : Desk) (kind : Byte) (fields : List Byte) (s : State), s.powerGood = true → kind ∉ kindTable.map (fun x => x.2.1) →
    exec (.illegalKind desk kind fields) s = .next (s.refuse desk kind noFlags .illegalKind)) ∧
  (∀ (k : Kind) (code : Byte) (least most : Nat), (k, code, least, most) ∈ kindTable →
    ∀ (desk : Desk) (fields : List Byte) (s : State), s.powerGood = true →
      let no := fun (r : Reason) => exec (k.command desk fields) s = .next (s.refuse desk code noFlags r)
      let lengthFits := least ≤ fields.length + 1 ∧ fields.length + 1 ≤ most
      let busy := s.desks[desk].inProgress ≠ none ∧ k ≠ .cancel
      let supervisorKind := k ∈ [Kind.driveSet, .deskSet, .mount, .unmount, .format, .breakHold, .tally, .restart]
      let unpermitted := supervisorKind ∧ s.deskSettings[desk].supervisor = false
      (¬lengthFits → no .badLength) ∧
      (lengthFits → busy → no .busy) ∧
      (lengthFits → ¬busy → unpermitted → no .notPermitted) ∧
      (lengthFits → ¬busy → k = .putOn → (∀ h, s.desks[desk].continuation ≠ .put h) → no .illegalSequence) ∧
      (lengthFits → ¬busy → k = .getOn → (∀ h, s.desks[desk].continuation ≠ .get h) → no .illegalSequence) ∧
      (lengthFits → ¬busy → k = .listOn → (∀ d i p e, s.desks[desk].continuation ≠ .list d i p e) → no .illegalSequence))

/-! ### Requests of the context store -/

/-- IDLE (R179): DONE with no fields and the notice count, nothing else changed; BUSY while a request is in progress, with the notice
count too. -/
def Obligations.IdleChangesNothingButItsReply : Prop :=
  ∀ (desk : Desk) (s : State), s.powerGood = true →
    let saying := fun (x : Reply) => s.lines.set desk { s.lines[desk] with replies := s.lines[desk].replies ++ [x] }
    let waiting := s.desks[desk].notices.length
    let refused := s.deskTallies[desk].requestsRefused
    (s.desks[desk].inProgress = none →
      exec (.idle desk []) s = .next { s with lines := saying ⟨0x01, .done, none, waiting, noFlags, [], none⟩ }) ∧
    (s.desks[desk].inProgress ≠ none →
      exec (.idle desk []) s =
        .next { s with lines := saying ⟨0x01, .refused, some .busy, waiting, noFlags, [], none⟩,
                       deskTallies := s.deskTallies.set desk
                         { s.deskTallies[desk] with requestsRefused := min (refused + 1) 65535 } })

/-- STATUS (R180): DONE with the 115 bytes of the desk's report, and nothing else changed. The report begins with rights, quota, pages
held, holds, continuation and cursor, then come the two handles of 23 bytes each, the four drives and the channel. A drive's state is
numbered in the order of R21 and its format cylinder is the one R190 gives for the sequencer's step, 255 outside a format. A kept
cause is given by its number of R170. -/
def Obligations.StatusReportsAndChangesNothing : Prop :=
  ∀ (desk : Desk) (s : State), s.listens desk →
    let continuation := match s.desks[desk].continuation with
      | .none => [0, 0]
      | .put h => [1, byteOf h.val]
      | .get h => [2, byteOf h.val]
      | .list d _ _ _ => [3, byteOf d.val]
    let report := fun (state : Byte) (drive : Nat) (slug : Chars) (length mark cause : Nat) =>
      [state, byteOf drive] ++ padded 16 slug ++ twoBytes length ++ twoBytes mark ++ [byteOf cause]
    let ofHandle := fun (h : HandleNo) => match s.handle desk h with
      | .free => report 0 0 [] 0 0 0
      | .reading r => report 1 r.drive.val r.slug r.length r.delivery 0
      | .writing w => match w.state with
        | .isOpen => report 2 w.drive.val w.slug w.length w.mark 0
        | .committing => report 3 w.drive.val w.slug w.length w.mark 0
        | .failed c => report 4 w.drive.val w.slug w.length w.mark c.number
      | .lost l => report 5 l.drive.val l.slug l.length 0 l.cause.number
    let stateNumber := fun (st : DriveState) => match st with
      | .disabled => (0 : Byte)
      | .empty => 1
      | .offline => 2
      | .spinCheck => 3
      | .mounting => 4
      | .mounted => 5
      | .blank => 6
      | .formatting => 7
      | .faulted => 8
    let formatCylinder := fun (d : DriveNo) => match s.sequencer with
      | none => 255
      | some j => if s.drives[d].state = .formatting ∧ j.drive = d then (match j.phase with
          | .tracks => j.nextTrack / 2
          | .verify => 1 + j.verifyL / 30
          | .label => 0
          | .catalogue => 0) else 255
    let named := fun (slug : Chars) => slug.length ≤ 16
    exec (.status desk []) s = .next (s.done desk 0x02 noFlags (s.statusBytes desk) .keep) ∧
    s.statusBytes desk =
      [byteOf ((if s.deskSettings[desk].supervisor then 1 else 0) + (if s.deskSettings[desk].urgent then 2 else 0)),
       byteOf s.deskSettings[desk].quota, byteOf (s.holdings desk), byteOf s.desks[desk].holds]
        ++ continuation ++ twoBytes s.desks[desk].cursor
        ++ ofHandle 0 ++ ofHandle 1
        ++ ([0, 1, 2, 3] : List DriveNo).flatMap (fun d =>
          [stateNumber s.drives[d].state,
           byteOf ((if s.drives[d].isProtected then 1 else 0) + (if s.drives[d].damaged then 2 else 0))]
            ++ padded 12 (match s.images[d] with | some img => img.name | none => []) ++ [byteOf (formatCylinder d)])
        ++ [match s.channel.grant with | some d => byteOf d.val | none => 255] ∧
    [Reason.busy, .cancelled, .illegalKind, .badLength, .illegalSequence, .notPermitted, .noDrive, .isProtected, .badSlug, .notFound,
      .existsAlready, .heldElsewhere, .notHolder, .tooManyHolds, .noHandle, .badHandle, .tooLong, .diskFull, .fragmented,
      .catalogueFull, .gap, .outOfRange, .incomplete, .checkMismatch, .inUse, .notCancellable, .lastSupervisor, .media,
      .writeProtected, .driveLost, .catalogueWrite].map Reason.number = List.range' 1 31 ∧
    ((∀ h : HandleNo, (∀ r, s.handle desk h = .reading r → named r.slug) ∧ (∀ w, s.handle desk h = .writing w → named w.slug) ∧
        ∀ l, s.handle desk h = .lost l → named l.slug) →
      (∀ (d : DriveNo) (img : Image), s.images[d] = some img → img.name.length ≤ 12) →
      (s.statusBytes desk).length = 115)

/-- CANCEL (R172): with nothing in progress it is answered DONE with the nothing-cancelled flag; a request past its point (a FILE
whose version is placed, a SPIKE whose removal is carried) refuses it NOT-CANCELLABLE and goes on; any other waiting request has the
effect of its row made, is answered REFUSED CANCELLED, and then CANCEL is answered DONE with the flag clear. That read-ahead is tried
on the handle of a cancelled GET is the model's choice (log 30, DEDUCED): R124 tries it when a GET is answered, and does not say that
the answer CANCELLED is one. -/
def Obligations.CancelAnswersTheWaitingRequestFirst : Prop :=
  ∀ (desk : Desk) (s : State), s.powerGood = true →
    let nothingFlagged : ReplyFlags := ⟨false, false, false, true⟩
    let both := fun (t : State) (kind : Byte) (flags : ReplyFlags) =>
      exec (.cancel desk []) s =
        .next (((t.setInProgress desk none).refuse desk kind flags .cancelled).done desk 0x0F noFlags [] .clear).settle
    let past := exec (.cancel desk []) s = .next (s.refuse desk 0x0F noFlags .notCancellable)
    (s.desks[desk].inProgress = none → exec (.cancel desk []) s = .next (s.done desk 0x0F nothingFlagged [] .clear)) ∧
    (∀ on h offset n, s.desks[desk].inProgress = some (.get on h offset n) →
      exec (.cancel desk []) s =
        .next ((((((s.leaveWaiters desk).setInProgress desk none).refuse desk (if on then 0x25 else 0x24) noFlags .cancelled).readAhead
          desk h).done desk 0x0F noFlags [] .clear).settle)) ∧
    (∀ on h offset data, s.desks[desk].inProgress = some (.put on h offset data) →
      both (s.leaveWaiters desk) (if on then 0x23 else 0x22) noFlags) ∧
    (∀ h w, s.desks[desk].inProgress = some (.file h) → s.handle desk h = .writing w →
      (w.placed = false → both (s.setHandle desk h (.writing { w with state := .isOpen })) 0x26 noFlags) ∧
      (w.placed = true → past)) ∧
    (∀ d n lowered, s.desks[desk].inProgress = some (.spike d n lowered) →
      ((s.slot d n).carried = false → both (s.takeBackRemoval d n) 0x32 ⟨lowered, false, false, false⟩) ∧
      ((s.slot d n).carried = true → past)) ∧
    (∀ d, s.desks[desk].inProgress = some (.unmount d) →
      both (s.setImage d ((s.images[d]).map (fun img => { img with unmounting := false }))) 0x63 noFlags)

/-! ### Requests of the catalogue unit -/

/-- A slug lookup (R98): the lowest slot, FILED or CREATING, that has the slug, none when no such slot has it; a request that treats a
CREATING slot as not found finds it only when that slot is FILED. So with no slug in two slots it finds the one slot. LIST and LIST-ON
(R118, R119): the first three matching slots in ascending order, LIST from slot 0 and LIST-ON from the desk cursor, with the more flag
when a fourth matches, and the LIST continuation with the slot after the last of three, or 232. -/
def Obligations.StoriesAreFoundAndListed : Prop :=
  (∀ (img : Image) (slug : Chars),
    (∀ n, img.lookup slug = some n ↔
      ((img.slots[n]).state ≠ .free ∧ (img.slots[n]).slug = slug ∧
        ∀ m, m < n → (img.slots[m]).state ≠ .free → (img.slots[m]).slug ≠ slug)) ∧
    (img.lookup slug = none ↔ ∀ n : SlotNo, (img.slots[n]).state ≠ .free → (img.slots[n]).slug ≠ slug) ∧
    (∀ n, img.lookupFiled slug = some n ↔ (img.lookup slug = some n ∧ (img.slots[n]).state = .filed))) ∧
  (∀ (desk : Desk) (s : State), s.listens desk →
    let entry := fun (t : Slot) =>
      padded 16 t.slug ++ twoBytes t.length ++ twoBytes t.version ++ [byteOf t.edition, byteOf t.origin.val]
        ++ [match t.holder with | some e => byteOf e.val | none => 255]
        ++ [byteOf ((if t.state = .creating then 1 else 0) + (if t.pending.isSome then 2 else 0))]
    let shows := fun (kind : Byte) (d : DriveNo) (img : Image) (start : Chars) (edition : Nat) (found : List SlotNo) =>
      s.done desk kind ⟨false, decide (3 < found.length), false, false⟩
        (byteOf (found.take 3).length :: (found.take 3).flatMap (fun n => entry img.slots[n]))
        (.continues (.list d img.id start edition)
          (if 3 ≤ found.length then (match (found.take 3).getLast? with | some n => n.val + 1 | none => 232) else 232))
    let matching := fun (img : Image) (start : Chars) (edition : Nat) (least : Nat) (found : List SlotNo) =>
      found.Pairwise (fun a b => a < b) ∧
      ∀ n : SlotNo, n ∈ found ↔
        (least ≤ n.val ∧ (img.slots[n]).state ≠ .free ∧ start <+: (img.slots[n]).slug ∧
          (16 ≤ edition ∨ (img.slots[n]).edition = edition))
    (∀ (db edition : Byte) (chars : List Byte), chars.length ≤ 16 →
      (slugOf chars = none → exec (.list desk (db :: edition :: chars)) s = .next (s.refuse desk 0x10 noFlags .badSlug)) ∧
      (∀ start, slugOf chars = some start → s.imageOf db = none →
        exec (.list desk (db :: edition :: chars)) s = .next (s.refuse desk 0x10 noFlags .noDrive)) ∧
      (∀ start d img found, slugOf chars = some start → s.imageOf db = some (d, img) →
        matching img start edition.toNat 0 found →
        exec (.list desk (db :: edition :: chars)) s = .next (shows 0x10 d img start edition.toNat found))) ∧
    (∀ d id start edition, s.desks[desk].continuation = .list d id start edition →
      ((∀ img, s.images[d] = some img → img.id ≠ id) →
        exec (.listOn desk []) s = .next (s.refuse desk 0x11 noFlags .noDrive)) ∧
      (∀ img found, s.images[d] = some img → img.id = id → matching img start edition s.desks[desk].cursor found →
        exec (.listOn desk []) s = .next (shows 0x11 d img start edition found))))

/-- HOLD (R107): the six refusals in their order, DONE without change for the desk that holds the story already, and otherwise the
holder, the holds count one higher, the HELD event and DONE. RELEASE (R108): refused BAD-SLUG, NO-DRIVE or NOT-FOUND as HOLD is,
NOT-HOLDER when the desk does not hold the story, IN-USE while the desk has a write handle on it; otherwise no holder, the holds count
one lower, the RELEASED event and DONE. -/
def Obligations.HoldAndReleaseClaimTheStory : Prop :=
  (∀ (desk : Desk) (db : Byte) (chars : List Byte) (s : State), s.listens desk → 1 ≤ chars.length → chars.length ≤ 16 →
    let run := exec (.hold desk (db :: chars)) s
    let no := fun (r : Reason) => run = .next (s.refuse desk 0x30 noFlags r)
    (slugOf chars = none → no .badSlug) ∧
    ∀ slug, slugOf chars = some slug →
      (s.imageOf db = none → no .noDrive) ∧
      ∀ d img, s.imageOf db = some (d, img) →
        (img.lookupFiled slug = none → no .notFound) ∧
        ∀ n, img.lookupFiled slug = some n →
          let t := img.slots[n]
          let others := ∃ e, t.holder = some e ∧ e ≠ desk
          let removal := ∃ e, t.pending = some (.removal e)
          let full := t.holder ≠ some desk ∧ 8 ≤ s.desks[desk].holds
          (others → no .heldElsewhere) ∧
          (¬others → removal → no .inUse) ∧
          (¬others → ¬removal → full → no .tooManyHolds) ∧
          (¬removal → t.holder = some desk → run = .next (s.done desk 0x30 noFlags [] .clear)) ∧
          (¬removal → t.holder = none → s.desks[desk].holds < 8 →
            run = .next ((((s.setImage d (some { img with slots := img.slots.set n { t with holder := some desk } })).setDesk desk
                { s.desks[desk] with holds := s.desks[desk].holds + 1 }).raise (.held d t.slug desk t.version)).done
              desk 0x30 noFlags [] .clear))) ∧
  (∀ (desk : Desk) (db : Byte) (chars : List Byte) (s : State), s.listens desk → 1 ≤ chars.length → chars.length ≤ 16 →
    let run := exec (.release desk (db :: chars)) s
    let no := fun (r : Reason) => run = .next (s.refuse desk 0x31 noFlags r)
    (slugOf chars = none → no .badSlug) ∧
    ∀ slug, slugOf chars = some slug →
      (s.imageOf db = none → no .noDrive) ∧
      ∀ d img, s.imageOf db = some (d, img) →
        (img.lookupFiled slug = none → no .notFound) ∧
        ∀ n, img.lookupFiled slug = some n →
          let t := img.slots[n]
          let writing := ∃ h w, s.handle desk h = .writing w ∧ w.drive = d ∧ w.slot = n
          (t.holder ≠ some desk → no .notHolder) ∧
          (t.holder = some desk → writing → no .inUse) ∧
          (t.holder = some desk → ¬writing →
            run = .next ((((s.setImage d (some { img with slots := img.slots.set n { t with holder := none } })).setDesk desk
                { s.desks[desk] with holds := s.desks[desk].holds - 1 }).raise (.released d t.slug desk t.version)).done
              desk 0x31 noFlags [] .clear)))

/-- SPIKE (R117, R109, R176): the six refusals in their order, each with the class-lowered flag when an URGENT class was named without
the right; otherwise a pending removal is placed, uncarried, its catalogue sector marked (R110) and SPIKE waits. -/
def Obligations.SpikePlacesARemoval : Prop :=
  ∀ (desk : Desk) (db cls : Byte) (chars : List Byte) (s : State), s.listens desk → 1 ≤ chars.length → chars.length ≤ 16 →
    let run := exec (.spike desk (db :: cls :: chars)) s
    let lowered := decide (cls ≠ 0) && !s.deskSettings[desk].urgent
    let no := fun (r : Reason) => run = .next (s.refuse desk 0x32 ⟨lowered, false, false, false⟩ r)
    (slugOf chars = none → no .badSlug) ∧
    ∀ slug, slugOf chars = some slug →
      (s.imageOf db = none → no .noDrive) ∧
      ∀ d img, s.imageOf db = some (d, img) →
        (img.unmounting = true → no .inUse) ∧
        (img.unmounting = false → img.lookupFiled slug = none → no .notFound) ∧
        ∀ n, img.unmounting = false → img.lookupFiled slug = some n →
          let t := img.slots[n]
          let readOnly := s.drives[d].isProtected = true ∨ s.drives[d].damaged = true
          let others := ∃ e, t.holder = some e ∧ e ≠ desk
          let busy := t.pending.isSome = true ∨ ∃ e h w, s.handle e h = .writing w ∧ w.drive = d ∧ w.slot = n
          (readOnly → no .isProtected) ∧
          (¬readOnly → others → no .heldElsewhere) ∧
          (¬readOnly → ¬others → busy → no .inUse) ∧
          (¬readOnly → ¬others → ¬busy →
            run = .next ((((s.setImage d
                (some { img with slots := img.slots.set n { t with pending := some (.removal desk), carried := false } })).markDirty d
                  (catalogueOf n)).setInProgress desk (some (.spike d n lowered))).settle))

/-! ### Requests of the filing unit -/

/-- OPEN-READ (R123, R176): the four refusals in their order, each with the class-lowered flag when it applies, and IN-USE on a drive
being unmounted (R186); otherwise the lowest FREE handle is bound to the current version, the reader count goes up by one, DONE
carries handle, length and version, and read-ahead begins. -/
def Obligations.OpenReadBindsTheCurrentVersion : Prop :=
  ∀ (desk : Desk) (db cls : Byte) (chars : List Byte) (s : State), s.listens desk → 1 ≤ chars.length → chars.length ≤ 16 →
    let run := exec (.openRead desk (db :: cls :: chars)) s
    let lowered := decide (cls ≠ 0) && !s.deskSettings[desk].urgent
    let flags : ReplyFlags := ⟨lowered, false, false, false⟩
    let no := fun (r : Reason) => run = .next (s.refuse desk 0x20 flags r)
    (slugOf chars = none → no .badSlug) ∧
    ∀ slug, slugOf chars = some slug →
      (s.imageOf db = none → no .noDrive) ∧
      ∀ d img, s.imageOf db = some (d, img) →
        (img.unmounting = true → no .inUse) ∧
        (img.unmounting = false → img.lookupFiled slug = none → no .notFound) ∧
        ∀ n, img.unmounting = false → img.lookupFiled slug = some n →
          ((∀ h : HandleNo, s.handle desk h ≠ .free) → no .noHandle) ∧
          ∀ h, s.lowestFreeHandle desk h →
            let t := img.slots[n]
            let bound : ReadHandle :=
              { drive := d, slot := n, slug := t.slug, cls := if cls = 0 ∨ lowered then .routine else .urgent, length := t.length,
                version := t.version, extents := t.extents, binding := .current, delivery := 0, readAhead := 0,
                table := List.replicate ((t.length + 511) / 512) .absent }
            run = .next ((((((s.setImage d (some { img with slots := img.slots.set n { t with readers := t.readers + 1 } })).setHandle
                desk h (.reading bound)).done desk 0x20 flags (byteOf h.val :: twoBytes t.length ++ twoBytes t.version)
                  .clear)).readAhead desk h).settle)

/-- GET (R126, R128, R122) and GET-ON, which takes handle and offset from the continuation and the cursor (R127): BAD-HANDLE, the kept
cause of a LOST handle, OUT-OF-RANGE for a count of 0 or above 128; at or beyond the end no bytes and the end flag; a range whose
sectors are all PRESENT answered at once with its bytes, clamped at the length; else the request waits and asks for a page for each
ABSENT sector. A GET refused OUT-OF-RANGE changes nothing beyond its reply and the tally (R171); that it is therefore no occasion of
read-ahead, although R124 says of a GET only that it is answered, is the model's choice (log 30, DEDUCED). The bytes a GET returns are
the story's (R16): byte i of the answer is the byte at (offset + i) mod 512 of the page of story sector (offset + i) / 512. -/
def Obligations.GetReturnsTheBytesOrWaits : Prop :=
  (∀ (desk : Desk) (on : Bool) (h : HandleNo) (offset : Nat) (count : Byte) (s : State), s.listens desk → offset ≤ 65535 →
    (on = true → s.desks[desk].continuation = .get h ∧ s.desks[desk].cursor = offset) →
    let run := exec (if on then .getOn desk [count] else .get desk (byteOf h.val :: twoBytes offset ++ [count])) s
    let code : Byte := if on then 0x25 else 0x24
    let no := fun (r : Reason) => run = .next (s.refuse desk code noFlags r)
    (s.handle desk h = .free → no .badHandle) ∧
    (∀ w, s.handle desk h = .writing w → no .badHandle) ∧
    (∀ l, s.handle desk h = .lost l → run = .next (s.fail desk code noFlags l.cause [])) ∧
    ∀ r, s.handle desk h = .reading r →
      let n := min count.toNat (r.length - offset)
      let answered := fun (bytes : List Byte) =>
        run = .next ((((s.setInProgress desk none).done desk code ⟨false, false, decide (r.length ≤ offset + n), false⟩
          (byteOf n :: bytes) (.continues (.get h) (offset + n))).deliver desk h r (offset + n)).settle)
      let fits := 1 ≤ count.toNat ∧ count.toNat ≤ 128
      let present := ∀ j ∈ sectorsCovering offset n, ∃ p, r.table.getD j .absent = .present p
      (¬fits → no .outOfRange) ∧
      (fits → r.length ≤ offset → answered []) ∧
      (fits → offset < r.length → present → answered (s.rangeBytes r offset n)) ∧
      (fits → offset < r.length → ¬present →
        run = .next (((s.setInProgress desk (some (.get on h offset n))).askForGet desk h
          ((sectorsCovering offset n).filter (fun j => r.table.getD j .absent == .absent))).settle))) ∧
  (∀ (desk : Desk) (hb o1 o0 count : Byte) (s : State), s.listens desk → 1 < hb.toNat →
    exec (.get desk [hb, o1, o0, count]) s = .next (s.refuse desk 0x24 noFlags .badHandle)) ∧
  (∀ (s : State) (r : ReadHandle) (offset n : Nat), 1 ≤ n → n ≤ 128 →
    (∀ j ∈ sectorsCovering offset n, ∃ p, r.table.getD j .absent = .present p ∧ (s.pageBytes p).length = 512) →
    (s.rangeBytes r offset n).length = n ∧
    ∀ i, i < n → ∃ p, r.table.getD ((offset + i) / 512) .absent = .present p ∧
      (s.rangeBytes r offset n)[i]? = (s.pageBytes p)[(offset + i) % 512]?)

/-- CLOSE and DROP (R122, R131, R143): BAD-HANDLE by the table of R122, and for a handle byte above 1; a LOST handle becomes FREE;
CLOSE of a read handle gives up its pages and its binding; DROP of a WRITE-OPEN or FAILED handle gives up its pages and its
reservation, and in NEW mode its CREATING slot and hold with a RELEASED event. The handle becomes FREE and the request is answered
DONE. -/
def Obligations.CloseAndDropFreeTheHandle : Prop :=
  (∀ (desk : Desk) (h : HandleNo) (s : State), s.listens desk →
    let close := exec (.close desk [byteOf h.val]) s
    let drop := exec (.drop desk [byteOf h.val]) s
    let noClose := close = .next (s.refuse desk 0x28 noFlags .badHandle)
    let noDrop := drop = .next (s.refuse desk 0x27 noFlags .badHandle)
    (s.handle desk h = .free → noClose ∧ noDrop) ∧
    (∀ l, s.handle desk h = .lost l →
      close = .next ((s.setHandle desk h .free).done desk 0x28 noFlags [] .clear) ∧
      drop = .next ((s.setHandle desk h .free).done desk 0x27 noFlags [] .clear)) ∧
    (∀ r, s.handle desk h = .reading r →
      noDrop ∧
      close = .next (((((s.giveUpReads r.drive r.table).unbind r.drive r.slot r.binding).setHandle desk h .free).done
        desk 0x28 noFlags [] .clear).settle)) ∧
    (∀ w, s.handle desk h = .writing w →
      noClose ∧
      (w.state = .committing → noDrop) ∧
      (w.state ≠ .committing →
        let given := (s.giveUpWrites w.drive w.table).giveBack w.drive w.reservation
        let gone := if w.mode = .new then (given.releaseWithEvent w.drive w.slot).setSlot w.drive w.slot Slot.free else given
        drop = .next (((gone.setHandle desk h .free).done desk 0x27 noFlags [] .clear).settle)))) ∧
  (∀ (desk : Desk) (hb : Byte) (s : State), s.listens desk → 1 < hb.toNat →
    exec (.close desk [hb]) s = .next (s.refuse desk 0x28 noFlags .badHandle) ∧
    exec (.drop desk [hb]) s = .next (s.refuse desk 0x27 noFlags .badHandle))

/-- OPEN-WRITE (R132, R176, R186): BAD-SLUG, OUT-OF-RANGE, TOO-LONG, NO-DRIVE, IN-USE on a drive being unmounted, PROTECTED and
NO-HANDLE, in this order, each with the class-lowered flag when it applies. Then (R133, R134, R101) in NEW mode EXISTS, CATALOGUE-FULL
and TOO-MANY-HOLDS, and the lowest FREE slot becomes CREATING with the desk as holder; in REPLACE mode NOT-FOUND, HELD-ELSEWHERE,
IN-USE and TOO-MANY-HOLDS, and the hold is taken with a HELD event unless the desk had it. The reservation is the last test. The
lowest FREE handle becomes WRITE-OPEN with W 0, and DONE carries the handle and the number of sectors. -/
def Obligations.OpenWriteReservesAndTakesTheHold : Prop :=
  (∀ (desk : Desk) (db mode cls edition l1 l0 : Byte) (chars : List Byte) (s : State),
    s.listens desk → 1 ≤ chars.length → chars.length ≤ 16 →
    let run := exec (.openWrite desk (db :: mode :: cls :: edition :: l1 :: l0 :: chars)) s
    let lowered := decide (cls ≠ 0) && !s.deskSettings[desk].urgent
    let no := fun (r : Reason) => run = .next (s.refuse desk 0x21 ⟨lowered, false, false, false⟩ r)
    let inRange := mode.toNat ≤ 1 ∧ edition.toNat ≤ 15
    let short := l1.toNat * 256 + l0.toNat ≤ 61440
    (slugOf chars = none → no .badSlug) ∧
    ∀ slug, slugOf chars = some slug →
      (¬inRange → no .outOfRange) ∧
      (inRange → ¬short → no .tooLong) ∧
      (inRange → short → s.imageOf db = none → no .noDrive) ∧
      ∀ d img, inRange → short → s.imageOf db = some (d, img) →
        let readOnly := s.drives[d].isProtected = true ∨ s.drives[d].damaged = true
        (img.unmounting = true → no .inUse) ∧
        (img.unmounting = false → readOnly → no .isProtected) ∧
        (img.unmounting = false → ¬readOnly → (∀ h : HandleNo, s.handle desk h ≠ .free) → no .noHandle)) ∧
  (∀ (desk : Desk) (db mode cls edition l1 l0 : Byte) (chars slug : List Byte) (d : DriveNo) (img : Image) (h : HandleNo) (s : State),
    s.listens desk → 1 ≤ chars.length → chars.length ≤ 16 → slugOf chars = some slug → mode.toNat ≤ 1 → edition.toNat ≤ 15 →
    l1.toNat * 256 + l0.toNat ≤ 61440 → s.imageOf db = some (d, img) → img.unmounting = false →
    s.drives[d].isProtected = false → s.drives[d].damaged = false → s.lowestFreeHandle desk h →
    let run := exec (.openWrite desk (db :: mode :: cls :: edition :: l1 :: l0 :: chars)) s
    let lowered := decide (cls ≠ 0) && !s.deskSettings[desk].urgent
    let flags : ReplyFlags := ⟨lowered, false, false, false⟩
    let no := fun (r : Reason) => run = .next (s.refuse desk 0x21 flags r)
    let length := l1.toNat * 256 + l0.toNat
    let count := (length + 511) / 512
    let opened := fun (m : WriteMode) (n : SlotNo) (es : List Extent) => Handle.writing
      { drive := d, slot := n, slug := slug, cls := if cls = 0 ∨ lowered then .routine else .urgent, length := length,
        state := .isOpen, mode := m, edition := edition.toNat, reservation := es, mark := 0, check := 0xFFFF,
        table := List.replicate count .unstarted, keepHold := false, placed := false, orphan := false }
    let answered := fun (t : State) => run = .next (t.done desk 0x21 flags [byteOf h.val, byteOf count] .clear)
    (mode = 0 →
      ((∃ n, img.lookup slug = some n) → no .existsAlready) ∧
      (img.lookup slug = none →
        ((∀ n : SlotNo, (img.slots[n]).state ≠ .free) → no .catalogueFull) ∧
        ∀ n : SlotNo, (img.slots[n]).state = .free → (∀ m, m < n → (img.slots[m]).state ≠ .free) →
          (8 ≤ s.desks[desk].holds → no .tooManyHolds) ∧
          (s.desks[desk].holds < 8 →
            (∀ r, img.reserve count = .error r → no r) ∧
            ∀ es, img.reserve count = .ok es →
              let created : Slot := { Slot.free with state := .creating, slug := slug, origin := desk, edition := edition.toNat,
                                                     length := length, holder := some desk }
              answered ((((s.setImage d (some ((img.markAllocated (sectorsOf es)).setSlot n created))).setDesk desk
                { s.desks[desk] with holds := s.desks[desk].holds + 1 })).setHandle desk h (opened .new n es))))) ∧
    (mode ≠ 0 →
      (img.lookupFiled slug = none → no .notFound) ∧
      ∀ n, img.lookupFiled slug = some n →
        let t := img.slots[n]
        let others := ∃ e, t.holder = some e ∧ e ≠ desk
        let busy := t.pending.isSome = true ∨ ∃ e g w, s.handle e g = .writing w ∧ w.drive = d ∧ w.slot = n
        let full := t.holder ≠ some desk ∧ 8 ≤ s.desks[desk].holds
        (others → no .heldElsewhere) ∧
        (¬others → busy → no .inUse) ∧
        (¬others → ¬busy → full → no .tooManyHolds) ∧
        (¬others → ¬busy → ¬full →
          (∀ r, img.reserve count = .error r → no r) ∧
          ∀ es, img.reserve count = .ok es →
            let s' := s.setImage d (some (img.markAllocated (sectorsOf es)))
            let held :=
              if t.holder = some desk then s'
              else (((s'.setImage d (some ((img.markAllocated (sectorsOf es)).setSlot n { t with holder := some desk }))).setDesk desk
                { s.desks[desk] with holds := s.desks[desk].holds + 1 }).raise (.held d t.slug desk t.version))
            answered (held.setHandle desk h (opened .replace n es)))))

/-- PUT (R135, R136, R122) and PUT-ON, which takes handle and offset from the continuation and the cursor (R137): BAD-HANDLE or the
kept cause, GAP, OUT-OF-RANGE; data wholly below W answered DONE with W and 0 new bytes; new bytes stored at once when no page is
needed or one is granted at once, and otherwise the PUT waits for its page with nothing stored. Storing the new bytes (R136, R138): W
becomes the offset plus n and the running check goes on over the new bytes; byte i of the new bytes lands at (W + i) mod 512 of the
page of story sector (W + i) / 512, and no other byte of any page changes. Then the sector W stood in and the next one are queued,
each if its end has been reached (WritesEndAndAreRelocated says how; that both may be is log 17), and the PUT is answered DONE with
the new W and the number of new bytes, with the PUT continuation at W. -/
def Obligations.PutStoresOrWaits : Prop :=
  (∀ (desk : Desk) (on : Bool) (h : HandleNo) (offset : Nat) (data : List Byte) (s : State),
    s.listens desk → offset ≤ 65535 → 1 ≤ data.length → data.length ≤ 128 →
    (on = true → s.desks[desk].continuation = .put h ∧ s.desks[desk].cursor = offset) →
    let run := exec (if on then .putOn desk data else .put desk (byteOf h.val :: twoBytes offset ++ data)) s
    let code : Byte := if on then 0x23 else 0x22
    let no := fun (r : Reason) => run = .next (s.refuse desk code noFlags r)
    let upTo := offset + data.length
    (s.handle desk h = .free → no .badHandle) ∧
    (∀ r, s.handle desk h = .reading r → no .badHandle) ∧
    (∀ l, s.handle desk h = .lost l → run = .next (s.fail desk code noFlags l.cause [])) ∧
    ∀ w, s.handle desk h = .writing w →
      (w.state = .committing → no .badHandle) ∧
      (∀ c, w.state = .failed c → run = .next (s.fail desk code noFlags c [])) ∧
      (w.state = .isOpen →
        let free := s.freePageNo true
        let grant := s.holdings desk < s.deskSettings[desk].quota
        let needs :=
          if w.mark % 512 = 0 then some (w.mark / 512)
          else if (upTo - 1) / 512 = w.mark / 512 then none else some ((upTo - 1) / 512)
        (w.mark < offset → no .gap) ∧
        (offset ≤ w.mark → w.length < upTo → no .outOfRange) ∧
        (upTo ≤ w.length → upTo ≤ w.mark →
          run = .next (s.done desk code noFlags (twoBytes w.mark ++ [0]) (.continues (.put h) upTo))) ∧
        (offset ≤ w.mark → w.mark < upTo → upTo ≤ w.length →
          (needs = none → run = .next (s.storePut desk h w on offset data none).settle) ∧
          ∀ j, needs = some j →
            (∀ p, free = some p → grant →
              run = .next ((s.holdPage p (.handleSector desk h j)).storePut desk h w on offset data (some (j, p))).settle) ∧
            ((free = none ∨ ¬grant) →
              run = .next (((s.setInProgress desk (some (.put on h offset data))).setPool
                { s.pool with waiters := s.pool.waiters ++ [{ desk := desk, handle := h, cls := w.cls, lacks := [j] }] }).settle))))) ∧
  (∀ (desk : Desk) (hb o1 o0 : Byte) (data : List Byte) (s : State),
    s.listens desk → 1 < hb.toNat → 1 ≤ data.length → data.length ≤ 128 →
    exec (.put desk (hb :: o1 :: o0 :: data)) s = .next (s.refuse desk 0x22 noFlags .badHandle)) ∧
  (∀ (s : State) (desk : Desk) (h : HandleNo) (w : WriteHandle) (on : Bool) (offset : Nat) (data : List Byte)
    (page : Option (Nat × PageNo)),
    offset ≤ w.mark → w.mark < offset + data.length → data.length ≤ 128 →
    let new := data.drop (w.mark - offset)
    let table := match page with | none => w.table | some (k, p) => w.table.set k (.filling p)
    let pageOf := fun (i : Nat) => fillingPage table ((w.mark + i) / 512)
    (∀ i, i < new.length → ∃ p, pageOf i = some p ∧ (s.pageBytes p).length = 512) →
    (∀ i k p, i < new.length → k < new.length → pageOf i = some p → pageOf k = some p → (w.mark + i) / 512 = (w.mark + k) / 512) →
    ∃ t : State,
      s.storePut desk h w on offset data page =
        ((((t.queueSector desk h (w.mark / 512)).queueSector desk h (w.mark / 512 + 1)).setInProgress desk none).done desk
          (if on then 0x23 else 0x22) noFlags (twoBytes (offset + data.length) ++ [byteOf new.length])
          (.continues (.put h) (offset + data.length))) ∧
      t = { s with handles := t.handles, pool := t.pool } ∧
      t.handle desk h =
        .writing { w with table := table, mark := offset + data.length, check := checkFrom w.check new } ∧
      (∀ e g, (e ≠ desk ∨ g ≠ h) → t.handle e g = s.handle e g) ∧
      t.pool.waiters = s.pool.waiters ∧ t.pool.sysWaiters = s.pool.sysWaiters ∧
      (∀ p : PageNo, (t.pool.pages[p]).map (fun x => (x.holder, x.awaited)) = (s.pool.pages[p]).map (fun x => (x.holder, x.awaited))) ∧
      (∀ i p, i < new.length → pageOf i = some p → (t.pageBytes p)[(w.mark + i) % 512]? = new[i]?) ∧
      ∀ (p : PageNo) (k : Nat), (∀ i, i < new.length → pageOf i = some p → (w.mark + i) % 512 ≠ k) →
        (t.pageBytes p)[k]? = (s.pageBytes p)[k]?)

/-- FILE (R122, R142): BAD-HANDLE (for a handle byte above 1 too) or the kept cause, then OUT-OF-RANGE, PROTECTED, INCOMPLETE and
CHECK-MISMATCH in their order; otherwise the handle is COMMITTING with its keep-hold choice and FILE waits. When every sector is
WRITTEN already, the pending new version is placed on the slot at once, with the reservation, length, check, edition, desk and the
first-filing flag. -/
def Obligations.FileCommitsOrIsRefused : Prop :=
  (∀ (desk : Desk) (h : HandleNo) (c1 c0 keep : Byte) (s : State), s.listens desk →
    let run := exec (.file desk [byteOf h.val, c1, c0, keep]) s
    let no := fun (r : Reason) => run = .next (s.refuse desk 0x26 noFlags r)
    (s.handle desk h = .free → no .badHandle) ∧
    (∀ r, s.handle desk h = .reading r → no .badHandle) ∧
    (∀ l, s.handle desk h = .lost l → run = .next (s.fail desk 0x26 noFlags l.cause [])) ∧
    ∀ w, s.handle desk h = .writing w →
      (w.state = .committing → no .badHandle) ∧
      (∀ c, w.state = .failed c → run = .next (s.fail desk 0x26 noFlags c [])) ∧
      (w.state = .isOpen →
        let readOnly := s.drives[w.drive].isProtected = true ∨ s.drives[w.drive].damaged = true
        let checked := c1.toNat * 256 + c0.toNat = w.check.toNat
        let committing := { w with state := .committing, keepHold := decide (keep = 1) }
        (1 < keep.toNat → no .outOfRange) ∧
        (keep.toNat ≤ 1 → readOnly → no .isProtected) ∧
        (keep.toNat ≤ 1 → ¬readOnly → w.mark ≠ w.length → no .incomplete) ∧
        (keep.toNat ≤ 1 → ¬readOnly → w.mark = w.length → ¬checked → no .checkMismatch) ∧
        (keep.toNat ≤ 1 → ¬readOnly → w.mark = w.length → checked → w.placed = false →
          let waits := (s.setHandle desk h (.writing committing)).setInProgress desk (some (.file h))
          ((∃ e ∈ w.table, e ≠ .written) → run = .next waits.settle) ∧
          ((∀ e ∈ w.table, e = .written) →
            run = .next (((waits.setHandle desk h (.writing { committing with placed := true })).placeChange w.drive w.slot
              (.newVersion { desk := desk, handle := h, extents := w.reservation, length := w.length, check := w.check,
                             edition := w.edition, keepHold := decide (keep = 1),
                             first := (s.slot w.drive w.slot).state == .creating })).settle))))) ∧
  (∀ (desk : Desk) (hb c1 c0 keep : Byte) (s : State), s.listens desk → 1 < hb.toNat →
    exec (.file desk [hb, c1, c0, keep]) s = .next (s.refuse desk 0x26 noFlags .badHandle))

/-! ### Watches, subscriptions and notices -/

/-- WATCH (R154): BAD-SLUG, OUT-OF-RANGE and NO-DRIVE in this order; otherwise the place receives the new watch in WAITING-FIRST, and
DONE carries 1 when a watch was replaced and 0 when the place was empty. UNWATCH (R155): an id above 3 is refused OUT-OF-RANGE;
otherwise the place is emptied, and DONE carries 1 when a watch was removed and 0 when the place was already empty. -/
def Obligations.WatchAndUnwatchSetThePlace : Prop :=
  (∀ (desk : Desk) (id db first second rep : Byte) (chars : List Byte) (s : State),
    s.listens desk → 1 ≤ chars.length → chars.length ≤ 16 →
    let run := exec (.watch desk (id :: db :: first :: second :: rep :: chars)) s
    let no := fun (r : Reason) => run = .next (s.refuse desk 0x40 noFlags r)
    let inRange := id.toNat ≤ 3 ∧ (1 ≤ first.toNat ∧ first.toNat ≤ 5) ∧ second.toNat ≤ 5 ∧ rep.toNat ≤ 1
    let numbered := fun (n : Nat) (c : Condition) =>
      (n, c) ∈ [(1, Condition.filed), (2, .filedNew), (3, .spiked), (4, .held), (5, .released)]
    (slugOf chars = none → no .badSlug) ∧
    ∀ start, slugOf chars = some start →
      (¬inRange → no .outOfRange) ∧
      (inRange → 3 < db.toNat → no .noDrive) ∧
      (∀ (i : WatchNo) (d : DriveNo) (c1 : Condition) (c2 : Option Condition), inRange → i.val = id.toNat → d.val = db.toNat →
        numbered first.toNat c1 → (c2 = none ∧ second = 0 ∨ ∃ c, c2 = some c ∧ numbered second.toNat c) →
        run = .next ((s.setDesk desk
            { s.desks[desk] with
              watches := (s.desks[desk].watches).set i
                (some { drive := d, start := start, first := c1, second := c2, repeats := decide (rep = 1), matched := none }) }).done
          desk 0x40 noFlags [if ((s.desks[desk].watches)[i]).isSome then 1 else 0] .clear))) ∧
  (∀ (desk : Desk) (id : Byte) (s : State), s.listens desk →
    (3 < id.toNat → exec (.unwatch desk [id]) s = .next (s.refuse desk 0x41 noFlags .outOfRange)) ∧
    ∀ i : WatchNo, i.val = id.toNat →
      exec (.unwatch desk [id]) s =
        .next ((s.setDesk desk { s.desks[desk] with watches := (s.desks[desk].watches).set i none }).done desk 0x41 noFlags
          [if ((s.desks[desk].watches)[i]).isSome then 1 else 0] .clear))

/-- SUBSCRIBE (R156): both sets are stored whole and reported; a set byte above 15 is refused OUT-OF-RANGE. TAKE-NOTICE (R159): the
oldest notice is removed and returned with its code and fields of R157, and the count in the reply is the number left; an empty queue
answers the code 0 with a count of 0. The continuation and the cursor stay at TAKE-NOTICE. A notice meets a queue (R158): with
NOTICES-LOST last it is dropped and the marker's count goes up, up to 65,535; a queue of fewer than 8 takes it at its end; a full
queue's last entry is replaced by NOTICES-LOST with a count of 2. -/
def Obligations.NoticesAreQueuedAndTaken : Prop :=
  (∀ (desk : Desk) (drives filings : Byte) (s : State), s.listens desk →
    ((15 < drives.toNat ∨ 15 < filings.toNat) →
      exec (.subscribe desk [drives, filings]) s = .next (s.refuse desk 0x42 noFlags .outOfRange)) ∧
    (drives.toNat ≤ 15 → filings.toNat ≤ 15 →
      exec (.subscribe desk [drives, filings]) s =
        .next ((s.setDesk desk
          { s.desks[desk] with driveSet := drives.setWidth 4, filingsSet := filings.setWidth 4 }).done desk 0x42 noFlags
            [drives, filings] .clear))) ∧
  (∀ (desk : Desk) (s : State), s.listens desk →
    let replied := fun (left : Nat) (fields : List Byte) => s.lines.set desk
      { s.lines[desk] with replies := s.lines[desk].replies ++ [⟨0x43, .done, none, left, noFlags, fields, none⟩] }
    (s.desks[desk].notices = [] → exec (.takeNotice desk []) s = .next { s with lines := replied 0 [0] }) ∧
    (∀ n rest, s.desks[desk].notices = n :: rest →
      exec (.takeNotice desk []) s =
        .next { s with lines := replied rest.length n.bytes,
                       desks := s.desks.set desk { s.desks[desk] with notices := rest } })) ∧
  (∀ n : Notice, n.bytes = match n with
    | .filed d slug desk v first released =>
      [1, byteOf d.val] ++ padded 16 slug ++ [byteOf desk.val] ++ twoBytes v
        ++ [byteOf ((if first then 1 else 0) + (if released then 2 else 0))]
    | .spiked d slug desk v => [2, byteOf d.val] ++ padded 16 slug ++ [byteOf desk.val] ++ twoBytes v
    | .removed d => [3, byteOf d.val]
    | .mounted d name damaged => [4, byteOf d.val] ++ padded 12 name ++ [if damaged then 1 else 0]
    | .faulted d cause => [5, byteOf d.val, match cause with | .speed => 1 | .trackZero => 2 | .tooManyBad => 3]
    | .watchFired i slug kind v =>
      [6, byteOf i.val] ++ padded 16 slug ++ [match kind with | .filed => 1 | .spiked => 2 | .held => 3 | .released => 4]
        ++ twoBytes v
    | .holdBroken d slug breaker => [7, byteOf d.val] ++ padded 16 slug ++ [byteOf breaker.val]
    | .handleLost desk h cause => [8, byteOf desk.val, byteOf h.val, byteOf cause.number]
    | .noticesLost k => 9 :: twoBytes k) ∧
  (∀ (desk : Desk) (n : Notice) (s : State),
    let queue := s.desks[desk].notices
    let becomes := fun (q : List Notice) => s.post desk n = { s with desks := s.desks.set desk { s.desks[desk] with notices := q } }
    (∀ rest k, queue = rest ++ [.noticesLost k] → becomes (rest ++ [.noticesLost (min (k + 1) 65535)])) ∧
    ((∀ rest k, queue ≠ rest ++ [.noticesLost k]) → queue.length < 8 → becomes (queue ++ [n])) ∧
    ((∀ rest k, queue ≠ rest ++ [.noticesLost k]) → 8 ≤ queue.length → becomes (queue.dropLast ++ [.noticesLost 2])))

/-- An event reaches every desk and nothing but the desks (R147, R148): the subscription notice first, then the desk's four watches in
ascending order of their ids. A FILINGS subscription to the drive delivers FILED and SPIKED, a DRIVE subscription REMOVED, MOUNTED and
FAULTED (R156). What satisfies a condition is the table of R150. A watch meets an event (R150 to R152): an event of another drive and
a drive event leave it; in WAITING-FIRST it fires, or records the slug and waits for its second condition without firing; in
WAITING-SECOND only the matched slug fires it. A watch that fires posts WATCH-FIRED with its id and the event's slug, kind and
version, goes back to WAITING-FIRST when it repeats and is gone otherwise. -/
def Obligations.EventsReachDesksAndAdvanceWatches : Prop :=
  (∀ (s : State) (ev : Event),
    s.raise ev = { s with desks := (s.raise ev).desks } ∧
    ∀ desk : Desk,
      let c := s.desks[desk]
      let filings := fun (d : DriveNo) => c.filingsSet.getLsbD d.val = true
      let driven := fun (d : DriveNo) => c.driveSet.getLsbD d.val = true
      let take := fun (n : Notice) => { c with notices := appendNotice c.notices n }
      let told := match ev with
        | .filed d slug e v first released => if filings d then take (.filed d slug e v first released) else c
        | .spiked d slug e v => if filings d then take (.spiked d slug e v) else c
        | .held _ _ _ _ => c
        | .released _ _ _ _ => c
        | .removed d => if driven d then take (.removed d) else c
        | .mounted d name damaged => if driven d then take (.mounted d name damaged) else c
        | .faulted d cause => if driven d then take (.faulted d cause) else c
      (s.raise ev).desks[desk] =
        (((told.watchMeets ev 0).watchMeets ev 1).watchMeets ev 2).watchMeets ev 3) ∧
  (∀ ev : Event, ev.seen = match ev with
    | .filed d slug _ v _ _ => some (d, slug, .filed, v)
    | .spiked d slug _ v => some (d, slug, .spiked, v)
    | .held d slug _ v => some (d, slug, .held, v)
    | .released d slug _ v => some (d, slug, .released, v)
    | .removed _ => none
    | .mounted _ _ _ => none
    | .faulted _ _ => none) ∧
  (∀ (c : Condition) (ev : Event), c.satisfiedBy ev = true ↔ match c with
    | .filed => ∃ d slug e v first released, ev = .filed d slug e v first released
    | .filedNew => ∃ d slug e v released, ev = .filed d slug e v true released
    | .spiked => ∃ d slug e v, ev = .spiked d slug e v
    | .held => ∃ d slug e v, ev = .held d slug e v
    | .released => (∃ d slug e v, ev = .released d slug e v) ∨ ∃ d slug e v first, ev = .filed d slug e v first true) ∧
  (∀ (c : DeskContext) (ev : Event) (i : WatchNo),
    ((c.watches)[i] = none → c.watchMeets ev i = c) ∧
    ∀ w, (c.watches)[i] = some w →
      c.watchMeets ev i =
        { c with watches := (c.watches).set i (w.meets ev).1,
                 notices := match ev.seen with
                   | some (_, slug, kind, v) =>
                     if (w.meets ev).2 then appendNotice c.notices (.watchFired i slug kind v) else c.notices
                   | none => c.notices }) ∧
  (∀ (w : Watch) (ev : Event) (d : DriveNo) (slug : Chars) (kind : CatalogueEventKind) (v : Nat),
    let fires := (if w.repeats then some { w with matched := none } else none, true)
    let stays := (some w, false)
    (ev.seen = none → w.meets ev = stays) ∧
    (ev.seen = some (d, slug, kind, v) →
      (d ≠ w.drive → w.meets ev = stays) ∧
      (d = w.drive → w.matched = none →
        (w.first.satisfiedBy ev = true → w.start <+: slug →
          (w.second = none → w.meets ev = fires) ∧
          (∀ c, w.second = some c → w.meets ev = (some { w with matched := some slug }, false))) ∧
        (¬(w.first.satisfiedBy ev = true ∧ w.start <+: slug) → w.meets ev = stays)) ∧
      (∀ m c, d = w.drive → w.matched = some m → w.second = some c →
        (c.satisfiedBy ev = true → slug = m → w.meets ev = fires) ∧
        (¬(c.satisfiedBy ev = true ∧ slug = m) → w.meets ev = stays))))

/-! ### Supervision -/

/-- DRIVE-SET (R183, R41, R42): NO-DRIVE above 3; otherwise every value is clamped to its range, stored and reported, and a change of
the enabled setting is made before the reply: disabling tears the drive down with a REMOVED event, stops its timer and empties its
latches; enabling gives EMPTY, SPIN-CHECK or OFFLINE by READY and auto-mount, the timer afresh with READY high. -/
def Obligations.DriveSetClampsStoresAndReports : Prop :=
  ∀ (desk : Desk) (db i1 i0 d1 d0 h1 h0 idle r a3 a2 a1 a0 auto enabled : Byte) (s : State), s.listensTo desk →
    let run := exec (.driveSet desk [db, i1, i0, d1, d0, h1, h0, idle, r, a3, a2, a1, a0, auto, enabled]) s
    let within := fun (lo hi n : Nat) => max lo (min hi n)
    let two := fun (x y : Byte) => x.toNat * 256 + y.toNat
    let aging := within 1000 100000 (two a3 a2 * 65536 + two a1 a0)
    let stored : Settings :=
      { stepInterval := within 10 160 (two i1 i0), settle := min 500 (two d1 d0), headLoad := min 1000 (two h1 h0),
        headIdle := min 60 idle.toNat, retries := within 1 16 r.toNat, aging := aging, autoMount := decide (auto ≠ 0),
        enabled := decide (enabled ≠ 0) }
    let report := twoBytes stored.stepInterval ++ twoBytes stored.settle ++ twoBytes stored.headLoad
      ++ [byteOf stored.headIdle, byteOf stored.retries] ++ twoBytes (aging / 65536) ++ twoBytes (aging % 65536)
      ++ [if stored.autoMount then 1 else 0, if stored.enabled then 1 else 0]
    let answered := fun (t : State) => run = .next ((t.done desk 0x60 noFlags report .clear).settle)
    (3 < db.toNat → run = .next (s.refuse desk 0x60 noFlags .noDrive)) ∧
    ∀ d : DriveNo, d.val = db.toNat →
      let set := s.setSettings d stored
      let u := s.drives[d]
      let gone := set.leaveUse d .disabled none (.removed d)
      (enabled ≠ 0 → u.state ≠ .disabled → answered set) ∧
      (enabled ≠ 0 → u.state = .disabled → u.ready = false →
        answered (set.setDrive d { u with position := none, state := .empty, faultCause := none })) ∧
      (enabled ≠ 0 → u.state = .disabled → u.ready = true →
        answered (set.setDrive d
          { u with position := none, state := if auto = 0 then .offline else .spinCheck, faultCause := none, elapsed := 0,
                   reference := false, badRun := 0, validCount := 0, period := 1667 })) ∧
      (enabled = 0 → u.state = .disabled → answered set) ∧
      (enabled = 0 → u.state ≠ .disabled →
        answered (gone.setDrive d
          { gone.drives[d] with elapsed := 0, reference := false, badRun := 0, validCount := 0, latches := [],
                                direction := false }))

/-- DESK-SET (R184, R161, R175): OUT-OF-RANGE above 7; LAST-SUPERVISOR, with nothing stored, when no desk would hold SUPERVISOR;
otherwise rights, clamped quota and rate code are stored and reported, and the reply carries the rate the target's line takes when it
has been sent. -/
def Obligations.DeskSetStoresRightsQuotaAndRate : Prop :=
  ∀ (desk : Desk) (n rights quota rate : Byte) (s : State), s.listensTo desk →
    let run := exec (.deskSet desk [n, rights, quota, rate]) s
    let no := fun (r : Reason) => run = .next (s.refuse desk 0x61 noFlags r)
    (7 < n.toNat → no .outOfRange) ∧
    ∀ target : Desk, target.val = n.toNat →
      let others := ∃ e : Desk, e ≠ target ∧ s.deskSettings[e].supervisor = true
      let code := min 4 rate.toNat
      let taken : Rate := if code = 0 then .r2400 else if code = 1 then .r4800 else if code = 2 then .r9600
        else if code = 3 then .r19200 else .r38400
      let stored : DeskSettings :=
        { supervisor := rights.getLsbD 0, urgent := rights.getLsbD 1, quota := max 1 (min 56 quota.toNat), rate := taken }
      (rights.getLsbD 0 = false → ¬others → no .lastSupervisor) ∧
      ((rights.getLsbD 0 = true ∨ others) →
        run = .next ((((s.setDeskSettings target stored).queueReply desk
          { kind := 0x61, result := .done, reason := none, notices := 0, flags := noFlags,
            fields := [byteOf ((if stored.supervisor then 1 else 0) + (if stored.urgent then 2 else 0)), byteOf stored.quota,
                       byteOf code],
            rateChange := some (target, taken) }).continueDesk desk .clear).settle))

/-- UNMOUNT (R186, R144): OUT-OF-RANGE, NO-DRIVE, IN-USE for a second UNMOUNT and IN-USE for a handle open on the drive when it is
without force, in this order; otherwise the mark is set, with force the handles on the drive are lost, and UNMOUNT waits. The lost
handles are taken one by one in ascending order of desk and handle, while the image stands: each READ-OPEN one, and each write handle
but a COMMITTING one whose version has been placed; each becomes LOST with cause DRIVE-LOST, or FREE if its desk has been reset since,
and no other handle changes. When every catalogue sector of a marked image is CLEAN the drive is torn down to OFFLINE, the REMOVED
event is raised and the waiting UNMOUNT is answered DONE after it; an image with a sector that is not CLEAN, or without the mark,
stays. -/
def Obligations.UnmountWaitsForCleanSectors : Prop :=
  (∀ (desk : Desk) (db force : Byte) (s : State), s.listensTo desk →
    let run := exec (.unmount desk [db, force]) s
    let no := fun (r : Reason) => run = .next (s.refuse desk 0x63 noFlags r)
    (1 < force.toNat → no .outOfRange) ∧
    (force.toNat ≤ 1 → s.imageOf db = none → no .noDrive) ∧
    ∀ d img, force.toNat ≤ 1 → s.imageOf db = some (d, img) →
      let opened := ∃ e h, (∃ r, s.handle e h = .reading r ∧ r.drive = d) ∨ ∃ w, s.handle e h = .writing w ∧ w.drive = d
      let marked := s.setImage d (some { img with unmounting := true })
      (img.unmounting = true → no .inUse) ∧
      (img.unmounting = false → force = 0 → opened → no .inUse) ∧
      (img.unmounting = false → force = 0 → ¬opened → run = .next ((marked.setInProgress desk (some (.unmount d))).settle)) ∧
      (img.unmounting = false → force = 1 →
        let off := fun (u : State) (x : Desk × HandleNo) =>
          let lost := u.loseHandle x.1 x.2 .driveLost .imageStands
          match u.handle x.1 x.2 with
          | .reading r => if r.drive = d then lost else u
          | .writing w => if w.drive = d ∧ ¬(w.state = .committing ∧ w.placed = true) then lost else u
          | _ => u
        let t := ((List.finRange 8).flatMap (fun e => [(e, (0 : HandleNo)), (e, 1)])).foldl off marked
        run = .next ((t.setInProgress desk (some (.unmount d))).settle) ∧
        ∀ e h,
          (∀ r, s.handle e h = .reading r → t.handle e h = if r.drive = d then
            .lost { drive := r.drive, slot := r.slot, slug := r.slug, cls := r.cls, length := r.length, cause := .driveLost }
            else .reading r) ∧
          (∀ w, s.handle e h = .writing w → t.handle e h =
            if w.drive = d ∧ ¬(w.state = .committing ∧ w.placed = true) then
              if w.orphan then .free
              else .lost { drive := w.drive, slot := w.slot, slug := w.slug, cls := w.cls, length := w.length, cause := .driveLost }
            else .writing w) ∧
          ((s.handle e h = .free ∨ ∃ l, s.handle e h = .lost l) → t.handle e h = s.handle e h))) ∧
  (∀ (d : DriveNo) (img : Image) (s : State), s.images[d] = some img →
    let gone := (s.tearDown d .offline none).raise (.removed d)
    (img.unmounting = false → s.completeUnmount d = s) ∧
    ((∃ q : CatNo, img.writes[q] ≠ .clean) → s.completeUnmount d = s) ∧
    (∀ desk : Desk, img.unmounting = true → (∀ q : CatNo, img.writes[q] = .clean) → s.desks[desk].inProgress = some (.unmount d) →
      (∀ e : Desk, e ≠ desk → s.desks[e].inProgress ≠ some (.unmount d)) →
      s.completeUnmount d = (gone.setInProgress desk none).done desk 0x63 noFlags [] .clear))

/-- BREAK-HOLD (R188): BAD-SLUG, NO-DRIVE, NOT-FOUND, NOT-HOLDER and IN-USE in this order; otherwise the slot loses its holder, the
holder's count goes down by one, HOLD-BROKEN is posted to the holder, its WRITE-OPEN or FAILED handle on the story is lost while the
image stands, which leaves it LOST with cause NOT-HOLDER (FREE if its desk has been reset since) and every other handle as it was, the
RELEASED event is raised and BREAK-HOLD is answered DONE. -/
def Obligations.BreakHoldTakesTheHoldAway : Prop :=
  ∀ (desk : Desk) (db : Byte) (chars : List Byte) (s : State), s.listensTo desk → 1 ≤ chars.length → chars.length ≤ 16 →
    let run := exec (.breakHold desk (db :: chars)) s
    let no := fun (r : Reason) => run = .next (s.refuse desk 0x65 noFlags r)
    (slugOf chars = none → no .badSlug) ∧
    ∀ slug, slugOf chars = some slug →
      (s.imageOf db = none → no .noDrive) ∧
      ∀ d img, s.imageOf db = some (d, img) →
        (img.lookupFiled slug = none → no .notFound) ∧
        ∀ n, img.lookupFiled slug = some n →
          let t := img.slots[n]
          (t.holder = none → no .notHolder) ∧
          ∀ e, t.holder = some e →
            let committing := ∃ h w, s.handle e h = .writing w ∧ w.drive = d ∧ w.slot = n ∧ w.state = .committing
            let broken := ((s.setImage d (some { img with slots := img.slots.set n { t with holder := none } })).setDesk e
              { s.desks[e] with holds := s.desks[e].holds - 1 }).post e (.holdBroken d t.slug desk)
            (committing → no .inUse) ∧
            let off := fun (u : State) (h : HandleNo) => match u.handle e h with
              | .writing w =>
                if w.drive = d ∧ w.slot = n ∧ w.state ≠ .committing then u.loseHandle e h .notHolder .imageStands else u
              | _ => u
            let after := off (off broken 0) 1
            (¬committing →
              run = .next (((after.raise (.released d t.slug e t.version)).done desk 0x65 noFlags [] .clear).settle) ∧
              (∀ h w, s.handle e h = .writing w → w.drive = d → w.slot = n → after.handle e h =
                if w.orphan then .free
                else .lost { drive := w.drive, slot := w.slot, slug := w.slug, cls := w.cls, length := w.length, cause := .notHolder }) ∧
              (∀ h, (∀ w, s.handle e h = .writing w → w.drive ≠ d ∨ w.slot ≠ n) → after.handle e h = s.handle e h) ∧
              ∀ g h, g ≠ e → after.handle g h = s.handle g h)

/-- FORMAT (R189, R44, R190): BAD-SLUG, OUT-OF-RANGE, NO-DRIVE, IN-USE and PROTECTED in this order; otherwise the image is discarded,
the drive enters FORMATTING with its attributes clear and a recalibration when its position is unknown, the sequencer takes the drive
at track 0 and asks for its first page, and FORMAT is answered DONE. That a recalibration already running is let run is the model's
choice (log 27), and so is that a MOUNTED drive without an image, as a pass that RESTART lets finish leaves it, is refused IN-USE (log
15). -/
def Obligations.FormatTakesTheDrive : Prop :=
  ∀ (desk : Desk) (db skew verify : Byte) (chars : List Byte) (s : State), s.listensTo desk → 1 ≤ chars.length → chars.length ≤ 12 →
    let run := exec (.format desk (db :: skew :: verify :: chars)) s
    let no := fun (r : Reason) => run = .next (s.refuse desk 0x64 noFlags r)
    let inRange := skew.toNat ≤ 14 ∧ verify.toNat ≤ 1
    (slugOf chars = none → no .badSlug) ∧
    ∀ name, slugOf chars = some name →
      (¬inRange → no .outOfRange) ∧
      (inRange → 3 < db.toNat → no .noDrive) ∧
      ∀ d : DriveNo, inRange → d.val = db.toNat →
        let state := s.drives[d].state
        let opened := ∃ e h, (∃ r, s.handle e h = .reading r ∧ r.drive = d) ∨ ∃ w, s.handle e h = .writing w ∧ w.drive = d
        let mountedFree := ∃ img, s.images[d] = some img ∧ img.unmounting = false ∧ ¬opened ∧
          (∀ n : SlotNo, (img.slots[n]).holder = none) ∧ ∀ q : CatNo, img.writes[q] = .clean
        let free := s.sequencer = none ∧ (state = .blank ∨ state = .offline ∨ (state = .mounted ∧ mountedFree))
        let barred := if state = .mounted then s.drives[d].isProtected = true else s.drives[d].writeProtect = true
        (¬free → no .inUse) ∧
        (free → barred → no .isProtected) ∧
        (free → ¬barred →
          let cleared := s.discardImage d
          let u : DriveUnit := { cleared.drives[d] with state := .formatting, faultCause := none, isProtected := false, damaged := false,
                                                        mount := .clear }
          let entered := if u.position = none ∧ u.motion = .still then (cleared.setDrive d u).startRecal d else cleared.setDrive d u
          let job : FormatJob := { drive := d, name := name, skew := skew.toNat, verify := decide (verify = 1), phase := .tracks,
                                   nextTrack := 0, verifyL := 0, nextQ := 0, bad := [] }
          run = .next ((((entered.setSequencer (some job)).joinSystem .format).done desk 0x64 noFlags [] .clear).settle))

/-- TALLY (R192, R82): OUT-OF-RANGE for a set above 1, a number above 3 or 7, or a clear byte above 1; otherwise DONE with the
counters of the set in their order, two bytes each, as they stand, and with them set to 0 when the request asks for it. -/
def Obligations.TallyReportsAndClears : Prop :=
  ∀ (desk : Desk) (set number clear : Byte) (s : State), s.listensTo desk →
    let run := exec (.tally desk [set, number, clear]) s
    ((1 < set.toNat ∨ 1 < clear.toNat ∨ (set = 0 ∧ 3 < number.toNat) ∨ (set = 1 ∧ 7 < number.toNat)) →
      run = .next (s.refuse desk 0x66 noFlags .outOfRange)) ∧
    (∀ d : DriveNo, set = 0 → clear.toNat ≤ 1 → d.val = number.toNat →
      let c := s.driveTallies[d]
      run = .next ((if clear = 1 then { s with driveTallies := s.driveTallies.set d ⟨0, 0, 0, 0, 0, 0, 0⟩ } else s).done desk 0x66 noFlags
        (twoBytes c.sectorsRead ++ twoBytes c.sectorsWritten ++ twoBytes c.failedAttempts ++ twoBytes c.hardFailures
          ++ twoBytes c.recalibrations ++ twoBytes c.relocations ++ twoBytes c.speedFaults) .clear)) ∧
    (∀ e : Desk, set = 1 → clear.toNat ≤ 1 → e.val = number.toNat →
      let c := s.deskTallies[e]
      run = .next ((if clear = 1 then { s with deskTallies := s.deskTallies.set e ⟨0, 0⟩ } else s).done desk 0x66 noFlags
        (twoBytes c.framesDiscarded ++ twoBytes c.requestsRefused) .clear))

/-- RESTART (R193, R174, R20, R83): the reply is made first and no other line hears anything; every desk context is reset; every drive
that is not DISABLED loses its image and its handles, and without a WRITE-VERIFY pass to finish takes its state by READY and
auto-mount; a DISABLED drive stays DISABLED with the rest of its record at the values of R20; every page but that of a finishing pass
is free and the waiter lists are empty (nothing that one desk's reset frees is served before the next, log 32); the sequencer is idle;
settings, rights, quotas, tallies, sequence counter and tick count are kept. The channel (R57, R64, R74): a pass in progress is
aborted, grant, wait list and pass record are empty, and no drive has work or a run; except that a WRITE-VERIFY pass goes on (R75):
marked finishing, with its grant, HEAD-SELECT, WRITE-GATE and request in hand, its page, unless something else holds it too, now held
by the finishing pass, its drive with no other work; that the drive keeps its state and mechanism until the pass ends is log 15. -/
def Obligations.RestartResetsDesksAndDrives : Prop :=
  ∀ (desk : Desk) (s : State), s.listensTo desk →
    ∃ t, exec (.restart desk []) s = .next t ∧
      t.lines = (s.done desk 0x67 noFlags [] .clear).lines ∧
      (∀ e : Desk, t.desks[e] = { inProgress := none, continuation := .none, cursor := 0, holds := 0,
                                  watches := Vector.replicate 4 none, driveSet := 0, filingsSet := 0, notices := [] }) ∧
      let fresh := fun (u : DriveUnit) (st : DriveState) =>
        { u with state := st, isProtected := false, damaged := false, faultCause := none, position := none, head := .unloaded,
                 idleCount := 0, elapsed := 0, period := 1667, badRun := 0, reference := false, validCount := 0, latches := [],
                 pendingRecal := false, mount := .clear, motion := .still }
      (∀ d : DriveNo, s.drives[d].state = .disabled → t.drives[d] = fresh s.drives[d] .disabled) ∧
      (∀ d : DriveNo, s.drives[d].state ≠ .disabled →
        t.images[d] = none ∧ (∀ e h, (t.handle e h).openOn d = false) ∧
        ((∀ p r, s.passOf = some (p, r) → p.drive = d → r.operation ≠ .writeVerify) →
          t.scheds[d].workList = [] ∧ t.scheds[d].inHand = none ∧
          t.drives[d] =
            fresh s.drives[d] (if s.drives[d].ready then (if s.settings[d].autoMount then .spinCheck else .offline) else .empty))) ∧
      (∀ p : PageNo, t.pool.pages[p] = none ∨ ∃ x, t.pool.pages[p] = some x ∧ x.holder = .finishingPass) ∧
      t.pool.waiters = [] ∧ t.pool.sysWaiters = [] ∧ t.sequencer = none ∧ t.channel.waitList = [] ∧
      ((∀ p r, s.passOf = some (p, r) → r.operation = .writeVerify → s.drives[p.drive].state = .disabled) →
        t.channel.grant = none ∧ t.channel.pass = none ∧ t.channel.headSelect = s.channel.headSelect ∧
        (s.channel.pass ≠ none → t.channel.writeGate = false ∧ t.channel.writeData = .none) ∧
        ∀ d : DriveNo, t.scheds[d] = { workList := [], inHand := none, runLength := 0 }) ∧
      (∀ p r, s.channel.pass = some p → s.scheds[p.drive].inHand = some ⟨r, .passing⟩ → r.operation = .writeVerify →
        s.drives[p.drive].state ≠ .disabled →
        let d := p.drive
        (∃ withdrawn,
          t.channel = { s.channel with grant := if s.channel.grant = some d then some d else none, waitList := [],
                                       pass := some { p with finishing := true, withdrawn := withdrawn } }) ∧
        t.scheds[d] = { s.scheds[d] with workList := [] } ∧
        (∀ e : DriveNo, e ≠ d → t.scheds[e] = { workList := [], inHand := none, runLength := 0 }) ∧
        t.drives[d] = { s.drives[d] with pendingRecal := false, isProtected := false, damaged := false, mount := .clear } ∧
        ((∀ e : DriveNo, r.page ∉ (s.scheds[e].workList).map SectorRequest.page) →
          (∀ (e : DriveNo) q phase, e ≠ d → s.scheds[e].inHand = some ⟨q, phase⟩ → q.page ≠ r.page) →
          (∀ e h x, s.handle e h = .reading x → .reading r.page ∉ x.table ∧ .present r.page ∉ x.table) →
          (∀ e h x, s.handle e h = .writing x → .filling r.page ∉ x.table ∧ .writing r.page ∉ x.table) →
          ∀ x, s.pool.pages[r.page] = some x → t.pool.pages[r.page] = some { x with holder := .finishingPass, awaited := false })) ∧
      t.settings = s.settings ∧ t.deskSettings = s.deskSettings ∧ t.driveTallies = s.driveTallies ∧
      t.deskTallies = s.deskTallies ∧ t.seq = s.seq ∧ t.tick = s.tick ∧ t.pending = s.pending

/-- A teardown (R43, R64, R120, R144, R195) leaves the drive in its state with its mechanism stopped, no work, no grant, no pass, no
page wait, no image, no format and no handle open on it; nothing of the other drives changes: their records, work, images, grant,
pass, places in the wait list and for system pages, and the handles open on them. The event of the teardown is raised after the
HANDLE-LOST notices, which each desk gets for its handles that were lost, handle 0 first, and after it a desk whose UNMOUNT of the
drive waits is answered FAILED DRIVE-LOST (R187), with the notices of that moment counted. -/
def Obligations.TeardownTakesTheDriveOutOfUse : Prop :=
  ∀ (s : State) (d : DriveNo) (st : DriveState) (cause : Option FaultCause) (ev : Event),
    let t := s.leaveUse d st cause ev
    t.drives[d] =
      { s.drives[d] with state := st, faultCause := cause, motion := .still, position := none, head := .unloaded, idleCount := 0,
                         pendingRecal := false, isProtected := false, damaged := false, mount := .clear } ∧
    t.scheds[d].workList = [] ∧ t.scheds[d].inHand = none ∧ t.images[d] = none ∧
    t.channel.grant ≠ some d ∧ (∀ c, (d, c) ∉ t.channel.waitList) ∧ (∀ p, t.channel.pass = some p → p.drive ≠ d) ∧
    (∀ w ∈ t.pool.sysWaiters, SystemWaiter.ofDrive d w = false) ∧
    (∀ j, t.sequencer = some j → j.drive ≠ d) ∧
    (∀ e h, (t.handle e h).openOn d = false) ∧
    (∀ e : DriveNo, e ≠ d →
      t.drives[e] = s.drives[e] ∧ t.scheds[e] = s.scheds[e] ∧ t.images[e] = s.images[e] ∧
      (s.channel.grant = some e → t.channel.grant = some e) ∧
      (∀ p, s.channel.pass = some p → p.drive = e → t.channel.pass = some p)) ∧
    t.channel.waitList = s.channel.waitList.filter (fun x => x.1 ≠ d) ∧
    (∀ w, w ∈ s.pool.sysWaiters → SystemWaiter.ofDrive d w = false → w ≠ .format → w ∈ t.pool.sysWaiters) ∧
    (∀ e h, (s.handle e h).openOn d = false → t.handle e h = s.handle e h) ∧
    t.settings = s.settings ∧ t.deskSettings = s.deskSettings ∧ t.driveTallies = s.driveTallies ∧
    let torn := s.tearDown d st cause
    let raised := torn.raise ev
    t = raised.failUnmounts d ∧
    ∀ e : Desk,
      let told := fun (queue : List Notice) (h : HandleNo) => match s.handle e h with
        | .reading r => if r.drive = d then appendNotice queue (.handleLost e h .driveLost) else queue
        | .writing w => if w.drive = d ∧ w.orphan = false then appendNotice queue (.handleLost e h .driveLost) else queue
        | _ => queue
      torn.desks[e].notices = told (told s.desks[e].notices 0) 1 ∧
      (s.desks[e].inProgress = some (.unmount d) →
        t.desks[e] = { raised.desks[e] with inProgress := none, continuation := .none, cursor := 0 } ∧
        t.lines[e] = { raised.lines[e] with
          replies := raised.lines[e].replies ++
            [⟨0x63, .failed, some .driveLost, raised.desks[e].notices.length, noFlags, [], none⟩] }) ∧
      (s.desks[e].inProgress ≠ some (.unmount d) → t.desks[e] = raised.desks[e] ∧ t.lines[e] = raised.lines[e])

/-! ### Desk lines -/

/-- Characters meet the receive state (R160, R163): a byte with a marking stop bit and one with a spacing stop bit (a framing error),
in each of the five states. In CHECK the second byte completes the frame, which is judged (R165): a check that differs and a reply
queue of 4 or more discard it and count it; otherwise its body goes to the desk's context, by its kind byte, and the line hunts again.
The level that a character leaves on RXD, for the break timer, is the model's reading of R166 (log 9). -/
def Obligations.CharactersMakeFramesThatAreJudged : Prop :=
  (∀ (desk : Desk) (b : Byte) (s : State), s.powerGood = true →
    let run := exec (.byteReceived desk b) s
    let bad := exec (.framingError desk) s
    let heard : LineUnit := { s.lines[desk] with spacing := false, breakTimer := 0 }
    let becomes := fun (r : Receive) => run = .next (s.setLine desk { heard with receive := r, gap := some 0 })
    let discarded := fun (l : LineUnit) =>
      (s.setLine desk { l with receive := .hunting, gap := none }).setDeskTally desk
        { s.deskTallies[desk] with framesDiscarded := min (s.deskTallies[desk].framesDiscarded + 1) 65535 }
    let spaced : LineUnit := { s.lines[desk] with spacing := true }
    let cutOff := bad = .next (discarded spaced)
    (s.lines[desk].receive = .hunting →
      (b = 0xA7 → becomes .length) ∧ (b ≠ 0xA7 → run = .next (s.setLine desk heard)) ∧ bad = .next (s.setLine desk spaced)) ∧
    (s.lines[desk].receive = .length →
      (1 ≤ b.toNat → b.toNat ≤ 200 → becomes (.body b.toNat [])) ∧
      ((b.toNat = 0 ∨ 200 < b.toNat) → run = .next (discarded heard)) ∧ cutOff) ∧
    (∀ len bytes, s.lines[desk].receive = .body len bytes →
      (bytes.length + 1 = len → becomes (.check len (bytes ++ [b]) none)) ∧
      (bytes.length + 1 ≠ len → becomes (.body len (bytes ++ [b]))) ∧ cutOff) ∧
    (∀ len bytes, s.lines[desk].receive = .check len bytes none → becomes (.check len bytes (some b)) ∧ cutOff) ∧
    (∀ len bytes hi, s.lines[desk].receive = .check len bytes (some hi) →
      run = .next ((s.setLine desk heard).judge desk len bytes (BitVec.ofNat 16 (hi.toNat * 256 + b.toNat))) ∧ cutOff) ∧
    (s.lines[desk].receive = .inBreak → run = .next s ∧ bad = .next s)) ∧
  (∀ (desk : Desk) (len : Nat) (kind : Byte) (fields : List Byte) (check : Check) (s : State), s.powerGood = true →
    let hunting : LineUnit := { s.lines[desk] with receive := .hunting, gap := none }
    let discarded := (s.setLine desk hunting).setDeskTally desk
      { s.deskTallies[desk] with framesDiscarded := min (s.deskTallies[desk].framesDiscarded + 1) 65535 }
    let sound := check = checkOf (byteOf len :: kind :: fields)
    (¬sound → s.judge desk len (kind :: fields) check = discarded) ∧
    (sound → 4 ≤ s.lines[desk].replies.length → s.judge desk len (kind :: fields) check = discarded) ∧
    (sound → s.lines[desk].replies.length < 4 →
      (∀ k : Kind, k.code = kind →
        exec (k.command desk fields) (s.setLine desk hunting) = .next (s.judge desk len (kind :: fields) check)) ∧
      ((∀ k : Kind, k.code ≠ kind) →
        s.judge desk len (kind :: fields) check = (s.setLine desk hunting).refuse desk kind noFlags .illegalKind)))

/-- A frame sent byte by byte in HUNTING, with fewer than 4 replies queued, is taken as the request in its body (R162, R163, R165,
R168): LEAD, LEN, body and the check over LEN and body, high byte first, have the same effect as the body's command. The level of RXD
and the break timer that the bytes leave are the model's reading (log 9). -/
def Obligations.FrameOfBytesIsTakenAsItsCommand : Prop :=
  ∀ (desk : Desk) (k : Kind) (fields : List Byte) (s : State),
    s.powerGood = true → s.lines[desk].receive = .hunting → s.lines[desk].replies.length < 4 → fields.length ≤ 199 →
    let body := k.code :: fields
    let check := checkOf (byteOf body.length :: body)
    let frame := 0xA7 :: byteOf body.length :: body ++ [byteOf (check.toNat / 256), byteOf (check.toNat % 256)]
    runCommands (frame.map (Instr.byteReceived desk)) s =
      exec (k.command desk fields)
        (s.setLine desk { s.lines[desk] with spacing := false, breakTimer := 0, receive := .hunting, gap := none })

/-- The gap of 200 ticks and the line break (R164, R166, R181): a partial frame is discarded and counted, in HUNTING and BREAK a gap
does nothing (log 2); a break empties the reply queue and resets the desk, whose context is then the power-on one with rights, quota
and tallies kept; the character in progress of the reply being sent is left to finish (how much of it is left is log 10), with the
rate it carries when it is the last one of a DESK-SET reply (R161); a reply that has been sent whole leaves first; the first marking
sample ends it; a break that is on already resets nothing again. The level and the break timer are log 9; that a rate is taken with
such a character, and not when a break cuts the reply off before it, is log 11. The last stop bit of a reply (R167, R161): the oldest
reply leaves the queue (while the last character that a break left carries a rate, the last stop bit is that character's, log 10); a
DESK-SET reply's rate is then taken by the target's line, which discards a partial frame, unless it has that rate already; what is
being sent then on the target's line finishes at the old rate (R184). The desk reset (R181, R182), in order: the request in progress
is dropped (a GET or PUT leaves the page waiters, a FILE goes on, a SPIKE not yet carried is taken back, the mark of an UNMOUNT is
cleared); each handle ends by its state, a COMMITTING one staying with the mark of the reset; the holds that remain are released in
ascending order of drive and slot, each with its RELEASED event; the context is cleared. -/
def Obligations.GapsBreaksAndSentReplies : Prop :=
  (∀ (desk : Desk) (s : State), s.powerGood = true →
    let l := s.lines[desk]
    let counted := { s.deskTallies[desk] with framesDiscarded := min (s.deskTallies[desk].framesDiscarded + 1) 65535 }
    let partly := l.receive ≠ .hunting ∧ l.receive ≠ .inBreak
    (partly → exec (.interByteTimeout desk) s =
      .next ((s.setLine desk { l with receive := .hunting, gap := none }).setDeskTally desk counted)) ∧
    (¬partly → exec (.interByteTimeout desk) s = .next s) ∧
    (l.receive = .inBreak →
      exec (.lineBreak desk) s = .next s ∧
      exec (.lineBreakEnd desk) s =
        .next (s.setLine desk { l with receive := .hunting, gap := none, spacing := false, breakTimer := 0 })) ∧
    (l.receive ≠ .inBreak →
      exec (.lineBreakEnd desk) s = .next (s.setLine desk { l with spacing := false, breakTimer := 0 }) ∧
      let whole := l.cutOff = none ∧ ∃ r rest, l.replies = r :: rest ∧ 100000 * r.frame.length ≤ l.progress
      ∀ u : State, (whole → exec (.replySent desk) s = .next u) → (¬whole → u = s) →
        let m := u.lines[desk]
        let inFrame := m.receive ≠ .hunting ∧ m.receive ≠ .inBreak
        let countedHere := { u.deskTallies[desk] with framesDiscarded := min (u.deskTallies[desk].framesDiscarded + 1) 65535 }
        let left : Option Nat := match m.cutOff, m.replies with
          | some n, _ => some n
          | none, [] => none
          | none, r :: _ => if m.progress < 100000 * r.frame.length then some (100000 - m.progress % 100000) else none
        let carried : Option (Desk × Rate) := match m.cutOff, m.replies with
          | some _, _ => m.cutRate
          | none, [] => none
          | none, r :: _ => if 100000 * (r.frame.length - 1) ≤ m.progress then r.rateChange else none
        let broken : LineUnit :=
          { m with receive := .inBreak, gap := none, breakTimer := 1000, spacing := true, replies := [], progress := 0, cutOff := left,
                   cutRate := carried, oldRate := if left = none then none else m.oldRate }
        ∃ t : State, exec (.lineBreak desk) s = .next t.settle ∧
          t = ((if inFrame then u.setDeskTally desk countedHere else u).setLine desk broken).deskReset desk ∧
          t.lines = u.lines.set desk broken ∧
          t.desks[desk] = { inProgress := none, continuation := .none, cursor := 0, holds := 0,
                            watches := Vector.replicate 4 none, driveSet := 0, filingsSet := 0, notices := [] } ∧
          t.deskSettings = s.deskSettings ∧
          t.deskTallies = (if inFrame then u.deskTallies.set desk countedHere else u.deskTallies) ∧
          ∀ h : HandleNo, t.handle desk h = .free ∨
            ∃ w, s.handle desk h = .writing w ∧ w.state = .committing ∧ t.handle desk h = .writing { w with orphan := true })) ∧
  (∀ (desk : Desk) (s : State), s.powerGood = true →
    let run := exec (.replySent desk) s
    let l := s.lines[desk]
    let takes := fun (u : State) (target : Desk) (rate : Rate) =>
      u.takeRate target (decide (target ≠ desk ∧ (u.lines[target].replies ≠ [] ∨ u.lines[target].cutOff ≠ none))) rate
    (∀ target rate, l.cutRate = some (target, rate) →
      run = .next (takes (s.setLine desk { l with cutOff := none, cutRate := none, oldRate := none }) target rate)) ∧
    (l.cutRate = none → l.replies = [] → run = .next s) ∧
    ∀ r rest, l.cutRate = none → l.replies = r :: rest →
      let left := s.setLine desk { l with replies := rest, progress := 0, oldRate := none, cutOff := none }
      (r.rateChange = none → run = .next left) ∧
      ∀ target rate, r.rateChange = some (target, rate) → run = .next (takes left target rate)) ∧
  (∀ (s : State) (target : Desk) (sending : Bool) (rate : Rate),
    let l := s.lines[target]
    let changed := { l with rate := rate, oldRate := if sending then some (l.oldRate.getD l.rate) else none }
    (l.rate = rate → s.takeRate target sending rate = s) ∧
    (l.rate ≠ rate → (l.receive = .hunting ∨ l.receive = .inBreak) → s.takeRate target sending rate = s.setLine target changed) ∧
    (l.rate ≠ rate → l.receive ≠ .hunting → l.receive ≠ .inBreak →
      s.takeRate target sending rate =
        (s.setLine target { changed with receive := .hunting, gap := none }).setDeskTally target
          { s.deskTallies[target] with framesDiscarded := min (s.deskTallies[target].framesDiscarded + 1) 65535 })) ∧
  (∀ (desk : Desk) (s : State),
    (s.desks[desk].inProgress = none → s.dropInProgress desk = s) ∧
    (∀ w, s.desks[desk].inProgress = some w →
      let drops := fun (u : State) => s.dropInProgress desk = u.setInProgress desk none
      (∀ on h offset n, w = .get on h offset n → drops (s.leaveWaiters desk)) ∧
      (∀ on h offset data, w = .put on h offset data → drops (s.leaveWaiters desk)) ∧
      (∀ h, w = .file h → drops s) ∧
      (∀ d n lowered, w = .spike d n lowered →
        ((s.slot d n).carried = true → drops s) ∧ ((s.slot d n).carried = false → drops (s.takeBackRemoval d n))) ∧
      ∀ d, w = .unmount d →
        (s.images[d] = none → drops s) ∧
        ∀ img, s.images[d] = some img → drops (s.setImage d (some { img with unmounting := false }))) ∧
    (∀ h : HandleNo,
      (s.handle desk h = .free → s.endHandle desk h = s) ∧
      (∀ l, s.handle desk h = .lost l → s.endHandle desk h = s.setHandle desk h .free) ∧
      (∀ r, s.handle desk h = .reading r → s.endHandle desk h =
        ((s.giveUpReads r.drive r.table).unbind r.drive r.slot r.binding).setHandle desk h .free) ∧
      ∀ w, s.handle desk h = .writing w →
        (w.state = .committing → s.endHandle desk h = s.setHandle desk h (.writing { w with orphan := true })) ∧
        (w.state ≠ .committing →
          let given := (s.giveUpWrites w.drive w.table).giveBack w.drive w.reservation
          let gone := if w.mode = .new then (given.releaseWithEvent w.drive w.slot).setSlot w.drive w.slot Slot.free else given
          s.endHandle desk h = gone.setHandle desk h .free)) ∧
    (∀ d img, s.images[d] = some img →
      (s.heldBy d desk).Pairwise (fun m n => m < n) ∧ (∀ n, n ∈ s.heldBy d desk ↔ (img.slots[n]).holder = some desk) ∧
      ∀ n, (img.slots[n]).holder = some desk →
        let t := img.slots[n]
        s.releaseWithEvent d n =
          ((s.setImage d (some { img with slots := img.slots.set n { t with holder := none } })).setDesk desk
            { s.desks[desk] with holds := s.desks[desk].holds - 1 }).raise (.released d t.slug desk t.version)) ∧
    (∀ d, s.images[d] = none → s.heldBy d desk = []) ∧
    let onDrive := fun (u : State) (d : DriveNo) => (u.heldBy d desk).foldl (fun v n => v.releaseWithEvent d n) u
    s.releaseHolds desk = onDrive (onDrive (onDrive (onDrive s 0) 1) 2) 3 ∧
    s.deskReset desk =
      ((((s.dropInProgress desk).endHandle desk 0).endHandle desk 1).releaseHolds desk).setDesk desk
        { inProgress := none, continuation := .none, cursor := 0, holds := 0, watches := Vector.replicate 4 none, driveSet := 0,
          filingsSet := 0, notices := [] })

/-! ### Drives -/

/-- READY and WRITE-PROTECT edges (R22 to R25): in DISABLED only the pin's level changes; otherwise the edge is taken after any that
are latched. A falling edge tears the drive down to EMPTY with a REMOVED event and stops the timer, P kept. A rising edge in EMPTY
starts the timer afresh with P 1,667 and leads to SPIN-CHECK or OFFLINE by auto-mount; that it has no effect in any other state is the
model's choice (log 8). In MOUNTED protected follows WRITE-PROTECT. -/
def Obligations.EdgesMoveTheDrive : Prop :=
  ∀ (d : DriveNo) (active : Bool) (s : State), s.powerGood = true →
    let u := s.drives[d]
    let taken := fun (t : State) (e : Edge) =>
      ((u.latches ++ [e]).foldl (fun t e => t.takeEdge d e) (t.setDrive d { t.drives[d] with latches := [] })).settle
    let low := s.setDrive d { u with ready := false }
    let high := s.setDrive d { u with ready := true }
    let protect := s.setDrive d { u with writeProtect := active }
    (u.state = .disabled →
      exec (.readyFalling d) s = .next low ∧ exec (.readyRising d) s = .next high ∧
      exec (.writeProtectChange d active) s = .next protect) ∧
    (u.state ≠ .disabled →
      exec (.readyFalling d) s = .next (taken low .readyFalls) ∧ exec (.readyRising d) s = .next (taken high .readyRises) ∧
      exec (.writeProtectChange d active) s = .next (taken protect (.protectChanges active))) ∧
    (∀ t : State,
      let gone := t.leaveUse d .empty none (.removed d)
      let v := t.drives[d]
      t.takeEdge d .readyFalls =
        gone.setDrive d { gone.drives[d] with elapsed := 0, reference := false, badRun := 0, validCount := 0 } ∧
      (v.state ≠ .empty → t.takeEdge d .readyRises = t) ∧
      (v.state = .empty → t.takeEdge d .readyRises =
        t.setDrive d { v with state := if t.settings[d].autoMount then .spinCheck else .offline, faultCause := none, elapsed := 0,
                              reference := false, badRun := 0, validCount := 0, period := 1667, position := none }) ∧
      (v.state ≠ .mounted → t.takeEdge d (.protectChanges active) = t) ∧
      (v.state = .mounted → t.takeEdge d (.protectChanges active) = t.setDrive d { v with isProtected := active }))

/-- An index pulse on a turning drive (R27 to R30): the first sets the reference flag; a capture of 1,500 to 1,833 ticks becomes P,
clears the bad-period run and in SPIN-CHECK counts, the third in a row leading to MOUNTING; any other capture keeps P, counts in the
run and in SPIN-CHECK clears the count, the third in a row being a speed fault. Then come the idle revolution and the pass (R67);
their order is the model's choice (log 12). With READY low or in DISABLED a pulse does nothing. A speed fault (R29), which
NO_INDEX_TIMEOUT is on a turning drive, restarts the timer, and in SPIN-CHECK, MOUNTING, MOUNTED and FORMATTING the tally counts and
the drive is torn down to FAULTED with cause SPEED and its event. An idle revolution (R35): with the head LOADED, the drive in use and
nothing in hand, the idle count goes up by one, stops at 60, and at a head-idle setting of 1 to 60 that it reaches the head is
unloaded and the count is 0. -/
def Obligations.IndexPulsesAreCaptured : Prop :=
  (∀ (d : DriveNo) (s : State), s.powerGood = true →
    let u := s.drives[d]
    let turning := u.ready = true ∧ u.state ≠ .disabled
    let spin := u.state = .spinCheck
    let valid := 1500 ≤ u.elapsed ∧ u.elapsed ≤ 1833
    let went := fun (t : State) => exec (.indexPulse d) s = .next (((t.idleRevolution d).passPulse d).settle)
    let good : DriveUnit := { u with period := u.elapsed, elapsed := 0, badRun := 0,
                                     validCount := if spin then u.validCount + 1 else u.validCount }
    let missed : DriveUnit := { u with elapsed := 0, badRun := u.badRun + 1, validCount := if spin then 0 else u.validCount }
    (¬turning → exec (.indexPulse d) s = .next s) ∧
    (turning → u.reference = false → went (s.setDrive d { u with elapsed := 0, reference := true })) ∧
    (turning → u.reference = true → valid → ¬(spin ∧ u.validCount = 2) → went (s.setDrive d good)) ∧
    (turning → u.reference = true → valid → spin → u.validCount = 2 →
      went ((s.setDrive d { good with state := .mounting, faultCause := none, mount := .clear, validCount := 0 }).startRecal d)) ∧
    (turning → u.reference = true → ¬valid → u.badRun < 2 → went (s.setDrive d missed)) ∧
    (turning → u.reference = true → ¬valid → 2 ≤ u.badRun → went ((s.setDrive d missed).speedFault d))) ∧
  (∀ (d : DriveNo) (s : State),
    let u := s.drives[d]
    let idle := (u.state = .mounting ∨ u.state = .mounted ∨ u.state = .formatting) ∧ u.head = .loaded ∧ s.scheds[d].inHand = none
    let n := min 60 (u.idleCount + 1)
    let setting := s.settings[d].headIdle
    (¬idle → s.idleRevolution d = s) ∧
    (idle → 1 ≤ setting → setting ≤ n → s.idleRevolution d = s.setDrive d { u with head := .unloaded, idleCount := 0 }) ∧
    (idle → (setting = 0 ∨ n < setting) → s.idleRevolution d = s.setDrive d { u with idleCount := n })) ∧
  (∀ (d : DriveNo) (s : State),
    let u := s.drives[d]
    let restarted := s.setDrive d { u with elapsed := 0, reference := false, badRun := 0 }
    let inService := u.state = .spinCheck ∨ u.state = .mounting ∨ u.state = .mounted ∨ u.state = .formatting
    (inService → s.speedFault d =
      (restarted.setDriveTally d { s.driveTallies[d] with speedFaults := min (s.driveTallies[d].speedFaults + 1) 65535 }).leaveUse d
        .faulted (some .speed) (.faulted d .speed)) ∧
    (¬inService → s.speedFault d = restarted) ∧
    (s.powerGood = true →
      ((u.ready = true ∧ u.state ≠ .disabled) → exec (.noIndexTimeout d) s = .next (s.speedFault d).settle) ∧
      (¬(u.ready = true ∧ u.state ≠ .disabled) → exec (.noIndexTimeout d) s = .next s)))

/-- The expiries of the mechanism (R31, R32, R34, R36): a step interval of a seek issues the next pulse toward the target or starts
the settle; one of a recalibration samples TRACK-ZERO and issues the next pulse, starts the settle, or after 80 pulses is a TRACK-ZERO
fault; a settle completes the seek or the recalibration; a head-load time makes the head LOADED. An expiry with nothing of its kind
running changes the TRACK-ZERO level it carries at most (log 2, log 5). So a seek of k cylinders issues k pulses, one when it starts
and one at each of the next k - 1 step expiries, each moving the position one cylinder toward the target, and the expiry after the
last pulse starts the settle time (R31). -/
def Obligations.ExpiriesMoveTheMechanism : Prop :=
  (∀ (d : DriveNo) (zero : Bool) (s : State), s.powerGood = true →
    let u : DriveUnit := { s.drives[d] with trackZero := zero }
    let becomes := fun (c : Instr) (v : DriveUnit) => exec c s = .next (s.setDrive d v).settle
    let next := fun (position target : Nat) => if position < target then position + 1 else position - 1
    (∀ target x i n, u.motion = .seekStep target x i n →
      (u.position = some target → becomes (.stepIntervalExpiry d zero) { u with motion := .seekSettle target x }) ∧
      (∀ c, u.position = some c → c ≠ target →
        becomes (.stepIntervalExpiry d zero)
          { u with position := some (next c target), stepPulses := u.stepPulses + 1, motion := .seekStep target x i i })) ∧
    ((∀ target x i n, u.motion ≠ .seekStep target x i n) → becomes (.stepIntervalExpiry d zero) u) ∧
    (∀ pulses x i n, u.motion = .recalStep pulses x i n →
      (zero = true → becomes (.recalibrationStepExpiry d zero) { u with motion := .recalSettle x }) ∧
      (zero = false → pulses < 80 → becomes (.recalibrationStepExpiry d zero)
        { u with stepPulses := u.stepPulses + 1, motion := .recalStep (pulses + 1) x i i }) ∧
      (zero = false → 80 ≤ pulses → exec (.recalibrationStepExpiry d zero) s =
        .next ((s.setDrive d u).leaveUse d .faulted (some .trackZero) (.faulted d .trackZero)).settle)) ∧
    ((∀ pulses x i n, u.motion ≠ .recalStep pulses x i n) → becomes (.recalibrationStepExpiry d zero) u) ∧
    (∀ target n, s.drives[d].motion = .seekSettle target n →
      becomes (.settleExpiry d) { s.drives[d] with motion := .still, position := some target }) ∧
    (∀ n, s.drives[d].motion = .recalSettle n →
      let v : DriveUnit := { s.drives[d] with motion := .still, position := some 0 }
      (¬(v.state = .mounting ∧ v.mount.labelAsked = false) → becomes (.settleExpiry d) v) ∧
      (v.state = .mounting → v.mount.labelAsked = false →
        exec (.settleExpiry d) s =
          .next ((s.setDrive d { v with mount := { v.mount with labelAsked := true } }).joinSystem (.mount d)).settle)) ∧
    ((∀ target n, s.drives[d].motion ≠ .seekSettle target n) → (∀ n, s.drives[d].motion ≠ .recalSettle n) →
      exec (.settleExpiry d) s = .next s.settle) ∧
    (∀ n, s.drives[d].head = .loading n → becomes (.headLoadExpiry d) { s.drives[d] with head := .loaded }) ∧
    ((∀ n, s.drives[d].head ≠ .loading n) → becomes (.headLoadExpiry d) s.drives[d])) ∧
  (∀ (u : DriveUnit) (st : Settings) (position target j : Nat), position ≠ target →
    let k := (position - target) + (target - position)
    let started := u.startSeek st position target
    let after := fun (n : Nat) => (DriveUnit.seekExpires^[n]) started
    (started.direction = decide (position < target)) ∧
    (j < k → (after j).stepPulses = j + 1 ∧
      (after j).position = some (if position < target then position + (j + 1) else position - (j + 1)) ∧
      (after j).motion = .seekStep target st.settle st.stepInterval st.stepInterval ∧
      (after j).direction = started.direction) ∧
    (after k).motion = .seekSettle target st.settle ∧ (after k).stepPulses = k ∧ (after k).position = some target)

/-- MOUNT (R185, R39): NO-DRIVE above 3, IN-USE outside OFFLINE; in OFFLINE the drive goes to SPIN-CHECK with the valid-capture count
at 0, P, the reference flag and the bad-period run kept, and MOUNT is answered DONE. The mount sequence (R36 to R38): the page
granted, the label's READ is placed, URGENT; a label that is not accepted or not read sends the drive to BLANK, its head unloaded and
its work list empty. Then each catalogue sector is read, the page for the next one asked for when one is granted; its records are kept
that pass their examination, and a discarded record or a sector given up marks the mount damaged. When all 29 have come back the
cross-record examination is made, the image is built from what it accepts (R96, R100), protected follows the line, and the drive is
MOUNTED with its event. -/
def Obligations.MountReadsLabelAndCatalogue : Prop :=
  (∀ (desk : Desk) (db : Byte) (s : State), s.listensTo desk →
    let run := exec (.mount desk [db]) s
    (3 < db.toNat → run = .next (s.refuse desk 0x62 noFlags .noDrive)) ∧
    ∀ d : DriveNo, d.val = db.toNat →
      (s.drives[d].state ≠ .offline → run = .next (s.refuse desk 0x62 noFlags .inUse)) ∧
      (s.drives[d].state = .offline →
        run = .next ((s.setDrive d { s.drives[d] with state := .spinCheck, faultCause := none, validCount := 0 }).done desk 0x62
          noFlags [] .clear))) ∧
  (∀ (s : State) (d : DriveNo) (p : PageNo),
    let m := s.drives[d].mount
    let taken := s.setPool { s.pool with sysWaiters := s.pool.sysWaiters.tail }
    (m.label = none → s.grantSystem (.mount d) p =
      (taken.holdPage p (.mountRead d .label)).place d ⟨0, 0, 0⟩ .read p .mountLabel .urgent) ∧
    ∀ (l : Label) (q : CatNo), m.label = some l → m.nextQ = q.val →
      let placed := ((taken.holdPage p (.mountRead d (.catalogue q))).setDrive d
        { s.drives[d] with mount := { m with nextQ := q.val + 1 } }).place d
          (if q.val ≤ 13 then ⟨0, 0, q.val + 1⟩ else ⟨0, 1, q.val - 14⟩) .read p (.mountCatalogue q) .urgent
      (q.val < 28 → s.grantSystem (.mount d) p = placed.joinSystem (.mount d)) ∧
      (q.val = 28 → s.grantSystem (.mount d) p = placed)) ∧
  (∀ (s : State) (d : DriveNo) (q : CatNo) (p : PageNo),
    let m := s.drives[d].mount
    let freed := s.freePage p
    let cleared := (freed.clearWorkList d).leaveSystem (SystemWaiter.ofDrive d)
    let blank := cleared.setDrive d
      { s.drives[d] with state := .blank, faultCause := none, head := .unloaded, idleCount := 0, mount := .clear }
    let returned := fun (x : MountRecord) =>
      let stored := freed.setDrive d { s.drives[d] with mount := { x with returned := m.returned + 1 } }
      if m.returned = 28 then stored.completeMount d else stored
    let found := examineSector q (s.pageBytes p)
    (labelOf (s.pageBytes p) = none → s.mountLabelDone d p = blank) ∧
    (∀ l, labelOf (s.pageBytes p) = some l →
      s.mountLabelDone d p =
        (freed.setDrive d { s.drives[d] with mount := { m with label := some l } }).joinSystem (.mount d)) ∧
    s.mountLabelFailed d p = blank ∧
    s.mountCatalogueDone d q p = returned { m with kept := m.kept ++ found.1, damaged := m.damaged || found.2 } ∧
    s.mountCatalogueFailed d q p = returned { m with givenUp := m.givenUp ++ [q], damaged := true }) ∧
  (∀ (s : State) (d : DriveNo) (l : Label), s.drives[d].mount.label = some l →
    let u := s.drives[d]
    let a := crossExamine l.bad u.mount.kept
    let damaged := u.mount.damaged || a.discarded
    ∃ img : Image,
      s.completeMount d =
        (((s.setImage d (some img)).setImageSerial (s.imageSerial + 1)).setDrive d
          { u with state := .mounted, faultCause := none, isProtected := u.writeProtect, damaged := damaged, mount := .clear }).raise
            (.mounted d l.name damaged) ∧
      img.id = s.imageSerial ∧ img.name = l.name ∧ img.skew = l.skew ∧ img.bad = l.bad ∧
      (∀ x ∈ a.records, img.slots[x.1] =
        { Slot.free with state := .filed, slug := x.2.slug, origin := x.2.origin, edition := x.2.edition, version := x.2.version,
                         length := x.2.length, check := x.2.check, extents := x.2.extents }) ∧
      (∀ n : SlotNo, (∀ x ∈ a.records, x.1 ≠ n) → img.slots[n] = Slot.free) ∧
      img.allocated.Pairwise (fun x y => x < y) ∧
      (∀ k, k ∈ img.allocated ↔ (k ∈ l.bad ∨ ∃ x ∈ a.records, k ∈ sectorsOf x.2.extents)) ∧
      img.retired = [] ∧ img.suspect = [] ∧ (∀ q : CatNo, img.writes[q] = .clean) ∧ img.unmounting = false)

/-- The format sequencer (R190, R191, R44). The page of its step granted, it places one ROUTINE request: a FORMAT-TRACK with the slot
order of R7 in its page, cylinder 0 unskewed, a READ of the sector to verify, the label, or a catalogue sector of zero bytes. A step
that succeeds frees its page and asks for that of the next: 154 tracks, head 0 then head 1 of each cylinder, with verify the sectors
from L 0 to 2,279, the label, the catalogue sectors from 0 to 28; after the last the sequencer lets go and the drive enters MOUNTING,
its recalibration started (R36). A verify READ that fails notes its sector and goes on; the 17th such sector ends the format in BLANK
with the FAULTED event TOO-MANY-BAD. WRITE-PROTECTED and a failed write of cylinder 0 end it in BLANK with no event. -/
def Obligations.FormatStepsInOrder : Prop :=
  (∀ (s : State) (j : FormatJob) (p : PageNo), s.sequencer = some j →
    let taken := s.setPool { s.pool with sysWaiters := s.pool.sysWaiters.tail }
    let held := fun (x : FormatStep) => taken.holdPage p (.formatStep j.drive x)
    let cylinder := j.nextTrack / 2
    let order := (List.range 15).map (fun k => byteOf ((k + (15 - (if cylinder = 0 then 0 else j.skew) * cylinder % 15)) % 15))
    (j.phase = .tracks → s.grantSystem .format p =
      ((held (.track j.nextTrack)).fillPage p (order ++ List.replicate 497 0)).place j.drive ⟨cylinder, j.nextTrack % 2, 0⟩ .formatTrack p
        (.formatTrack j.nextTrack) .routine) ∧
    (j.phase = .verify → s.grantSystem .format p =
      (held (.verify j.verifyL)).place j.drive ⟨1 + j.verifyL / 30, j.verifyL % 30 / 15, j.verifyL % 30 % 15⟩ .read p
        (.formatVerify j.verifyL) .routine) ∧
    (j.phase = .label → s.grantSystem .format p =
      ((held .label).fillPage p (labelBytes j.name j.skew j.bad)).place j.drive ⟨0, 0, 0⟩ .writeVerify p .formatLabel .routine) ∧
    ∀ q : CatNo, j.phase = .catalogue → j.nextQ = q.val → s.grantSystem .format p =
      (held (.catalogue q)).place j.drive (if q.val ≤ 13 then ⟨0, 0, q.val + 1⟩ else ⟨0, 1, q.val - 14⟩) .writeVerify p
        (.formatCatalogue q) .routine) ∧
  (∀ (s : State) (j : FormatJob) (p : PageNo), s.sequencer = some j →
    let asks := fun (x : FormatJob) => ((s.freePage p).setSequencer (some x)).joinSystem .format
    let idle := (s.freePage p).setSequencer none
    let blank := ((idle.clearWorkList j.drive).leaveSystem (SystemWaiter.ofDrive j.drive)).setDrive j.drive
      { s.drives[j.drive] with state := .blank, faultCause := none, head := .unloaded, idleCount := 0, mount := .clear }
    let afterTracks := if j.verify then FormatPhase.verify else .label
    (j.phase = .tracks →
      (j.nextTrack + 1 ≠ 154 → s.formatDone p = asks { j with nextTrack := j.nextTrack + 1 }) ∧
      (j.nextTrack + 1 = 154 → s.formatDone p = asks { j with nextTrack := 154, phase := afterTracks }) ∧
      s.formatFailed p = blank) ∧
    (j.phase = .verify →
      let next := fun (bad : List Nat) => asks
        { j with verifyL := j.verifyL + 1, phase := if j.verifyL + 1 = 2280 then .label else .verify, bad := bad }
      s.formatDone p = next j.bad ∧
      (j.bad.length ≠ 16 → s.formatFailed p = next (j.bad ++ [j.verifyL])) ∧
      (j.bad.length = 16 → s.formatFailed p = blank.raise (.faulted j.drive .tooManyBad))) ∧
    (j.phase = .label → s.formatDone p = asks { j with phase := .catalogue } ∧ s.formatFailed p = blank) ∧
    (j.phase = .catalogue →
      (j.nextQ + 1 ≠ 29 → s.formatDone p = asks { j with nextQ := j.nextQ + 1 }) ∧
      (j.nextQ + 1 = 29 → s.formatDone p =
        (idle.setDrive j.drive
          { s.drives[j.drive] with state := .mounting, faultCause := none, mount := .clear, validCount := 0 }).startRecal j.drive) ∧
      s.formatFailed p = blank) ∧
    s.formatProtected p = blank)

/-! ### Pages and the filing of stories -/

/-- The page pool (R83 to R95). A grant takes the lowest free page of its kind, all bytes zero; holdings count a desk's general pages.
An ask of a GET takes pages for its lowest sectors while one is free and the desk is below its quota, and otherwise joins the waiters.
A free general page goes to the oldest eligible URGENT waiter, else to the oldest eligible ROUTINE one, for the lowest sector it
lacks. When none can be granted, a desk reclaim (R93) is made for the first waiting desk that is at its quota, less its awaited
reclaims, and has a read-ahead page, and else a pool reclaim (R94) while the sectors the eligible waiters lack outnumber the awaited
reclaims; that the desk reclaim comes first and in waiter-list order, and that the test of R94 is made whenever the pools are served,
is the model's choice (logs 28, 31). Each takes the read-ahead page of the greatest distance, of equal ones that of the lowest desk
and handle; its sector is ABSENT at once, and its page is freed, or awaited at the end of its pass. System pages go to the head of
their list. -/
def Obligations.GeneralPagesGoToWaitersInOrder : Prop :=
  ∀ s : State,
    let ofKind := fun (general : Bool) (p : PageNo) => general = decide (p.val < 56)
    let held := fun (desk : Desk) (p : PageNo) => match s.pool.pages[p] with
      | some x => (match x.holder with | .handleSector e _ _ => e == desk | _ => false)
      | none => false
    let awaited := fun (p : PageNo) => match s.pool.pages[p] with
      | some x => x.awaited
      | none => false
    let eligible := fun (w : Waiter) => s.holdings w.desk < s.deskSettings[w.desk].quota
    let needed := fun (desk : Desk) (h : HandleNo) (j : Nat) =>
      ∃ on offset n, s.desks[desk].inProgress = some (.get on h offset n) ∧ j ∈ sectorsCovering offset n
    let ahead := fun (x : Desk × HandleNo × Nat × Nat) =>
      ∃ r p, s.handle x.1 x.2.1 = .reading r ∧ x.2.2.1 < r.table.length ∧
        (r.table.getD x.2.2.1 .absent = .reading p ∨ r.table.getD x.2.2.1 .absent = .present p) ∧
        r.delivery ≤ 512 * x.2.2.1 ∧ x.2.2.2 = 512 * x.2.2.1 - r.delivery ∧ ¬needed x.1 x.2.1 x.2.2.1
    let farthest := fun (among : Desk → Prop) (x : Desk × HandleNo × Nat × Nat) =>
      among x.1 ∧ ahead x ∧ ∀ y, among y.1 → ahead y →
        y.2.2.2 < x.2.2.2 ∨ (y.2.2.2 = x.2.2.2 ∧ (x.1 < y.1 ∨ (x.1 = y.1 ∧ x.2.1 ≤ y.2.1)))
    let owes := fun (desk : Desk) =>
      s.deskSettings[desk].quota ≤ s.holdings desk - ((List.finRange 64).filter (fun p => held desk p && awaited p)).length ∧
      ∃ x, x.1 = desk ∧ ahead x
    let pressed := (∀ p : PageNo, p.val < 56 → s.pool.pages[p] ≠ none) ∧
      ((List.finRange 64).filter awaited).length <
        ((s.pool.waiters.filter (fun w => s.holdings w.desk < s.deskSettings[w.desk].quota)).map (fun w => w.lacks.length)).sum
    (∀ general p, s.freePageNo general = some p ↔
      (ofKind general p ∧ s.pool.pages[p] = none ∧ ∀ q, q < p → ofKind general q → s.pool.pages[q] ≠ none)) ∧
    (∀ general, s.freePageNo general = none ↔ ∀ p, ofKind general p → s.pool.pages[p] ≠ none) ∧
    (∀ p holder, s.holdPage p holder =
      s.setPool { s.pool with pages := s.pool.pages.set p (some ⟨holder, List.replicate 512 0, false⟩) }) ∧
    (∀ p, s.freePage p = s.setPool { s.pool with pages := s.pool.pages.set p none }) ∧
    (∀ desk, s.holdings desk = ((List.finRange 64).filter (fun p => decide (p.val < 56) && held desk p)).length) ∧
    (∀ desk h r j js, s.handle desk h = .reading r →
      (∀ p, s.freePageNo true = some p → s.holdings desk < s.deskSettings[desk].quota →
        s.askForGet desk h (j :: js) = ((s.holdPage p (.handleSector desk h j)).startRead desk h r j p).askForGet desk h js) ∧
      ((s.freePageNo true = none ∨ s.deskSettings[desk].quota ≤ s.holdings desk) →
        s.askForGet desk h (j :: js) =
          s.setPool { s.pool with waiters := s.pool.waiters ++ [{ desk := desk, handle := h, cls := r.cls, lacks := j :: js }] }) ∧
      s.askForGet desk h [] = s) ∧
    (s.nextWaiter = none ↔ ∀ w ∈ s.pool.waiters, ¬eligible w) ∧
    (∀ w, s.nextWaiter = some w →
      ∃ before after, s.pool.waiters = before ++ w :: after ∧ eligible w ∧ (∀ x ∈ before, eligible x → x.cls ≠ w.cls) ∧
        (w.cls = .routine → ∀ x ∈ s.pool.waiters, eligible x → x.cls = .routine)) ∧
    (∀ w j rest p, w.lacks = j :: rest →
      let waiters :=
        if rest = [] then s.pool.waiters.filter (fun x => x.desk ≠ w.desk)
        else s.pool.waiters.map (fun x => if x.desk = w.desk then { x with lacks := rest } else x)
      let granted := (s.holdPage p (.handleSector w.desk w.handle j)).setPool
        { (s.holdPage p (.handleSector w.desk w.handle j)).pool with waiters := waiters }
      (∀ r, s.handle w.desk w.handle = .reading r → s.grantWaiter w p = granted.startRead w.desk w.handle r j p) ∧
      ∀ v on h offset data, s.handle w.desk w.handle = .writing v → s.desks[w.desk].inProgress = some (.put on h offset data) →
        s.grantWaiter w p = granted.storePut w.desk w.handle v on offset data (some (j, p))) ∧
    (∀ p w, s.freePageNo true = some p → s.nextWaiter = some w → s.serveOnce = some (s.grantWaiter w p)) ∧
    ((s.freePageNo true = none ∨ s.nextWaiter = none) →
      (∀ w before after, s.pool.waiters = before ++ w :: after → owes w.desk → (∀ x ∈ before, ¬owes x.desk) →
        ∃ x, farthest (fun e => e = w.desk) x ∧ s.serveOnce = some (s.reclaim x.1 x.2.1 x.2.2.1)) ∧
      ((∀ w ∈ s.pool.waiters, ¬owes w.desk) → pressed → (∃ x, ahead x) →
        ∃ x, farthest (fun _ => True) x ∧ s.serveOnce = some (s.reclaim x.1 x.2.1 x.2.2.1)) ∧
      ((∀ w ∈ s.pool.waiters, ¬owes w.desk) → ¬(pressed ∧ ∃ x, ahead x) → s.serveOnce = none)) ∧
    (∀ n, s.serveUpTo (n + 1) = (match s.serveOnce with | some t => t.serveUpTo n | none => s)) ∧
    s.serveUpTo 0 = s ∧ s.serveGeneral = s.serveUpTo 80 ∧
    (∀ desk h r j, s.handle desk h = .reading r →
      let gone := s.setHandle desk h (.reading { r with table := r.table.set j .absent })
      let passing := fun (p : PageNo) => ∃ x, s.scheds[r.drive].inHand = some ⟨x, .passing⟩ ∧ x.page = p
      (r.table.getD j .absent = .absent → s.reclaim desk h j = gone) ∧
      (∀ p, r.table.getD j .absent = .present p → s.reclaim desk h j = gone.freePage p) ∧
      (∀ p, r.table.getD j .absent = .reading p → ¬passing p → s.reclaim desk h j = gone.withdraw r.drive p) ∧
      ∀ p, r.table.getD j .absent = .reading p → passing p →
        s.reclaim desk h j =
          (gone.setPage p ((s.pool.pages[p]).map (fun x => { x with awaited := true }))).withdraw r.drive p) ∧
    (∀ n p w rest, s.freePageNo false = some p → s.pool.sysWaiters = w :: rest →
      s.serveSystemUpTo (n + 1) = (s.grantSystem w p).serveSystemUpTo n) ∧
    (∀ n, (s.freePageNo false = none ∨ s.pool.sysWaiters = []) → s.serveSystemUpTo n = s) ∧ s.serveSystem = s.serveSystemUpTo 8

/-- The read path. A sector request is placed (R45 to R48): it joins the work list of a drive in use with the next seq and the tick,
and on any other drive its page is freed and a handle that owns it is lost. The placing is a moment of choice (R51): what the drives
could do already is done before it, and its drive does what it makes possible (log 13). A story sector with a page becomes READING and
its READ is placed with the handle's class. Read-ahead (R124, R91): at most two reads on one occasion, each for the lowest ABSENT
sector at or above the read-ahead point and not wholly below the delivery point, while fewer than two sectors are READING, more than 8
general pages are free, the desk is below its quota and no desk waits. A READ that ends (R125, R130) makes its sector PRESENT, or
ABSENT with the read-ahead point past it and a waiting GET that needs it answered FAILED MEDIA with the cause; then pages are served,
read-ahead tried and a waiting GET examined, which is answered when its range is PRESENT (R128). A page whose sector was given up is
only freed. An answer moves the delivery point (R129): sectors wholly below it give up their pages. -/
def Obligations.ReadsFillTheirSectors : Prop :=
  (∀ (s : State) (d : DriveNo) (t : Target) (op : Operation) (p : PageNo) (o : Owner) (c : Machine.Class),
    let inUse := s.drives[d].state = .mounting ∨ s.drives[d].state = .mounted ∨ s.drives[d].state = .formatting
    let ready := s.runDrives
    let joined := (ready.setSched d { ready.scheds[d] with workList := ready.scheds[d].workList ++
      [{ seq := ready.seq, drive := d, target := t, operation := op, page := p, owner := o, cls := c, entry := ready.tick,
         attempts := 0, recalibrated := false }] }).setSeq (ready.seq + 1)
    (inUse → s.place d t op p o c = (joined.driveActs d).grantChannel ∧ ready.seq = s.seq ∧ ready.tick = s.tick) ∧
    (∀ desk h j, ¬inUse → o = .handleSector desk h j →
      s.place d t op p o c = (s.freePage p).loseHandle desk h .driveLost .withImage) ∧
    (¬inUse → (∀ desk h j, o ≠ .handleSector desk h j) → s.place d t op p o c = s.freePage p)) ∧
  (∀ (s : State) (desk : Desk) (h : HandleNo) (r : ReadHandle) (j l : Nat) (p : PageNo), sectorAt r.extents j = some l →
    s.startRead desk h r j p =
      (s.setHandle desk h (.reading { r with table := r.table.set j (.reading p) })).place r.drive (targetOfL l) .read p
        (.handleSector desk h j) r.cls) ∧
  (∀ (s : State) (desk : Desk) (h : HandleNo) (r : ReadHandle), s.handle desk h = .reading r →
    let wanted := fun (j : Nat) => j < r.table.length ∧ r.readAhead ≤ j ∧ r.table.getD j .absent = .absent ∧
      r.delivery < min (512 * (j + 1)) r.length
    let reading := (r.table.filter (fun e => match e with | .reading _ => true | _ => false)).length
    let granted := reading < 2 ∧ 8 < ((List.finRange 64).filter (fun p => decide (p.val < 56) && s.pool.pages[p].isNone)).length ∧
      s.holdings desk < s.deskSettings[desk].quota ∧ s.pool.waiters = []
    s.readAhead desk h = s.readAheadUpTo 2 desk h ∧ s.readAheadUpTo 0 desk h = s ∧
    (∀ n j p, wanted j → (∀ i, i < j → ¬wanted i) → granted → s.freePageNo true = some p →
      s.readAheadUpTo (n + 1) desk h = ((s.holdPage p (.handleSector desk h j)).startRead desk h r j p).readAheadUpTo n desk h) ∧
    (∀ n, ((∀ j, ¬wanted j) ∨ ¬granted) → s.readAheadUpTo n desk h = s)) ∧
  (∀ (s : State) (desk : Desk) (h : HandleNo) (r : ReadHandle) (j : Nat) (p : PageNo) (cause : PassCause), s.handle desk h = .reading r →
    let goesOn := fun (t : State) => (t.serveGeneral.readAhead desk h).examineGet desk
    let failed := (s.setHandle desk h (.reading
      { r with table := r.table.set j .absent, readAhead := if r.readAhead ≤ j then j + 1 else r.readAhead })).freePage p
    let number : Byte := match cause with | .idNotFound => 1 | .wrongCylinder => 2 | .dataCheck => 3 | .verifyMismatch => 4
    let needs := fun (w : Waiting) => ∃ on offset n, w = .get on h offset n ∧ j ∈ sectorsCovering offset n
    (r.table.getD j .absent = .reading p →
      s.readDone desk h j p = goesOn (s.setHandle desk h (.reading { r with table := r.table.set j (.present p) })) ∧
      (∀ w, s.desks[desk].inProgress = some w → needs w →
        s.readFailed desk h j p cause =
          goesOn (((failed.leaveWaiters desk).setInProgress desk none).fail desk w.kind.code w.flags .media [number])) ∧
      ((∀ w, s.desks[desk].inProgress = some w → ¬needs w) → s.readFailed desk h j p cause = goesOn failed)) ∧
    (r.table.getD j .absent ≠ .reading p → s.readDone desk h j p = s.freePage p ∧ s.readFailed desk h j p cause = s.freePage p)) ∧
  (∀ (s : State) (desk : Desk),
    ((∀ on h offset n, s.desks[desk].inProgress ≠ some (.get on h offset n)) → s.examineGet desk = s) ∧
    ∀ on h offset n r, s.desks[desk].inProgress = some (.get on h offset n) → s.handle desk h = .reading r →
      let present := ∀ j ∈ sectorsCovering offset n, ∃ p, r.table.getD j .absent = .present p
      (¬present → s.examineGet desk = s) ∧
      (present → 1 ≤ n → s.examineGet desk =
        ((s.setInProgress desk none).done desk (if on then 0x25 else 0x24) ⟨false, false, decide (r.length ≤ offset + n), false⟩
          (byteOf n :: s.rangeBytes r offset n) (.continues (.get h) (offset + n))).deliver desk h r (offset + n))) ∧
  (∀ (s : State) (desk : Desk) (h : HandleNo) (r : ReadHandle) (delivery : Nat),
    let below := fun (j : Nat) => min (512 * (j + 1)) r.length ≤ delivery
    let least := min (delivery / 512) ((r.length + 511) / 512)
    let table := (List.range r.table.length).map (fun j => if below j then ReadEntry.absent else r.table.getD j .absent)
    let given := ((List.range r.table.length).filter (fun j => below j)).map (fun j => r.table.getD j .absent)
    let point := if delivery < r.delivery then least else max r.readAhead least
    let after : ReadHandle := { r with delivery := delivery, table := table, readAhead := point }
    s.deliver desk h r delivery =
      (((s.setHandle desk h (.reading after)).giveUpReads r.drive given).serveGeneral).readAhead desk h) ∧
  (∀ (s : State) (d : DriveNo) (p : PageNo) (rest : List ReadEntry),
    s.giveUpReads d [] = s ∧ s.giveUpReads d (.absent :: rest) = s.giveUpReads d rest ∧
    s.giveUpReads d (.reading p :: rest) = (s.withdraw d p).giveUpReads d rest ∧
    s.giveUpReads d (.present p :: rest) = (s.freePage p).giveUpReads d rest)

/-- The write path. A FILLING sector whose end W has reached becomes WRITING and its WRITE is placed with the handle's class (R138). A
WRITE that ends successfully makes its sector WRITTEN and frees its page, and with every sector of a COMMITTING handle WRITTEN the
pending version is placed on the slot (R139, R142); one that ends WRITE-PROTECTED fails the handle. One that ends with MEDIA is
relocated (R140, R102, R103): its sector joins the suspects, counting a relocation when 16 are there already, the lowest free sector
takes its place in the extents, counting one, and it is written there; with no free sector, or a ninth extent, the handle fails
DISK-FULL or FRAGMENTED. The extents after it put story sector j at the sector taken, every other story sector where it was, and no
two neighbours run on into each other. A failed handle (R141) gives up its pages, keeps the cause and answers the request that waits
on it, and that of a desk reset since is dropped; its table is the model's choice (log 19). A page whose sector was given up is only
freed. -/
def Obligations.WritesEndAndAreRelocated : Prop :=
  (∀ (s : State) (desk : Desk) (h : HandleNo) (w : WriteHandle) (j : Nat) (p : PageNo),
    let write := fun (v : WriteHandle) (t : State) (l : Nat) =>
      (t.setHandle desk h (.writing { v with table := v.table.set j (.writing p) })).place v.drive (targetOfL l) .write p
        (.handleSector desk h j) v.cls
    s.handle desk h = .writing w →
    (∀ l, w.table.getD j .unstarted = .filling p → sectorAt w.reservation j = some l →
      (min (512 * (j + 1)) w.length ≤ w.mark → s.queueSector desk h j = write w s l) ∧
      (w.mark < min (512 * (j + 1)) w.length → s.queueSector desk h j = s)) ∧
    ((∀ x, w.table.getD j .unstarted ≠ .filling x) → s.queueSector desk h j = s) ∧
    (w.table.getD j .unstarted ≠ .writing p →
      s.writeDone desk h j p = s.freePage p ∧ s.writeProtected desk h j p = s.freePage p ∧ s.writeFailed desk h j p = s.freePage p) ∧
    (w.table.getD j .unstarted = .writing p →
      s.writeDone desk h j p =
        ((s.setHandle desk h (.writing { w with table := w.table.set j .written })).freePage p).placeVersion desk h ∧
      s.writeProtected desk h j p = s.failHandle desk h w .writeProtected ∧
      ∀ img l, s.images[w.drive] = some img → sectorAt w.reservation j = some l →
        let tally := s.driveTallies[w.drive]
        let counted := if 16 ≤ img.suspect.length then min (tally.relocations + 1) 65535 else tally.relocations
        let listed := { img with suspect := img.suspect ++ [l] }
        let suspected := (s.setImage w.drive (some listed)).setDriveTally w.drive
          { tally with relocations := counted }
        (img.lowestFree = none → s.writeFailed desk h j p = suspected.failHandle desk h w .diskFull) ∧
        ∀ m, img.lowestFree = some m →
          let es := joined (splitAt w.reservation j m)
          (8 < es.length → s.writeFailed desk h j p = suspected.failHandle desk h w .fragmented) ∧
          (es.length ≤ 8 → s.writeFailed desk h j p =
            write { w with reservation := es }
              ((suspected.setImage w.drive (some (listed.markAllocated [m]))).setDriveTally w.drive
                { tally with relocations := min (counted + 1) 65535 }) m))) ∧
  (∀ (img : Image), img.mapSound →
    (img.lowestFree = none ↔ ∀ l, l < 2280 → l ∈ img.allocated) ∧
    ∀ l, img.lowestFree = some l ↔ (l < 2280 ∧ l ∉ img.allocated ∧ ∀ k, k < l → k ∈ img.allocated)) ∧
  (∀ (s : State) (desk : Desk) (h : HandleNo) (w : WriteHandle) (cause : Reason),
    let kept := w.table.map (fun e => if e = .written then WriteEntry.written else .unstarted)
    (w.orphan = true → s.failHandle desk h w cause = s.dropWrite desk h w) ∧
    (w.orphan = false → s.failHandle desk h w cause =
      ((s.giveUpWrites w.drive w.table).setHandle desk h (.writing { w with state := .failed cause, table := kept })).failOnHandle desk h
        false cause)) ∧
  (∀ (s : State) (desk : Desk) (h : HandleNo) (w : WriteHandle), s.handle desk h = .writing w →
    let due := w.state = .committing ∧ w.placed = false ∧ ∀ e ∈ w.table, e = .written
    (¬due → s.placeVersion desk h = s) ∧
    (due → s.placeVersion desk h =
      (s.setHandle desk h (.writing { w with placed := true })).placeChange w.drive w.slot
        (.newVersion { desk := desk, handle := h, extents := w.reservation, length := w.length, check := w.check, edition := w.edition,
                       keepHold := w.keepHold, first := (s.slot w.drive w.slot).state == .creating }))) ∧
  (∀ (s : State) (d : DriveNo) (p : PageNo) (rest : List WriteEntry),
    s.giveUpWrites d [] = s ∧ s.giveUpWrites d (.unstarted :: rest) = s.giveUpWrites d rest ∧
    s.giveUpWrites d (.filling p :: rest) = (s.freePage p).giveUpWrites d rest ∧
    s.giveUpWrites d (.writing p :: rest) = (s.withdraw d p).giveUpWrites d rest ∧
    s.giveUpWrites d (.written :: rest) = s.giveUpWrites d rest) ∧
  (∀ (es : List Extent) (j l : Nat), j < totalCount es →
    let new := joined (splitAt es j l)
    sectorAt new j = some l ∧ (∀ i, i ≠ j → sectorAt new i = sectorAt es i) ∧ totalCount new = totalCount es ∧
    new.IsChain (fun a b => a.start + a.count ≠ b.start))

/-- How a catalogue sector comes to be written (R109, R110, R111, R116). A change placed on a slot moves the sector's write state by
the table of R110, and the ask for a page joins the system waiters (R90). The page granted, a WRITE-VERIFY of the sector, URGENT, is
placed at its place on cylinder 0 (R10). At the first grant of its pass, in DIRTY, the state becomes WRITING, the changes then pending
on the eight slots are carried, and the page holds the image of the slots with those changes applied; at a later grant the carried
changes are the same and the page is built afresh. A removal taken back leaves the sector CLEAN, its ask or request withdrawn, or
WRITING, when no other change is left for it to write. -/
def Obligations.CatalogueWritesCarryTheirChanges : Prop :=
  (∀ (s : State) (d : DriveNo) (img : Image) (q : CatNo), s.images[d] = some img →
    let now := img.writes[q]
    let made := fun (w : WriteState) (slots : Vector Slot 232) =>
      s.setImage d (some { img with slots := slots, writes := img.writes.set q w })
    (∀ (n : SlotNo) (c : Change), n.val / 8 = q.val →
      let slots := img.slots.set n { img.slots[n] with pending := some c, carried := false }
      (now = .clean → s.placeChange d n c =
        (made .dirty slots).setPool { s.pool with sysWaiters := s.pool.sysWaiters ++ [.catalogue d q] }) ∧
      (now = .dirty → s.placeChange d n c = made .dirty slots) ∧
      ((now = .writing ∨ now = .writingDirty) → s.placeChange d n c = made .writingDirty slots)) ∧
    (∀ p : PageNo,
      let marked : Vector Slot 232 := Vector.ofFn (fun n : SlotNo =>
        if n.val / 8 = q.val then { img.slots[n] with carried := (img.slots[n]).pending.isSome } else img.slots[n])
      (now = .dirty → s.buildSector d q p = (made .writing marked).fillPage p (sectorImage marked q)) ∧
      (now ≠ .dirty → s.buildSector d q p = s.fillPage p (sectorImage img.slots q))) ∧
    (∀ n : SlotNo, n.val / 8 = q.val →
      let slots := img.slots.set n { img.slots[n] with pending := none, carried := false }
      let back := s.setImage d (some { img with slots := slots })
      let othersPending := ∃ m : SlotNo, m.val / 8 = q.val ∧ (slots[m]).pending.isSome = true
      let othersWait := ∃ m : SlotNo, m.val / 8 = q.val ∧ (slots[m]).pending.isSome = true ∧ (slots[m]).carried = false
      (now = .dirty → ¬othersPending → s.takeBackRemoval d n = (back.withdrawCatalogue d q).setWriteState d q .clean) ∧
      (now = .writingDirty → ¬othersWait → s.takeBackRemoval d n = back.setWriteState d q .writing) ∧
      (¬(now = .dirty ∧ ¬othersPending) → ¬(now = .writingDirty ∧ ¬othersWait) → s.takeBackRemoval d n = back))) ∧
  (∀ (s : State) (d : DriveNo) (q : CatNo) (p : PageNo),
    let taken := s.setPool { s.pool with sysWaiters := s.pool.sysWaiters.tail }
    s.grantSystem (.catalogue d q) p =
      (taken.holdPage p (.catalogueWrite d q)).place d (if q.val ≤ 13 then ⟨0, 0, q.val + 1⟩ else ⟨0, 1, q.val - 14⟩) .writeVerify p
        (.catalogue q) .urgent) ∧
  (∀ (s : State) (d : DriveNo) (q : CatNo),
    let asked := s.setPool { s.pool with sysWaiters := s.pool.sysWaiters.filter (fun w => w ≠ .catalogue d q) }
    let listed := s.scheds[d].workList.find? (fun r => r.owner = .catalogue q)
    (∀ r, listed = some r → s.withdrawCatalogue d q = asked.withdraw d r.page) ∧
    (listed = none →
      (∀ h, s.scheds[d].inHand = some h → h.request.owner = .catalogue q →
        s.withdrawCatalogue d q = asked.withdraw d h.request.page) ∧
      ((∀ h, s.scheds[d].inHand = some h → h.request.owner ≠ .catalogue q) → s.withdrawCatalogue d q = asked))) ∧
  (∀ (slots : Vector Slot 232) (q : CatNo),
    sectorImage slots q =
      (List.range' (8 * q.val) 8).flatMap (fun k => if h : k < 232 then (slots[k]'h).recorded else [])) ∧
  (∀ t : Slot,
    let plain := t.carried = false ∨ t.pending = none
    (∀ v, t.carried = true → t.pending = some (.newVersion v) →
      t.recorded = recordBytes
        { slug := t.slug, origin := v.desk, edition := v.edition,
          version := if v.first then 1 else if t.version = 65535 then 1 else t.version + 1, length := v.length, check := v.check,
          extents := v.extents }) ∧
    (∀ e, t.carried = true → t.pending = some (.removal e) → t.recorded = List.replicate 64 0) ∧
    (plain → t.state = .filed →
      t.recorded = recordBytes
        { slug := t.slug, origin := t.origin, edition := t.edition, version := t.version, length := t.length, check := t.check,
          extents := t.extents }) ∧
    (plain → t.state ≠ .filed → t.recorded = List.replicate 64 0))

/-- What the end of a catalogue-sector write does (R112 to R115). Its eight slots are taken in ascending order, each with a carried
change whole. A carried new version commits: the current extents of a FILED slot are retired or freed, the slot takes the new fields
and its next version, the filing desk's hold is released unless it chose to keep it or has been reset since (that a hold it has taken
again then is kept is read from R107, R145 and R182, log 29), the handle is FREE, FILED is raised and the FILE that waits is answered
with the version. A carried removal commits: the extents retired or freed, a hold released with RELEASED, the slot FREE, SPIKED
raised, the SPIKE answered. A failed write, by MEDIA or WRITE-PROTECTED, undoes each carried change and answers its owner FAILED with
CATALOGUE-WRITE, which marks the drive damaged, or PROTECTED. Then the page is freed, and the state is CLEAN, or DIRTY with a fresh
ask. A desk reset since hears nothing. -/
def Obligations.CatalogueWritesCommitOrFailWhole : Prop :=
  (∀ (s : State) (d : DriveNo) (q : CatNo) (p : PageNo) (r : SectorRequest) (cause : PassCause),
    r.owner = .catalogue q → r.drive = d → r.page = p →
    let damaged := s.setDrive d { s.drives[d] with damaged := true }
    s.ownerDone r = ((slotsOf q).foldl (fun s n => State.commitSlot s d n) s).writeOver d q p ∧
    s.ownerFailed r cause = ((slotsOf q).foldl (fun s n => State.failSlot s d .catalogueWrite n) damaged).writeOver d q p ∧
    s.ownerProtected r = ((slotsOf q).foldl (fun s n => State.failSlot s d .isProtected n) s).writeOver d q p ∧
    (slotsOf q).map Fin.val = List.range' (8 * q.val) 8) ∧
  (∀ (s : State) (d : DriveNo) (img : Image) (n : SlotNo) (r : Reason), s.images[d] = some img →
    let t := img.slots[n]
    let dropped := fun (u : State) (e : Desk) =>
      (u.setDesk e { u.desks[e] with holds := u.desks[e].holds - 1 }).raise (.released d t.slug e t.version)
    ((t.carried = false ∨ t.pending = none) → s.commitSlot d n = s ∧ s.failSlot d r n = s) ∧
    (∀ v, t.carried = true → t.pending = some (.newVersion v) →
      let number := if v.first then 1 else if t.version = 65535 then 1 else t.version + 1
      let filed : Slot :=
        { t with state := .filed, origin := v.desk, edition := v.edition, version := number, length := v.length, check := v.check,
                 extents := v.extents, readers := 0, pending := none, carried := false }
      let retired := if t.state = .filed then s.retire d n else s
      let reset := ∃ w, s.handle v.desk v.handle = .writing w ∧ w.orphan = true
      let releases := v.keepHold = false ∧ t.holder = some v.desk ∧ ¬reset
      let told := fun (u : State) (released : Bool) =>
        ((u.setHandle v.desk v.handle .free).raise (.filed d t.slug v.desk number v.first released)).answerDone v.desk
          (Waiting.isFile v.handle) (twoBytes number)
      (¬releases → s.commitSlot d n = told (retired.setSlot d n filed) false) ∧
      (releases → s.commitSlot d n =
        told ((retired.setSlot d n { filed with holder := none }).setDesk v.desk
          { s.desks[v.desk] with holds := s.desks[v.desk].holds - 1 }) true) ∧
      let given := (s.giveBack d v.extents).setHandle v.desk v.handle .free
      let failed := fun (u : State) => s.failSlot d r n = u.answerFailed v.desk (Waiting.isFile v.handle) r
      (t.state ≠ .creating → failed (given.setSlot d n { t with pending := none, carried := false })) ∧
      (t.state = .creating → t.holder = none → failed (given.setSlot d n Slot.free)) ∧
      (∀ e, t.state = .creating → t.holder = some e → failed ((dropped given e).setSlot d n Slot.free))) ∧
    (∀ desk, t.carried = true → t.pending = some (.removal desk) →
      let told := fun (u : State) =>
        ((u.setSlot d n Slot.free).raise (.spiked d t.slug desk t.version)).answerDone desk (Waiting.isSpike d n) (twoBytes t.version)
      (t.holder = none → s.commitSlot d n = told (s.retire d n)) ∧
      (∀ e, t.holder = some e → s.commitSlot d n = told (dropped (s.retire d n) e)) ∧
      s.failSlot d r n =
        (s.setSlot d n { t with pending := none, carried := false }).answerFailed desk (Waiting.isSpike d n) r)) ∧
  (∀ (s : State) (desk : Desk) (mine : Waiting → Bool) (fields : List Byte) (r : Reason),
    (∀ w, s.desks[desk].inProgress = some w → mine w = true →
      s.answerDone desk mine fields = (s.setInProgress desk none).done desk w.kind.code w.flags fields .clear ∧
      s.answerFailed desk mine r = ((s.leaveWaiters desk).setInProgress desk none).fail desk w.kind.code w.flags r []) ∧
    ((∀ w, s.desks[desk].inProgress = some w → mine w = false) →
      s.answerDone desk mine fields = s ∧ s.answerFailed desk mine r = s)) ∧
  (∀ (w : Waiting) (h : HandleNo) (d : DriveNo) (n : SlotNo),
    (Waiting.isFile h w = true ↔ w = .file h) ∧ (Waiting.isSpike d n w = true ↔ ∃ lowered, w = .spike d n lowered)) ∧
  (∀ (s : State) (d : DriveNo) (img : Image) (q : CatNo) (p : PageNo), s.images[d] = some img →
    let state := fun (w : WriteState) => (s.freePage p).setImage d (some { img with writes := img.writes.set q w })
    (img.writes[q] = .writing → s.writeOver d q p = state .clean) ∧
    (img.writes[q] = .writingDirty → s.writeOver d q p = (state .dirty).joinSystem (.catalogue d q)) ∧
    ((img.writes[q] = .clean ∨ img.writes[q] = .dirty) → s.writeOver d q p = s.freePage p))

/-- Versions bound to readers (R104, R105): when the current version of a slot is replaced, its sectors are freed if no handle reads
it, and else join the retired list with the reader count, to which every handle bound to it is bound from then on; a handle that gives
up its binding lowers the count, and the last one frees the sectors. A reservation given back frees its sectors but for the suspects
(R102, R103). A lost handle (R144, R145): HANDLE-LOST is posted, the pages are given up, and, while the image stands, the binding or
the reservation, with the slot and hold of a NEW story; it is LOST with its cause, and the request that waits on it is answered
FAILED, but for a FILE whose version is placed. That the notice comes before the RELEASED event of the slot is log 14. A handle of a
desk reset since hears nothing and is FREE. An image discarded (R120, R153): the owners of its pending changes are answered FAILED
DRIVE-LOST, its holds vanish without an event, and watches on the drive forget their matched slug. -/
def Obligations.LossesAndVersionsBoundToReaders : Prop :=
  (∀ (s : State) (d : DriveNo) (img : Image) (n : SlotNo), s.images[d] = some img →
    let t := img.slots[n]
    let freed := fun (es : List Extent) => img.allocated.filter (fun l => l ∉ sectorsOf es)
    let becomes := fun (x : Image) => s.setImage d (some x)
    (t.readers = 0 → s.retire d n = becomes { img with allocated := freed t.extents }) ∧
    (t.readers ≠ 0 →
      let after := becomes { img with retired := img.retired ++ [⟨img.nextRetired, t.extents, t.readers⟩],
                                      nextRetired := img.nextRetired + 1, slots := img.slots.set n { t with readers := 0 } }
      s.retire d n = { after with handles := (s.retire d n).handles } ∧
      ∀ e h, (s.retire d n).handle e h = match s.handle e h with
        | .reading r =>
          if r.drive = d ∧ r.slot = n ∧ r.binding = .current then .reading { r with binding := .retired img.nextRetired } else .reading r
        | x => x) ∧
    s.unbind d n .current = becomes { img with slots := img.slots.set n { t with readers := t.readers - 1 } } ∧
    (∀ id, (∀ x ∈ img.retired, x.id ≠ id) → s.unbind d n (.retired id) = s) ∧
    (∀ x before after, img.retired = before ++ x :: after → (∀ y ∈ before ++ after, y.id ≠ x.id) →
      (x.readers ≤ 1 → s.unbind d n (.retired x.id) =
        becomes { img with retired := before ++ after, allocated := freed x.extents }) ∧
      (2 ≤ x.readers → s.unbind d n (.retired x.id) =
        becomes { img with retired := before ++ { x with readers := x.readers - 1 } :: after })) ∧
    ∀ es, s.giveBack d es =
      becomes { img with allocated := img.allocated.filter (fun l => l ∉ sectorsOf es ∨ l ∈ img.suspect) }) ∧
  (∀ (s : State) (desk : Desk) (h : HandleNo) (cause : Reason),
    let told := s.post desk (.handleLost desk h cause)
    let lost := fun (t : State) (placed : Bool) (l : LostHandle) => (t.setHandle desk h (.lost l)).failOnHandle desk h placed cause
    (∀ r, s.handle desk h = .reading r →
      let l : LostHandle := { drive := r.drive, slot := r.slot, slug := r.slug, cls := r.cls, length := r.length, cause := cause }
      s.loseHandle desk h cause .withImage = lost (told.giveUpReads r.drive r.table) false l ∧
      s.loseHandle desk h cause .imageStands = lost ((told.giveUpReads r.drive r.table).unbind r.drive r.slot r.binding) false l) ∧
    (∀ w, s.handle desk h = .writing w →
      let l : LostHandle := { drive := w.drive, slot := w.slot, slug := w.slug, cls := w.cls, length := w.length, cause := cause }
      let dropped := fun (t : State) =>
        let given := (t.giveUpWrites w.drive w.table).giveBack w.drive w.reservation
        if w.mode = .new then (given.releaseWithEvent w.drive w.slot).setSlot w.drive w.slot Slot.free else given
      (w.orphan = false →
        s.loseHandle desk h cause .withImage = lost (told.giveUpWrites w.drive w.table) w.placed l ∧
        s.loseHandle desk h cause .imageStands = lost (dropped told) w.placed l) ∧
      (w.orphan = true →
        s.loseHandle desk h cause .withImage = (s.giveUpWrites w.drive w.table).setHandle desk h .free ∧
        s.loseHandle desk h cause .imageStands = (dropped s).setHandle desk h .free)) ∧
    (∀ how, (s.handle desk h = .free ∨ ∃ l, s.handle desk h = .lost l) → s.loseHandle desk h cause how = s) ∧
    ∀ placed,
      (∀ w, s.desks[desk].inProgress = some w → w.handle = some h → ¬(placed = true ∧ w = .file h) →
        s.failOnHandle desk h placed cause =
          ((s.leaveWaiters desk).setInProgress desk none).fail desk w.kind.code w.flags cause []) ∧
      ((∀ w, s.desks[desk].inProgress = some w → w.handle ≠ some h ∨ (placed = true ∧ w = .file h)) →
        s.failOnHandle desk h placed cause = s)) ∧
  (∀ (s : State) (d : DriveNo),
    let t := s.discardImage d
    (s.images[d] = none → t = s) ∧
    ∀ img, s.images[d] = some img →
      t.images = s.images.set d none ∧ t.drives = s.drives ∧ t.handles = s.handles ∧
      ∀ desk : Desk,
        let owner := fun (w : Waiting) =>
          (∃ (n : SlotNo) (v : NewVersion), (img.slots[n]).pending = some (.newVersion v) ∧ v.desk = desk ∧ w = .file v.handle) ∨
          ∃ (n : SlotNo) (lowered : Bool), (img.slots[n]).pending = some (.removal desk) ∧ w = .spike d n lowered
        let c := s.desks[desk]
        t.desks[desk].holds = c.holds - ((List.finRange 232).filter (fun n => (img.slots[n]).holder = some desk)).length ∧
        t.desks[desk].notices = c.notices ∧
        (∀ i : WatchNo, (t.desks[desk].watches)[i] =
          ((c.watches)[i]).map (fun w => if w.drive = d then { w with matched := none } else w)) ∧
        (∀ w, c.inProgress = some w → owner w →
          t.desks[desk].inProgress = none ∧ t.desks[desk].continuation = .none ∧ t.desks[desk].cursor = 0 ∧
          t.lines[desk] = { s.lines[desk] with
            replies := s.lines[desk].replies ++ [⟨w.kind.code, .failed, some .driveLost, c.notices.length, w.flags, [], none⟩] }) ∧
        ((∀ w, c.inProgress = some w → ¬owner w) →
          t.desks[desk].inProgress = c.inProgress ∧ t.desks[desk].continuation = c.continuation ∧ t.lines[desk] = s.lines[desk]))

/-! ### The schedule and the channel -/

/-- The choice of a drive (R52, R54): the request chosen waits in the work list and no candidate costs less; when any waiting request
is URGENT by class or by age the chosen one is such a request; and of the candidates of that least cost it has the lowest seq,
whenever the seqs that wait lie within half the range of the counter (R46). A drive with work and a known position chooses. The cost
(R53): the wait W is 3 to P + 2 ticks and the cost C is 3 to 14,495 ticks, for a period, settings and cylinders in their ranges; and
its arithmetic whole: the greater of seek and load, the angle the diskette then stands at, the start of the target's slot, the wait
for it with the guard of 3 ticks, and the skew of the volume while MOUNTED, 0 otherwise and on cylinder 0 (R8). -/
def Obligations.ChoiceTakesALeastCostCandidate : Prop :=
  (∀ (s : State) (d : DriveNo) (position : Nat), s.drives[d].position = some position →
    let urgent := fun (x : SectorRequest) => x.cls = .urgent ∨ s.settings[d].aging ≤ (s.tick - x.entry).toNat
    let cost := fun (x : SectorRequest) => (positioningCost s.settings[d] s.drives[d] position (s.costSkew d) x.target).1
    (s.scheds[d].workList ≠ [] → ∃ r, s.chosen d = some r) ∧
    ∀ r, s.chosen d = some r →
      r ∈ s.scheds[d].workList ∧
      ((∃ x ∈ s.scheds[d].workList, urgent x) → urgent r) ∧
      (∀ x ∈ s.scheds[d].workList, (urgent x ∨ ∀ y ∈ s.scheds[d].workList, ¬urgent y) → cost r ≤ cost x) ∧
      ∀ base : BitVec 32, (∀ x ∈ s.scheds[d].workList, (x.seq - base).toNat < 2147483648) →
        ∀ x ∈ s.scheds[d].workList, (urgent x ∨ ∀ y ∈ s.scheds[d].workList, ¬urgent y) → cost x = cost r →
          (r.seq - base).toNat ≤ (x.seq - base).toNat) ∧
  (∀ (st : Settings) (u : DriveUnit) (position skew : Nat) (t : Target),
    st.inRange → 1500 ≤ u.period → u.period ≤ 1833 → position ≤ 76 → t.cylinder ≤ 76 →
    let c := positioningCost st u position skew t
    3 ≤ c.2 ∧ c.2 ≤ u.period + 2 ∧ c.2 ≤ c.1 ∧ c.1 ≤ 14495) ∧
  (∀ (st : Settings) (u : DriveUnit) (position skew : Nat) (t : Target), 1 ≤ u.period →
    let e := u.elapsed % u.period
    let apart := ((t.cylinder : Int) - position).natAbs
    let seek := if apart = 0 then 0 else apart * st.stepInterval + st.settle
    let load := if u.head = .loaded then 0 else st.headLoad
    let time := if seek ≤ load then load else seek
    let angle := (e + time) % u.period
    let slot := if t.cylinder = 0 then t.sector % 15 else (t.sector + skew * t.cylinder) % 15
    let begins := slot * u.period / 15
    let wait := (((begins : Int) - angle) % u.period).toNat
    let guarded := if wait < 3 then wait + u.period else wait
    positioningCost st u position skew t = (time + guarded, guarded)) ∧
  (∀ (s : State) (d : DriveNo),
    (∀ img, s.drives[d].state = .mounted → s.images[d] = some img → s.costSkew d = img.skew) ∧
    ((s.drives[d].state ≠ .mounted ∨ s.images[d] = none) → s.costSkew d = 0))

/-- What a drive does as soon as it can (R51, R54, R55, R78): a positioned request enters WAITING; with nothing in hand, nothing
moving and work to do, a pending recalibration starts, or the chosen request leaves the work list and goes into hand with the idle
count 0. Its seek starts when its cylinder is another (R31) and its head load when the head is UNLOADED (R34), a load time of 0
loading it at once; with neither needed it enters WAITING. A withdrawn request (R49, R56) leaves the work list, or the hand while it
is positioned or waits, and its page is freed; in a pass it is only marked. A request placed in the empty work list of an idle drive
is chosen at once. A drive whose pass has just ended, and that holds the channel still, chooses under R62 instead. What follows at
once from a command is the pools first, unmounts that can end, system pages and general pages, and then the channel and the drives in
ascending order (log 13). -/
def Obligations.DrivesActAsSoonAsTheyCan : Prop :=
  (∀ (s : State) (d : DriveNo),
    let u := s.drives[d]
    let acts := (u.state = .mounting ∨ u.state = .mounted ∨ u.state = .formatting) ∧ u.motion = .still ∧
      (∀ n, u.head ≠ .loading n) ∧ s.scheds[d].workList ≠ [] ∧ s.channel.grant ≠ some d
    (∀ r, s.scheds[d].inHand = some ⟨r, .positioning⟩ →
      (u.motion = .still → u.head = .loaded → s.driveActs d = s.enterWaiting d r) ∧
      (¬(u.motion = .still ∧ u.head = .loaded) → s.driveActs d = s)) ∧
    (∀ r phase, s.scheds[d].inHand = some ⟨r, phase⟩ → phase ≠ .positioning → s.driveActs d = s) ∧
    (s.scheds[d].inHand = none →
      (¬acts → s.driveActs d = s) ∧
      (acts → u.pendingRecal = true → s.driveActs d = s.startRecal d) ∧
      (acts → u.pendingRecal = false → s.chosen d = none → s.driveActs d = s) ∧
      ∀ r, acts → u.pendingRecal = false → s.chosen d = some r → s.driveActs d = (s.takeChosen d r).putInHand d r)) ∧
  (∀ (s : State) (d : DriveNo) (r : SectorRequest),
    s.takeChosen d r =
      (s.setSched d { s.scheds[d] with workList := s.scheds[d].workList.filter (fun x => x.page ≠ r.page) }).setDrive d
        { s.drives[d] with idleCount := 0 }) ∧
  (∀ (s : State) (d : DriveNo) (r : SectorRequest) (position : Nat), s.drives[d].position = some position →
    let u := s.drives[d]
    let st := s.settings[d]
    let target := r.target.cylinder
    let moved : DriveUnit :=
      if position = target then u
      else { u with direction := decide (position < target), stepPulses := 1,
                    position := some (if position < target then position + 1 else position - 1),
                    motion := .seekStep target st.settle st.stepInterval st.stepInterval }
    let v : DriveUnit :=
      if u.head = .unloaded then { moved with head := if st.headLoad = 0 then .loaded else .loading st.headLoad } else moved
    (v.motion = .still → v.head = .loaded → s.putInHand d r = (s.setDrive d v).enterWaiting d r) ∧
    (¬(v.motion = .still ∧ v.head = .loaded) →
      s.putInHand d r = (s.setDrive d v).setSched d { s.scheds[d] with inHand := some ⟨r, .positioning⟩ })) ∧
  (∀ (s : State) (d : DriveNo) (p : PageNo),
    let rest := s.scheds[d].workList.filter (fun x => x.page ≠ p)
    let left := fun (t : State) (h : Option InHand) => (t.setSched d { s.scheds[d] with workList := rest, inHand := h }).freePage p
    ((∀ h, s.scheds[d].inHand = some h → h.request.page ≠ p) → s.withdraw d p = left s s.scheds[d].inHand) ∧
    ∀ r, r.page = p →
      (s.scheds[d].inHand = some ⟨r, .positioning⟩ → s.withdraw d p = left s none) ∧
      (s.scheds[d].inHand = some ⟨r, .waiting⟩ →
        s.withdraw d p = left (s.setChannel { s.channel with waitList := s.channel.waitList.filter (fun x => x.1 ≠ d) }) none) ∧
      (s.scheds[d].inHand = some ⟨r, .passing⟩ →
        s.withdraw d p = (s.setSched d { s.scheds[d] with workList := rest }).setChannel
          { s.channel with pass := s.channel.pass.map (fun x => { x with withdrawn := true }) })) ∧
  (∀ s : State,
    s.settle = s.servePools.runDrives ∧
    s.servePools =
      ((((s.completeUnmount 0).completeUnmount 1).completeUnmount 2).completeUnmount 3).serveSystem.serveGeneral ∧
    s.runDrives = ([0, 1, 2, 3] : List DriveNo).foldl (fun s d => (s.driveActs d).grantChannel) s.grantChannel) ∧
  (∀ (s : State) (d : DriveNo) (x : Target) (op : Operation) (p : PageNo) (o : Owner) (c : Machine.Class) (position : Nat),
    let u := s.drives[d]
    s.runDrives = s → (u.state = .mounting ∨ u.state = .mounted ∨ u.state = .formatting) → s.scheds[d].inHand = none →
    s.scheds[d].workList = [] → u.motion = .still → (∀ n, u.head ≠ .loading n) → u.pendingRecal = false →
    u.position = some position → s.channel.grant ≠ some d →
    let r : SectorRequest :=
      { seq := s.seq, drive := d, target := x, operation := op, page := p, owner := o, cls := c, entry := s.tick, attempts := 0,
        recalibrated := false }
    let joined := (s.setSched d { s.scheds[d] with workList := [r] }).setSeq (s.seq + 1)
    s.place d x op p o c = ((joined.takeChosen d r).putInHand d r).grantChannel)

/-- The channel (R57 to R63). A request in hand that enters WAITING puts its drive at the end of the wait list with the urgency judged
then. A free channel goes to the earliest-joined drive recorded URGENT, else to the earliest-joined; the drive leaves the list, its
run length is 1 and the pass of its request in hand starts. A release frees the channel, sets the run length to 0 and is followed at
once by the next grant. At the end of a successful pass the drive chooses while it holds the channel: the choice passes at once when
its sector is on the current cylinder and its wait W below floor(P / 15), the run is shorter than 15, and no URGENT drive waits or the
choice is URGENT itself; otherwise, and with nothing to choose, the channel is released, and then the choice goes into hand. -/
def Obligations.ChannelGoesToTheEarliestUrgentDrive : Prop :=
  (∀ c : Channel,
    (c.next = none ↔ c.waitList = []) ∧
    ∀ d, c.next = some d →
      ∃ before cls after, c.waitList = before ++ (d, cls) :: after ∧
        ((cls = .urgent ∧ ∀ x ∈ before, x.2 = .routine) ∨
          (cls = .routine ∧ before = [] ∧ ∀ x ∈ c.waitList, x.2 = .routine))) ∧
  (∀ (s : State) (d : DriveNo) (r : SectorRequest),
    s.enterWaiting d r =
      (s.setSched d { s.scheds[d] with inHand := some ⟨r, .waiting⟩ }).setChannel
        { s.channel with waitList := s.channel.waitList ++
          [(d, if r.cls = .urgent ∨ s.settings[d].aging ≤ (s.tick - r.entry).toNat then .urgent else .routine)] }) ∧
  (∀ s : State,
    ((s.channel.grant ≠ none ∨ s.channel.next = none) → s.grantChannel = s) ∧
    ∀ d, s.channel.grant = none → s.channel.next = some d →
      let taken := (s.setChannel
        { s.channel with grant := some d, waitList := s.channel.waitList.filter (fun x => x.1 ≠ d) }).setSched d
          { s.scheds[d] with runLength := 1 }
      (∀ h, s.scheds[d].inHand = some h → s.grantChannel = taken.startPass d h.request) ∧
      (s.scheds[d].inHand = none → s.grantChannel = taken)) ∧
  (∀ (s : State) (d : DriveNo),
    (s.channel.grant ≠ some d → s.releaseChannel d = s ∧ s.continueRun d = s) ∧
    (s.channel.grant = some d →
      s.releaseChannel d =
        ((s.setChannel { s.channel with grant := none }).setSched d { s.scheds[d] with runLength := 0 }).grantChannel ∧
      let u := s.drives[d]
      let chooses := (u.state = .mounting ∨ u.state = .mounted ∨ u.state = .formatting) ∧ s.scheds[d].inHand = none ∧
        u.motion = .still ∧ (∀ n, u.head ≠ .loading n) ∧ s.scheds[d].workList ≠ [] ∧ u.pendingRecal = false
      (¬chooses → s.continueRun d = s.releaseChannel d) ∧
      (chooses → s.chosen d = none → s.continueRun d = s.releaseChannel d) ∧
      ∀ r, chooses → s.chosen d = some r →
        let goesOn := u.position = some r.target.cylinder ∧
          (positioningCost s.settings[d] u r.target.cylinder (s.costSkew d) r.target).2 < u.period / 15 ∧
          s.scheds[d].runLength < 15 ∧
          ((∀ x ∈ s.channel.waitList, x.2 = .routine) ∨ r.cls = .urgent ∨ s.settings[d].aging ≤ (s.tick - r.entry).toNat)
        let taken := s.takeChosen d r
        (goesOn → s.continueRun d =
          (taken.setSched d { taken.scheds[d] with runLength := taken.scheds[d].runLength + 1 }).startPass d r) ∧
        (¬goesOn → s.continueRun d = (taken.releaseChannel d).putInHand d r)))

/-! ### Passes -/

/-- The start of a pass (R65, R66): HEAD-SELECT is the target's head, the pass record is in SEARCH, or in FORMAT-WAIT for a
FORMAT-TRACK, with both counts 0, and for a catalogue sector the sector image is built. The end of a pass (R61, R76, R80): the tallies
count first, the request leaves hand and the pass record is empty; a success goes to the owner and the run may go on; WRITE-PROTECTED
goes to the owner, a failed attempt to the retry sequence, and the channel is released; the request of a withdrawn pass only gives up
its page. After WRONG-CYLINDER the position is unknown and a recalibration starts at once and counts (R79): DIRECTION outward, and
with TRACK-ZERO active the settle, else the first pulse (R32, R33), or on a drive that has left use no pulse, the recalibration cut
off (R39, log 18). A pass that RESTART let finish (R75, R193) only counts, a failed one as one failed attempt; its page is freed, its
drive takes the record of R20 and the channel is released; that a failed one brings no hard failure, and no recalibration even after
WRONG-CYLINDER, is the model's choice (log 16, DEDUCED). That the pools are served before the channel is released is log 13. -/
def Obligations.PassesStartAndEnd : Prop :=
  (∀ (s : State) (d : DriveNo) (r : SectorRequest),
    let pass : Pass :=
      { drive := d, phase := if r.operation = .formatTrack then .formatWait else .search, indexCount := 0, wrongCount := 0,
        withdrawn := false, matched := false, finishing := false }
    let begun := (s.setSched d { s.scheds[d] with inHand := some ⟨r, .passing⟩ }).setChannel
      { s.channel with headSelect := r.target.head, writeGate := false, writeData := .none, pass := some pass }
    (∀ q, r.owner = .catalogue q → s.startPass d r = begun.buildSector d q r.page) ∧
    ((∀ q, r.owner ≠ .catalogue q) → s.startPass d r = begun)) ∧
  (∀ (s : State) (d : DriveNo) (op : Operation) (cause : PassCause),
    let c := s.driveTallies[d]
    s.countPass d .read .done = s.setDriveTally d { c with sectorsRead := min (c.sectorsRead + 1) 65535 } ∧
    ((op = .write ∨ op = .writeVerify) →
      s.countPass d op .done = s.setDriveTally d { c with sectorsWritten := min (c.sectorsWritten + 1) 65535 }) ∧
    s.countPass d .formatTrack .done = s.setDriveTally d { c with sectorsWritten := min (c.sectorsWritten + 15) 65535 } ∧
    s.countPass d op .isProtected = s ∧
    s.countPass d op (.failed cause) = s.setDriveTally d { c with failedAttempts := min (c.failedAttempts + 1) 65535 }) ∧
  (∀ (s : State) (p : Pass) (r : SectorRequest) (e : PassEnd),
    let d := p.drive
    let ended := (s.countPass d r.operation e).setChannel { s.channel with pass := none, writeGate := false, writeData := .none }
    let out := ended.setSched d { s.scheds[d] with inHand := none }
    let hands := fun (t : State) => if p.withdrawn then out.freePage r.page else t
    (p.finishing = true → s.endPass p r e = ended.finishPass d r.page) ∧
    (p.finishing = false →
      (e = .done → s.endPass p r e = (hands (out.ownerDone r)).servePools.continueRun d) ∧
      (e = .isProtected → s.endPass p r e = (hands (out.ownerProtected r)).servePools.releaseChannel d) ∧
      ∀ cause, e = .failed cause →
        let released := (hands (out.retryOrFail d r cause)).servePools.releaseChannel d
        s.endPass p r e = if cause = .wrongCylinder then released.recalAtOnce d else released)) ∧
  (∀ (s : State) (r : SectorRequest) (cause : PassCause),
    (∀ desk h j, r.owner = .handleSector desk h j →
      (r.operation = .read → s.ownerDone r = s.readDone desk h j r.page ∧ s.ownerFailed r cause = s.readFailed desk h j r.page cause) ∧
      (r.operation ≠ .read → s.ownerDone r = s.writeDone desk h j r.page ∧ s.ownerFailed r cause = s.writeFailed desk h j r.page) ∧
      s.ownerProtected r = s.writeProtected desk h j r.page) ∧
    (r.owner = .mountLabel →
      s.ownerDone r = s.mountLabelDone r.drive r.page ∧ s.ownerFailed r cause = s.mountLabelFailed r.drive r.page) ∧
    (∀ q, r.owner = .mountCatalogue q →
      s.ownerDone r = s.mountCatalogueDone r.drive q r.page ∧ s.ownerFailed r cause = s.mountCatalogueFailed r.drive q r.page) ∧
    (((∃ t, r.owner = .formatTrack t) ∨ (∃ l, r.owner = .formatVerify l) ∨ r.owner = .formatLabel ∨ ∃ q, r.owner = .formatCatalogue q) →
      s.ownerDone r = s.formatDone r.page ∧ s.ownerFailed r cause = s.formatFailed r.page ∧
      s.ownerProtected r = s.formatProtected r.page)) ∧
  (∀ (s : State) (d : DriveNo) (p : PageNo),
    let u := s.drives[d]
    s.finishPass d p =
      (((s.freePage p).setSched d { s.scheds[d] with inHand := none }).setDrive d
        { u with state := if u.ready then (if s.settings[d].autoMount then .spinCheck else .offline) else .empty,
                 isProtected := false, damaged := false, faultCause := none, position := none, head := .unloaded, idleCount := 0,
                 elapsed := 0, period := 1667, badRun := 0, reference := false, validCount := 0, latches := [],
                 pendingRecal := false, mount := .clear, motion := .still }).releaseChannel d ∧
    let inUse := u.state = .mounting ∨ u.state = .mounted ∨ u.state = .formatting
    let st := s.settings[d]
    let c := s.driveTallies[d]
    let recals := fun (v : DriveUnit) =>
      (s.setDrive d v).setDriveTally d { c with recalibrations := min (c.recalibrations + 1) 65535 }
    let outward : DriveUnit := { u with direction := false, position := none, pendingRecal := false }
    (inUse → s.recalAtOnce d = s.startRecal d) ∧
    (¬inUse → u.trackZero = true →
      s.recalAtOnce d = recals { outward with stepPulses := 0, motion := .recalSettle st.settle }) ∧
    (¬inUse → u.trackZero = false → s.recalAtOnce d = recals { outward with stepPulses := 0, motion := .still }) ∧
    (u.trackZero = true → s.startRecal d = recals { outward with stepPulses := 0, motion := .recalSettle st.settle }) ∧
    (u.trackZero = false →
      s.startRecal d = recals { outward with stepPulses := 1, motion := .recalStep 1 st.settle st.stepInterval st.stepInterval }))

/-- An ID field meets the pass (R67, R68, R70 to R72), with the two bytes of its check high byte first (R2, R6). A check that does not
agree, and another head or sector on the target's cylinder, change nothing; another cylinder counts, the second one ending the pass; a
match lets a READ take its data field, starts the recording of a write, its data field the bytes of the page and their check, unless
WRITE-PROTECT is active then, and in READ-BACK awaits the data field. Where a data field was awaited an ID field is the next field
mark and ends the pass. A data field meets the pass (R69, R72): a READ takes its 512 bytes into its page and ends successfully when
the check agrees and DATA-CHECK when it does not; a read-back compares every byte with the page and the check with the bytes; any
other phase, and the transfer of a write, takes no notice. The end of a recorded field (R71, R72) ends a WRITE successfully and begins
the read-back of a WRITE-VERIFY with both counts at 0 and WRITE-GATE released. Without a pass none of the three does anything. -/
def Obligations.FieldsMeetThePass : Prop :=
  (∀ (cylinder head sector : Byte) (check : Byte × Byte) (s : State), s.powerGood = true →
    let run := exec (.idFieldRead cylinder head sector check) s
    (s.passOf = none → run = .next s.settle) ∧
    ∀ p r, s.passOf = some (p, r) →
      let ends := fun (e : PassEnd) => run = .next (s.endPass p r e).settle
      let searches := p.phase = .search ∨ (p.phase = .readBack ∧ p.matched = false)
      let sound := check.1.toNat * 256 + check.2.toNat = (checkOf [cylinder, head, sector]).toNat
      let here := cylinder.toNat = r.target.cylinder
      let match' := here ∧ head.toNat = r.target.head ∧ sector.toNat = r.target.sector
      let becomes := fun (c : Channel) => run = .next (s.setChannel c).settle
      (searches → ¬sound → run = .next s.settle) ∧
      (searches → sound → here → ¬match' → run = .next s.settle) ∧
      (searches → sound → ¬here → p.wrongCount ≠ 1 → becomes { s.channel with pass := some { p with wrongCount := p.wrongCount + 1 } }) ∧
      (p.phase = .search → sound → ¬here → p.wrongCount = 1 → ends (.failed .wrongCylinder)) ∧
      (p.phase = .readBack → p.matched = false → sound → ¬here → p.wrongCount = 1 → ends (.failed .verifyMismatch)) ∧
      (p.phase = .search → sound → match' →
        (r.operation = .read → becomes { s.channel with pass := some { p with phase := .transfer } }) ∧
        (r.operation ≠ .read → s.drives[p.drive].writeProtect = true → ends .isProtected) ∧
        (r.operation ≠ .read → s.drives[p.drive].writeProtect = false →
          becomes { s.channel with pass := some { p with phase := .transfer }, writeGate := true,
                                   writeData := .dataField (s.pageBytes r.page ++ twoBytes (checkOf (s.pageBytes r.page)).toNat) })) ∧
      (p.phase = .readBack → p.matched = false → sound → match' → becomes { s.channel with pass := some { p with matched := true } }) ∧
      (p.phase = .readBack → p.matched = true → ends (.failed .verifyMismatch)) ∧
      (p.phase = .transfer → r.operation = .read → ends (.failed .dataCheck)) ∧
      (p.phase = .transfer → r.operation ≠ .read → run = .next s.settle) ∧
      ((p.phase = .formatWait ∨ p.phase = .formatWrite) → run = .next s.settle)) ∧
  (∀ (data : Vector Byte 512) (check : Byte × Byte) (s : State), s.powerGood = true →
    let read := exec (.dataFieldRead data check) s
    let written := exec .dataFieldWritten s
    let bytes := data.toList
    let sound := check.1.toNat * 256 + check.2.toNat = (checkOf bytes).toNat
    (s.passOf = none → read = .next s.settle ∧ written = .next s.settle) ∧
    ∀ p r, s.passOf = some (p, r) →
      (p.phase = .transfer → r.operation = .read →
        written = .next s.settle ∧
        (sound → read = .next ((s.fillPage r.page bytes).endPass p r .done).settle) ∧
        (¬sound → read = .next ((s.fillPage r.page bytes).endPass p r (.failed .dataCheck)).settle)) ∧
      (p.phase = .readBack → p.matched = true →
        (bytes = s.pageBytes r.page ∧ sound → read = .next (s.endPass p r .done).settle) ∧
        (¬(bytes = s.pageBytes r.page ∧ sound) → read = .next (s.endPass p r (.failed .verifyMismatch)).settle)) ∧
      ((p.phase = .search ∨ p.phase = .formatWait ∨ p.phase = .formatWrite ∨ (p.phase = .readBack ∧ p.matched = false) ∨
          (p.phase = .transfer ∧ r.operation ≠ .read)) →
        read = .next s.settle) ∧
      (p.phase = .transfer → r.operation = .write → written = .next (s.endPass p r .done).settle) ∧
      (p.phase = .transfer → r.operation = .writeVerify →
        written = .next (s.setChannel { s.channel with
          pass := some { p with phase := .readBack, indexCount := 0, wrongCount := 0, matched := false }, writeGate := false,
          writeData := .none }).settle) ∧
      ((p.phase ≠ .transfer ∨ r.operation = .formatTrack) → written = .next s.settle))

/-- An index pulse meets the pass of its drive (R67 to R70, R72, R73): it counts in a search, whose second ends it ID-NOT-FOUND, or
VERIFY-MISMATCH in a read-back; where a data field was awaited it ends the pass; in FORMAT-WAIT it begins the recording of the track,
its 15 sectors in the page's order with the ID field and a data field of zero bytes of each and their checks (R6), unless
WRITE-PROTECT is active then, and in FORMAT-WRITE it ends it successfully. With no pass, or a pass of another drive, it reaches no
pass. -/
def Obligations.IndexPulsesMeetThePass : Prop :=
  (∀ (s : State) (d : DriveNo), s.passOf = none → s.passPulse d = s) ∧
  (∀ (s : State) (d : DriveNo) (p : Pass) (r : SectorRequest), s.passOf = some (p, r) → p.drive ≠ d → s.passPulse d = s) ∧
  ∀ (s : State) (d : DriveNo) (p : Pass) (r : SectorRequest), s.passOf = some (p, r) → p.drive = d →
    let becomes := fun (c : Channel) => s.passPulse d = s.setChannel c
    (p.phase = .search → p.indexCount ≠ 1 → becomes { s.channel with pass := some { p with indexCount := p.indexCount + 1 } }) ∧
    (p.phase = .search → p.indexCount = 1 → s.passPulse d = s.endPass p r (.failed .idNotFound)) ∧
    (p.phase = .transfer → r.operation = .read → s.passPulse d = s.endPass p r (.failed .dataCheck)) ∧
    (p.phase = .transfer → r.operation ≠ .read → s.passPulse d = s) ∧
    (p.phase = .readBack → p.matched = false → p.indexCount ≠ 1 →
      becomes { s.channel with pass := some { p with indexCount := p.indexCount + 1 } }) ∧
    (p.phase = .readBack → (p.matched = true ∨ p.indexCount = 1) → s.passPulse d = s.endPass p r (.failed .verifyMismatch)) ∧
    (p.phase = .formatWait → s.drives[d].writeProtect = true → s.passPulse d = s.endPass p r .isProtected) ∧
    (p.phase = .formatWait → s.drives[d].writeProtect = false →
      becomes { s.channel with pass := some { p with phase := .formatWrite }, writeGate := true,
                               writeData := .track (((s.pageBytes r.page).take 15).map (fun x =>
                                 let id := [byteOf r.target.cylinder, byteOf r.target.head, x]
                                 let data := List.replicate 512 0
                                 { idField := id ++ twoBytes (checkOf id).toNat,
                                   dataField := data ++ twoBytes (checkOf data).toNat })) }) ∧
    (p.phase = .formatWrite → s.passPulse d = s.endPass p r .done)

/-- A failed attempt (R77, R78): attempts goes up by one; at the drive's retry setting the request ends with MEDIA at its owner and
counts a hard failure; below it the request goes back to the work list with its other fields kept, and at the third attempt of a
request that has not recalibrated a recalibration becomes pending, which WRONG-CYLINDER's own one serves. -/
def Obligations.FailedAttemptsAreRetried : Prop :=
  ∀ (s : State) (d : DriveNo) (r : SectorRequest) (cause : PassCause),
    let third := r.attempts = 2 ∧ r.recalibrated = false
    let back := { r with attempts := r.attempts + 1, recalibrated := r.recalibrated || decide third }
    let requeued := s.setSched d { s.scheds[d] with workList := s.scheds[d].workList ++ [back] }
    (s.settings[d].retries ≤ r.attempts + 1 →
      s.retryOrFail d r cause =
        (s.setDriveTally d { s.driveTallies[d] with hardFailures := min (s.driveTallies[d].hardFailures + 1) 65535 }).ownerFailed
          { r with attempts := r.attempts + 1 } cause) ∧
    (r.attempts + 1 < s.settings[d].retries →
      (third → cause ≠ .wrongCylinder →
        s.retryOrFail d r cause = requeued.setDrive d { s.drives[d] with pendingRecal := true }) ∧
      (¬(third ∧ cause ≠ .wrongCylinder) → s.retryOrFail d r cause = requeued))

/-! ### Places, allocation and recorded forms -/

/-- Logical sectors and places (R9) and rotational slots (R7): each logical sector lies at one place of the data cylinders and each
such place has one, and the sector recorded in slot k of a cylinder is the one whose slot is k. -/
def Obligations.SectorNumberingIsOneToOne : Prop :=
  (∀ l, l < 2280 →
    (targetOfL l).cylinder = 1 + l / 30 ∧ (targetOfL l).cylinder ≤ 76 ∧ (targetOfL l).head ≤ 1 ∧ (targetOfL l).sector ≤ 14 ∧
    lOfTarget (targetOfL l) = l) ∧
  (∀ t : Target, 1 ≤ t.cylinder → t.cylinder ≤ 76 → t.head ≤ 1 → t.sector ≤ 14 →
    lOfTarget t = (t.cylinder - 1) * 30 + t.head * 15 + t.sector ∧ lOfTarget t < 2280 ∧ targetOfL (lOfTarget t) = t) ∧
  ∀ skew c k, k < 15 →
    rotationalSlot skew c (sectorInSlot skew c k) = k ∧ sectorInSlot skew c (rotationalSlot skew c k) = k ∧
    sectorInSlot skew c k < 15 ∧ rotationalSlot 0 0 k = k

/-- A reservation (R101): refused DISK-FULL exactly when fewer than n sectors are free; granted, it gives n free sectors in at most 8
extents of ascending L, each of at least one sector, and takes the lowest runs whole, each as one extent: a free sector below the last
one given is given, and no extent runs on into the next. Otherwise it is refused FRAGMENTED, exactly when the lowest n free sectors
lie in more than 8 runs. -/
def Obligations.ReservationGivesTheLowestFreeRuns : Prop :=
  ∀ (img : Image) (n : Nat), img.mapSound →
    let freeOnes := (List.range 2280).filter (fun l => !img.allocated.contains l)
    let runs := ((freeOnes.take n).filter (fun l => l == 0 || img.allocated.contains (l - 1))).length
    let free := fun (l : Nat) => l < 2280 ∧ l ∉ img.allocated
    (img.reserve n = .error .diskFull ↔ freeOnes.length < n) ∧
    (img.reserve n = .error .fragmented ↔ n ≤ freeOnes.length ∧ 8 < runs) ∧
    (∀ r, img.reserve n = .error r → r = .diskFull ∨ r = .fragmented) ∧
    ∀ es, img.reserve n = .ok es →
      es.length ≤ 8 ∧ (sectorsOf es).length = n ∧ (∀ e ∈ es, 1 ≤ e.count) ∧
      es.Pairwise (fun a b => a.start + a.count < b.start) ∧
      (sectorsOf es).Pairwise (fun a b => a < b) ∧ (∀ l ∈ sectorsOf es, free l) ∧
      (∀ l m, l ∈ sectorsOf es → free m → m < l → m ∈ sectorsOf es)

/-- A check register fed with its own check comes to 0 (R3), whatever was taken before: so a field followed by its check, or a reply
frame from its LEN on, comes to 0. -/
def Obligations.CheckOverItsOwnCheckIsZero : Prop :=
  checkOf [] = 0xFFFF ∧
  (∀ (c : Check) (data : List Byte), checkFrom c (data ++ checkBytes (checkFrom c data)) = 0) ∧
  ∀ r : Reply, r.frame.head? = some 0xA7 ∧ checkOf r.frame.tail = 0 ∧ r.frame.length = r.body.length + 4

/-- What a catalogue sector records is what a mount reads back (R13, R14, R18, R37): the image of eight slots without carried changes
takes 512 bytes, and its examination keeps exactly the FILED slots with their fields and discards nothing. What FORMAT writes as a
label is what a mount accepts, with its name, skew and bad list (R11, R12). -/
def Obligations.RecordedFormsReadBackAsWritten : Prop :=
  (∀ (slots : Vector Slot 232) (q : CatNo),
    (∀ n ∈ slotsOf q, (slots[n]).carried = false ∧ ((slots[n]).state = .filed → (slots[n]).recordable)) →
    (sectorImage slots q).length = 512 ∧
    examineSector q (sectorImage slots q) =
      (((slotsOf q).filter (fun n => (slots[n]).state == .filed)).map (fun n => (n, (slots[n]).record)), false)) ∧
  (∀ (name : Chars) (skew : Nat) (bad : List Nat), 1 ≤ name.length → name.length ≤ 12 → (∀ b ∈ name, slugChar b = true) →
    skew ≤ 14 → bad.length ≤ 16 → (∀ l ∈ bad, l < 2280) →
    (labelBytes name skew bad).length = 512 ∧ labelOf (labelBytes name skew bad) = some { name := name, skew := skew, bad := bad })

/-- The cross-record examination (R15): whatever records were kept, those accepted stand in ascending slot order, no two have the same
slug, and no logical sector is named twice among them and the bad list; a kept record whose slug no accepted record of a lower slot
has, whose sectors are distinct, and of whose sectors neither the bad list nor an accepted record of a lower slot has one, is
accepted. The discarded mark is set exactly when a kept record is not accepted. -/
def Obligations.AcceptedRecordsShareNothing : Prop :=
  ∀ (bad : List Nat) (kept : List (SlotNo × StoryRecord)),
    let a := crossExamine bad kept
    (a.records.map Prod.fst).Pairwise (fun n m => n < m) ∧ (∀ x ∈ a.records, x ∈ kept) ∧
    (a.records.map (fun x => x.2.slug)).Nodup ∧
    ((a.records.flatMap (fun x => sectorsOf x.2.extents))).Nodup ∧
    (∀ x ∈ a.records, ∀ l ∈ sectorsOf x.2.extents, l ∉ bad) ∧
    (∀ x ∈ kept, (∀ y ∈ kept, y.1 = x.1 → y = x) → (∀ y ∈ a.records, y.1 < x.1 → y.2.slug ≠ x.2.slug) →
      (sectorsOf x.2.extents).Nodup → (∀ l ∈ sectorsOf x.2.extents, l ∉ bad) →
      (∀ y ∈ a.records, y.1 < x.1 → ∀ l ∈ sectorsOf x.2.extents, l ∉ sectorsOf y.2.extents) → x ∈ a.records) ∧
    (a.discarded = false → ∀ x ∈ kept, (∀ y ∈ kept, y.1 = x.1 → y = x) → x ∈ a.records) ∧
    (a.discarded = true → ∃ x ∈ kept, x ∉ a.records)

/-! ### The whole part -/

/-- Every step keeps at least one desk with SUPERVISOR, every quota at 1 to 56 and every drive's settings in their ranges (R41, R85,
R175). -/
def Obligations.EveryStepKeepsLegalSettings : Prop :=
  ∀ s t : State, step s = .next t → s.legalSettings → t.legalSettings

/-- Every step keeps every notice queue at most 8 long, with NOTICES-LOST only as its last entry and a count of 2 to 65,535 (R158). -/
def Obligations.EveryStepKeepsNoticeQueuesSound : Prop :=
  ∀ s t : State, step s = .next t → s.queuesSound → t.queuesSound

/-- Every step keeps every allocation map a list of data sectors, each once and in ascending order, and what the mount records hold
within the data sectors (R12, R14, R100). -/
def Obligations.EveryStepKeepsAllocationMapsSound : Prop :=
  ∀ s t : State, step s = .next t → s.mapsSound → t.mapsSound

/-- State.reset is the power-on state of R194, and the ranges of the three invariants hold there; that every READY line is low then is
the model's choice (log 6). -/
def Obligations.ResetIsThePowerOnState : Prop :=
  (State.reset.afterPower ∧ State.reset.pending = [] ∧ ∀ d : DriveNo, (State.reset.drives[d]).afterPower false false false) ∧
  (State.reset.sound)

/-- What follows at once from a command answers only desks whose request waits (R168, R171): a desk with nothing in progress keeps its
line, its continuation and its cursor and has nothing in progress still. POWER-GOOD, the tick count, the settings, the rights and
quotas, the desk tallies and the waiting commands stay. -/
def Obligations.SettlingAnswersOnlyWaitingDesks : Prop :=
  ∀ s : State,
    let t := s.settle
    (∀ desk : Desk, s.desks[desk].inProgress = none → s.sameDesk t desk) ∧
    t.powerGood = s.powerGood ∧ t.tick = s.tick ∧ t.settings = s.settings ∧ t.deskSettings = s.deskSettings ∧
    t.deskTallies = s.deskTallies ∧ t.pending = s.pending

/-- A request of one desk, RESTART apart, leaves every other desk that has nothing in progress its line, its continuation, its cursor
and its subscriptions, whatever it does to drives, handles and holds (R167, R171, R177). -/
def Obligations.RequestsLeaveOtherIdleDesksAlone : Prop :=
  ∀ (k : Kind) (desk e : Desk) (fields : List Byte) (s t : State), k ≠ .restart → e ≠ desk → s.desks[e].inProgress = none →
    exec (k.command desk fields) s = .next t → s.sameDesk t e
end

