-- ==== Sys2Proof/Laws/State.lean ====
section
/-! SUPPORT. One lemma for each field of State and each update of one part, so that no proof unfolds a record update. -/

namespace Sys2Proof.Machine

variable (s : State)

@[simp] theorem State.setDrive_powerGood (d : DriveNo) (x : DriveUnit) : (s.setDrive d x).powerGood = s.powerGood := rfl
@[simp] theorem State.setDrive_tick (d : DriveNo) (x : DriveUnit) : (s.setDrive d x).tick = s.tick := rfl
@[simp] theorem State.setDrive_seq (d : DriveNo) (x : DriveUnit) : (s.setDrive d x).seq = s.seq := rfl
@[simp] theorem State.setDrive_imageSerial (d : DriveNo) (x : DriveUnit) : (s.setDrive d x).imageSerial = s.imageSerial := rfl
@[simp] theorem State.setDrive_drives (d : DriveNo) (x : DriveUnit) : (s.setDrive d x).drives = s.drives.set d x := rfl
@[simp] theorem State.setDrive_settings (d : DriveNo) (x : DriveUnit) : (s.setDrive d x).settings = s.settings := rfl
@[simp] theorem State.setDrive_scheds (d : DriveNo) (x : DriveUnit) : (s.setDrive d x).scheds = s.scheds := rfl
@[simp] theorem State.setDrive_images (d : DriveNo) (x : DriveUnit) : (s.setDrive d x).images = s.images := rfl
@[simp] theorem State.setDrive_channel (d : DriveNo) (x : DriveUnit) : (s.setDrive d x).channel = s.channel := rfl
@[simp] theorem State.setDrive_pool (d : DriveNo) (x : DriveUnit) : (s.setDrive d x).pool = s.pool := rfl
@[simp] theorem State.setDrive_handles (d : DriveNo) (x : DriveUnit) : (s.setDrive d x).handles = s.handles := rfl
@[simp] theorem State.setDrive_desks (d : DriveNo) (x : DriveUnit) : (s.setDrive d x).desks = s.desks := rfl
@[simp] theorem State.setDrive_deskSettings (d : DriveNo) (x : DriveUnit) : (s.setDrive d x).deskSettings = s.deskSettings := rfl
@[simp] theorem State.setDrive_lines (d : DriveNo) (x : DriveUnit) : (s.setDrive d x).lines = s.lines := rfl
@[simp] theorem State.setDrive_driveTallies (d : DriveNo) (x : DriveUnit) : (s.setDrive d x).driveTallies = s.driveTallies := rfl
@[simp] theorem State.setDrive_deskTallies (d : DriveNo) (x : DriveUnit) : (s.setDrive d x).deskTallies = s.deskTallies := rfl
@[simp] theorem State.setDrive_sequencer (d : DriveNo) (x : DriveUnit) : (s.setDrive d x).sequencer = s.sequencer := rfl
@[simp] theorem State.setDrive_pending (d : DriveNo) (x : DriveUnit) : (s.setDrive d x).pending = s.pending := rfl

@[simp] theorem State.setSettings_powerGood (d : DriveNo) (x : Settings) : (s.setSettings d x).powerGood = s.powerGood := rfl
@[simp] theorem State.setSettings_tick (d : DriveNo) (x : Settings) : (s.setSettings d x).tick = s.tick := rfl
@[simp] theorem State.setSettings_seq (d : DriveNo) (x : Settings) : (s.setSettings d x).seq = s.seq := rfl
@[simp] theorem State.setSettings_imageSerial (d : DriveNo) (x : Settings) : (s.setSettings d x).imageSerial = s.imageSerial := rfl
@[simp] theorem State.setSettings_drives (d : DriveNo) (x : Settings) : (s.setSettings d x).drives = s.drives := rfl
@[simp] theorem State.setSettings_settings (d : DriveNo) (x : Settings) : (s.setSettings d x).settings = s.settings.set d x := rfl
@[simp] theorem State.setSettings_scheds (d : DriveNo) (x : Settings) : (s.setSettings d x).scheds = s.scheds := rfl
@[simp] theorem State.setSettings_images (d : DriveNo) (x : Settings) : (s.setSettings d x).images = s.images := rfl
@[simp] theorem State.setSettings_channel (d : DriveNo) (x : Settings) : (s.setSettings d x).channel = s.channel := rfl
@[simp] theorem State.setSettings_pool (d : DriveNo) (x : Settings) : (s.setSettings d x).pool = s.pool := rfl
@[simp] theorem State.setSettings_handles (d : DriveNo) (x : Settings) : (s.setSettings d x).handles = s.handles := rfl
@[simp] theorem State.setSettings_desks (d : DriveNo) (x : Settings) : (s.setSettings d x).desks = s.desks := rfl
@[simp] theorem State.setSettings_deskSettings (d : DriveNo) (x : Settings) : (s.setSettings d x).deskSettings = s.deskSettings := rfl
@[simp] theorem State.setSettings_lines (d : DriveNo) (x : Settings) : (s.setSettings d x).lines = s.lines := rfl
@[simp] theorem State.setSettings_driveTallies (d : DriveNo) (x : Settings) : (s.setSettings d x).driveTallies = s.driveTallies := rfl
@[simp] theorem State.setSettings_deskTallies (d : DriveNo) (x : Settings) : (s.setSettings d x).deskTallies = s.deskTallies := rfl
@[simp] theorem State.setSettings_sequencer (d : DriveNo) (x : Settings) : (s.setSettings d x).sequencer = s.sequencer := rfl
@[simp] theorem State.setSettings_pending (d : DriveNo) (x : Settings) : (s.setSettings d x).pending = s.pending := rfl

@[simp] theorem State.setSched_powerGood (d : DriveNo) (x : Scheduler) : (s.setSched d x).powerGood = s.powerGood := rfl
@[simp] theorem State.setSched_tick (d : DriveNo) (x : Scheduler) : (s.setSched d x).tick = s.tick := rfl
@[simp] theorem State.setSched_seq (d : DriveNo) (x : Scheduler) : (s.setSched d x).seq = s.seq := rfl
@[simp] theorem State.setSched_imageSerial (d : DriveNo) (x : Scheduler) : (s.setSched d x).imageSerial = s.imageSerial := rfl
@[simp] theorem State.setSched_drives (d : DriveNo) (x : Scheduler) : (s.setSched d x).drives = s.drives := rfl
@[simp] theorem State.setSched_settings (d : DriveNo) (x : Scheduler) : (s.setSched d x).settings = s.settings := rfl
@[simp] theorem State.setSched_scheds (d : DriveNo) (x : Scheduler) : (s.setSched d x).scheds = s.scheds.set d x := rfl
@[simp] theorem State.setSched_images (d : DriveNo) (x : Scheduler) : (s.setSched d x).images = s.images := rfl
@[simp] theorem State.setSched_channel (d : DriveNo) (x : Scheduler) : (s.setSched d x).channel = s.channel := rfl
@[simp] theorem State.setSched_pool (d : DriveNo) (x : Scheduler) : (s.setSched d x).pool = s.pool := rfl
@[simp] theorem State.setSched_handles (d : DriveNo) (x : Scheduler) : (s.setSched d x).handles = s.handles := rfl
@[simp] theorem State.setSched_desks (d : DriveNo) (x : Scheduler) : (s.setSched d x).desks = s.desks := rfl
@[simp] theorem State.setSched_deskSettings (d : DriveNo) (x : Scheduler) : (s.setSched d x).deskSettings = s.deskSettings := rfl
@[simp] theorem State.setSched_lines (d : DriveNo) (x : Scheduler) : (s.setSched d x).lines = s.lines := rfl
@[simp] theorem State.setSched_driveTallies (d : DriveNo) (x : Scheduler) : (s.setSched d x).driveTallies = s.driveTallies := rfl
@[simp] theorem State.setSched_deskTallies (d : DriveNo) (x : Scheduler) : (s.setSched d x).deskTallies = s.deskTallies := rfl
@[simp] theorem State.setSched_sequencer (d : DriveNo) (x : Scheduler) : (s.setSched d x).sequencer = s.sequencer := rfl
@[simp] theorem State.setSched_pending (d : DriveNo) (x : Scheduler) : (s.setSched d x).pending = s.pending := rfl

@[simp] theorem State.setImage_powerGood (d : DriveNo) (x : Option Image) : (s.setImage d x).powerGood = s.powerGood := rfl
@[simp] theorem State.setImage_tick (d : DriveNo) (x : Option Image) : (s.setImage d x).tick = s.tick := rfl
@[simp] theorem State.setImage_seq (d : DriveNo) (x : Option Image) : (s.setImage d x).seq = s.seq := rfl
@[simp] theorem State.setImage_imageSerial (d : DriveNo) (x : Option Image) : (s.setImage d x).imageSerial = s.imageSerial := rfl
@[simp] theorem State.setImage_drives (d : DriveNo) (x : Option Image) : (s.setImage d x).drives = s.drives := rfl
@[simp] theorem State.setImage_settings (d : DriveNo) (x : Option Image) : (s.setImage d x).settings = s.settings := rfl
@[simp] theorem State.setImage_scheds (d : DriveNo) (x : Option Image) : (s.setImage d x).scheds = s.scheds := rfl
@[simp] theorem State.setImage_images (d : DriveNo) (x : Option Image) : (s.setImage d x).images = s.images.set d x := rfl
@[simp] theorem State.setImage_channel (d : DriveNo) (x : Option Image) : (s.setImage d x).channel = s.channel := rfl
@[simp] theorem State.setImage_pool (d : DriveNo) (x : Option Image) : (s.setImage d x).pool = s.pool := rfl
@[simp] theorem State.setImage_handles (d : DriveNo) (x : Option Image) : (s.setImage d x).handles = s.handles := rfl
@[simp] theorem State.setImage_desks (d : DriveNo) (x : Option Image) : (s.setImage d x).desks = s.desks := rfl
@[simp] theorem State.setImage_deskSettings (d : DriveNo) (x : Option Image) : (s.setImage d x).deskSettings = s.deskSettings := rfl
@[simp] theorem State.setImage_lines (d : DriveNo) (x : Option Image) : (s.setImage d x).lines = s.lines := rfl
@[simp] theorem State.setImage_driveTallies (d : DriveNo) (x : Option Image) : (s.setImage d x).driveTallies = s.driveTallies := rfl
@[simp] theorem State.setImage_deskTallies (d : DriveNo) (x : Option Image) : (s.setImage d x).deskTallies = s.deskTallies := rfl
@[simp] theorem State.setImage_sequencer (d : DriveNo) (x : Option Image) : (s.setImage d x).sequencer = s.sequencer := rfl
@[simp] theorem State.setImage_pending (d : DriveNo) (x : Option Image) : (s.setImage d x).pending = s.pending := rfl

@[simp] theorem State.setChannel_powerGood (x : Channel) : (s.setChannel x).powerGood = s.powerGood := rfl
@[simp] theorem State.setChannel_tick (x : Channel) : (s.setChannel x).tick = s.tick := rfl
@[simp] theorem State.setChannel_seq (x : Channel) : (s.setChannel x).seq = s.seq := rfl
@[simp] theorem State.setChannel_imageSerial (x : Channel) : (s.setChannel x).imageSerial = s.imageSerial := rfl
@[simp] theorem State.setChannel_drives (x : Channel) : (s.setChannel x).drives = s.drives := rfl
@[simp] theorem State.setChannel_settings (x : Channel) : (s.setChannel x).settings = s.settings := rfl
@[simp] theorem State.setChannel_scheds (x : Channel) : (s.setChannel x).scheds = s.scheds := rfl
@[simp] theorem State.setChannel_images (x : Channel) : (s.setChannel x).images = s.images := rfl
@[simp] theorem State.setChannel_channel (x : Channel) : (s.setChannel x).channel = x := rfl
@[simp] theorem State.setChannel_pool (x : Channel) : (s.setChannel x).pool = s.pool := rfl
@[simp] theorem State.setChannel_handles (x : Channel) : (s.setChannel x).handles = s.handles := rfl
@[simp] theorem State.setChannel_desks (x : Channel) : (s.setChannel x).desks = s.desks := rfl
@[simp] theorem State.setChannel_deskSettings (x : Channel) : (s.setChannel x).deskSettings = s.deskSettings := rfl
@[simp] theorem State.setChannel_lines (x : Channel) : (s.setChannel x).lines = s.lines := rfl
@[simp] theorem State.setChannel_driveTallies (x : Channel) : (s.setChannel x).driveTallies = s.driveTallies := rfl
@[simp] theorem State.setChannel_deskTallies (x : Channel) : (s.setChannel x).deskTallies = s.deskTallies := rfl
@[simp] theorem State.setChannel_sequencer (x : Channel) : (s.setChannel x).sequencer = s.sequencer := rfl
@[simp] theorem State.setChannel_pending (x : Channel) : (s.setChannel x).pending = s.pending := rfl

@[simp] theorem State.setPool_powerGood (x : Pool) : (s.setPool x).powerGood = s.powerGood := rfl
@[simp] theorem State.setPool_tick (x : Pool) : (s.setPool x).tick = s.tick := rfl
@[simp] theorem State.setPool_seq (x : Pool) : (s.setPool x).seq = s.seq := rfl
@[simp] theorem State.setPool_imageSerial (x : Pool) : (s.setPool x).imageSerial = s.imageSerial := rfl
@[simp] theorem State.setPool_drives (x : Pool) : (s.setPool x).drives = s.drives := rfl
@[simp] theorem State.setPool_settings (x : Pool) : (s.setPool x).settings = s.settings := rfl
@[simp] theorem State.setPool_scheds (x : Pool) : (s.setPool x).scheds = s.scheds := rfl
@[simp] theorem State.setPool_images (x : Pool) : (s.setPool x).images = s.images := rfl
@[simp] theorem State.setPool_channel (x : Pool) : (s.setPool x).channel = s.channel := rfl
@[simp] theorem State.setPool_pool (x : Pool) : (s.setPool x).pool = x := rfl
@[simp] theorem State.setPool_handles (x : Pool) : (s.setPool x).handles = s.handles := rfl
@[simp] theorem State.setPool_desks (x : Pool) : (s.setPool x).desks = s.desks := rfl
@[simp] theorem State.setPool_deskSettings (x : Pool) : (s.setPool x).deskSettings = s.deskSettings := rfl
@[simp] theorem State.setPool_lines (x : Pool) : (s.setPool x).lines = s.lines := rfl
@[simp] theorem State.setPool_driveTallies (x : Pool) : (s.setPool x).driveTallies = s.driveTallies := rfl
@[simp] theorem State.setPool_deskTallies (x : Pool) : (s.setPool x).deskTallies = s.deskTallies := rfl
@[simp] theorem State.setPool_sequencer (x : Pool) : (s.setPool x).sequencer = s.sequencer := rfl
@[simp] theorem State.setPool_pending (x : Pool) : (s.setPool x).pending = s.pending := rfl

@[simp] theorem State.setHandle_powerGood (desk : Desk) (h : HandleNo) (x : Handle) : (s.setHandle desk h x).powerGood = s.powerGood := rfl
@[simp] theorem State.setHandle_tick (desk : Desk) (h : HandleNo) (x : Handle) : (s.setHandle desk h x).tick = s.tick := rfl
@[simp] theorem State.setHandle_seq (desk : Desk) (h : HandleNo) (x : Handle) : (s.setHandle desk h x).seq = s.seq := rfl
@[simp] theorem State.setHandle_imageSerial (desk : Desk) (h : HandleNo) (x : Handle) : (s.setHandle desk h x).imageSerial = s.imageSerial := rfl
@[simp] theorem State.setHandle_drives (desk : Desk) (h : HandleNo) (x : Handle) : (s.setHandle desk h x).drives = s.drives := rfl
@[simp] theorem State.setHandle_settings (desk : Desk) (h : HandleNo) (x : Handle) : (s.setHandle desk h x).settings = s.settings := rfl
@[simp] theorem State.setHandle_scheds (desk : Desk) (h : HandleNo) (x : Handle) : (s.setHandle desk h x).scheds = s.scheds := rfl
@[simp] theorem State.setHandle_images (desk : Desk) (h : HandleNo) (x : Handle) : (s.setHandle desk h x).images = s.images := rfl
@[simp] theorem State.setHandle_channel (desk : Desk) (h : HandleNo) (x : Handle) : (s.setHandle desk h x).channel = s.channel := rfl
@[simp] theorem State.setHandle_pool (desk : Desk) (h : HandleNo) (x : Handle) : (s.setHandle desk h x).pool = s.pool := rfl
@[simp] theorem State.setHandle_handles (desk : Desk) (h : HandleNo) (x : Handle) : (s.setHandle desk h x).handles = s.handles.set desk ((s.handles[desk]).set h x) := rfl
@[simp] theorem State.setHandle_desks (desk : Desk) (h : HandleNo) (x : Handle) : (s.setHandle desk h x).desks = s.desks := rfl
@[simp] theorem State.setHandle_deskSettings (desk : Desk) (h : HandleNo) (x : Handle) : (s.setHandle desk h x).deskSettings = s.deskSettings := rfl
@[simp] theorem State.setHandle_lines (desk : Desk) (h : HandleNo) (x : Handle) : (s.setHandle desk h x).lines = s.lines := rfl
@[simp] theorem State.setHandle_driveTallies (desk : Desk) (h : HandleNo) (x : Handle) : (s.setHandle desk h x).driveTallies = s.driveTallies := rfl
@[simp] theorem State.setHandle_deskTallies (desk : Desk) (h : HandleNo) (x : Handle) : (s.setHandle desk h x).deskTallies = s.deskTallies := rfl
@[simp] theorem State.setHandle_sequencer (desk : Desk) (h : HandleNo) (x : Handle) : (s.setHandle desk h x).sequencer = s.sequencer := rfl
@[simp] theorem State.setHandle_pending (desk : Desk) (h : HandleNo) (x : Handle) : (s.setHandle desk h x).pending = s.pending := rfl

@[simp] theorem State.setDesk_powerGood (desk : Desk) (x : DeskContext) : (s.setDesk desk x).powerGood = s.powerGood := rfl
@[simp] theorem State.setDesk_tick (desk : Desk) (x : DeskContext) : (s.setDesk desk x).tick = s.tick := rfl
@[simp] theorem State.setDesk_seq (desk : Desk) (x : DeskContext) : (s.setDesk desk x).seq = s.seq := rfl
@[simp] theorem State.setDesk_imageSerial (desk : Desk) (x : DeskContext) : (s.setDesk desk x).imageSerial = s.imageSerial := rfl
@[simp] theorem State.setDesk_drives (desk : Desk) (x : DeskContext) : (s.setDesk desk x).drives = s.drives := rfl
@[simp] theorem State.setDesk_settings (desk : Desk) (x : DeskContext) : (s.setDesk desk x).settings = s.settings := rfl
@[simp] theorem State.setDesk_scheds (desk : Desk) (x : DeskContext) : (s.setDesk desk x).scheds = s.scheds := rfl
@[simp] theorem State.setDesk_images (desk : Desk) (x : DeskContext) : (s.setDesk desk x).images = s.images := rfl
@[simp] theorem State.setDesk_channel (desk : Desk) (x : DeskContext) : (s.setDesk desk x).channel = s.channel := rfl
@[simp] theorem State.setDesk_pool (desk : Desk) (x : DeskContext) : (s.setDesk desk x).pool = s.pool := rfl
@[simp] theorem State.setDesk_handles (desk : Desk) (x : DeskContext) : (s.setDesk desk x).handles = s.handles := rfl
@[simp] theorem State.setDesk_desks (desk : Desk) (x : DeskContext) : (s.setDesk desk x).desks = s.desks.set desk x := rfl
@[simp] theorem State.setDesk_deskSettings (desk : Desk) (x : DeskContext) : (s.setDesk desk x).deskSettings = s.deskSettings := rfl
@[simp] theorem State.setDesk_lines (desk : Desk) (x : DeskContext) : (s.setDesk desk x).lines = s.lines := rfl
@[simp] theorem State.setDesk_driveTallies (desk : Desk) (x : DeskContext) : (s.setDesk desk x).driveTallies = s.driveTallies := rfl
@[simp] theorem State.setDesk_deskTallies (desk : Desk) (x : DeskContext) : (s.setDesk desk x).deskTallies = s.deskTallies := rfl
@[simp] theorem State.setDesk_sequencer (desk : Desk) (x : DeskContext) : (s.setDesk desk x).sequencer = s.sequencer := rfl
@[simp] theorem State.setDesk_pending (desk : Desk) (x : DeskContext) : (s.setDesk desk x).pending = s.pending := rfl

@[simp] theorem State.setDeskSettings_powerGood (desk : Desk) (x : DeskSettings) : (s.setDeskSettings desk x).powerGood = s.powerGood := rfl
@[simp] theorem State.setDeskSettings_tick (desk : Desk) (x : DeskSettings) : (s.setDeskSettings desk x).tick = s.tick := rfl
@[simp] theorem State.setDeskSettings_seq (desk : Desk) (x : DeskSettings) : (s.setDeskSettings desk x).seq = s.seq := rfl
@[simp] theorem State.setDeskSettings_imageSerial (desk : Desk) (x : DeskSettings) : (s.setDeskSettings desk x).imageSerial = s.imageSerial := rfl
@[simp] theorem State.setDeskSettings_drives (desk : Desk) (x : DeskSettings) : (s.setDeskSettings desk x).drives = s.drives := rfl
@[simp] theorem State.setDeskSettings_settings (desk : Desk) (x : DeskSettings) : (s.setDeskSettings desk x).settings = s.settings := rfl
@[simp] theorem State.setDeskSettings_scheds (desk : Desk) (x : DeskSettings) : (s.setDeskSettings desk x).scheds = s.scheds := rfl
@[simp] theorem State.setDeskSettings_images (desk : Desk) (x : DeskSettings) : (s.setDeskSettings desk x).images = s.images := rfl
@[simp] theorem State.setDeskSettings_channel (desk : Desk) (x : DeskSettings) : (s.setDeskSettings desk x).channel = s.channel := rfl
@[simp] theorem State.setDeskSettings_pool (desk : Desk) (x : DeskSettings) : (s.setDeskSettings desk x).pool = s.pool := rfl
@[simp] theorem State.setDeskSettings_handles (desk : Desk) (x : DeskSettings) : (s.setDeskSettings desk x).handles = s.handles := rfl
@[simp] theorem State.setDeskSettings_desks (desk : Desk) (x : DeskSettings) : (s.setDeskSettings desk x).desks = s.desks := rfl
@[simp] theorem State.setDeskSettings_deskSettings (desk : Desk) (x : DeskSettings) : (s.setDeskSettings desk x).deskSettings = s.deskSettings.set desk x := rfl
@[simp] theorem State.setDeskSettings_lines (desk : Desk) (x : DeskSettings) : (s.setDeskSettings desk x).lines = s.lines := rfl
@[simp] theorem State.setDeskSettings_driveTallies (desk : Desk) (x : DeskSettings) : (s.setDeskSettings desk x).driveTallies = s.driveTallies := rfl
@[simp] theorem State.setDeskSettings_deskTallies (desk : Desk) (x : DeskSettings) : (s.setDeskSettings desk x).deskTallies = s.deskTallies := rfl
@[simp] theorem State.setDeskSettings_sequencer (desk : Desk) (x : DeskSettings) : (s.setDeskSettings desk x).sequencer = s.sequencer := rfl
@[simp] theorem State.setDeskSettings_pending (desk : Desk) (x : DeskSettings) : (s.setDeskSettings desk x).pending = s.pending := rfl

@[simp] theorem State.setLine_powerGood (desk : Desk) (x : LineUnit) : (s.setLine desk x).powerGood = s.powerGood := rfl
@[simp] theorem State.setLine_tick (desk : Desk) (x : LineUnit) : (s.setLine desk x).tick = s.tick := rfl
@[simp] theorem State.setLine_seq (desk : Desk) (x : LineUnit) : (s.setLine desk x).seq = s.seq := rfl
@[simp] theorem State.setLine_imageSerial (desk : Desk) (x : LineUnit) : (s.setLine desk x).imageSerial = s.imageSerial := rfl
@[simp] theorem State.setLine_drives (desk : Desk) (x : LineUnit) : (s.setLine desk x).drives = s.drives := rfl
@[simp] theorem State.setLine_settings (desk : Desk) (x : LineUnit) : (s.setLine desk x).settings = s.settings := rfl
@[simp] theorem State.setLine_scheds (desk : Desk) (x : LineUnit) : (s.setLine desk x).scheds = s.scheds := rfl
@[simp] theorem State.setLine_images (desk : Desk) (x : LineUnit) : (s.setLine desk x).images = s.images := rfl
@[simp] theorem State.setLine_channel (desk : Desk) (x : LineUnit) : (s.setLine desk x).channel = s.channel := rfl
@[simp] theorem State.setLine_pool (desk : Desk) (x : LineUnit) : (s.setLine desk x).pool = s.pool := rfl
@[simp] theorem State.setLine_handles (desk : Desk) (x : LineUnit) : (s.setLine desk x).handles = s.handles := rfl
@[simp] theorem State.setLine_desks (desk : Desk) (x : LineUnit) : (s.setLine desk x).desks = s.desks := rfl
@[simp] theorem State.setLine_deskSettings (desk : Desk) (x : LineUnit) : (s.setLine desk x).deskSettings = s.deskSettings := rfl
@[simp] theorem State.setLine_lines (desk : Desk) (x : LineUnit) : (s.setLine desk x).lines = s.lines.set desk x := rfl
@[simp] theorem State.setLine_driveTallies (desk : Desk) (x : LineUnit) : (s.setLine desk x).driveTallies = s.driveTallies := rfl
@[simp] theorem State.setLine_deskTallies (desk : Desk) (x : LineUnit) : (s.setLine desk x).deskTallies = s.deskTallies := rfl
@[simp] theorem State.setLine_sequencer (desk : Desk) (x : LineUnit) : (s.setLine desk x).sequencer = s.sequencer := rfl
@[simp] theorem State.setLine_pending (desk : Desk) (x : LineUnit) : (s.setLine desk x).pending = s.pending := rfl

@[simp] theorem State.setDriveTally_powerGood (d : DriveNo) (x : DriveTally) : (s.setDriveTally d x).powerGood = s.powerGood := rfl
@[simp] theorem State.setDriveTally_tick (d : DriveNo) (x : DriveTally) : (s.setDriveTally d x).tick = s.tick := rfl
@[simp] theorem State.setDriveTally_seq (d : DriveNo) (x : DriveTally) : (s.setDriveTally d x).seq = s.seq := rfl
@[simp] theorem State.setDriveTally_imageSerial (d : DriveNo) (x : DriveTally) : (s.setDriveTally d x).imageSerial = s.imageSerial := rfl
@[simp] theorem State.setDriveTally_drives (d : DriveNo) (x : DriveTally) : (s.setDriveTally d x).drives = s.drives := rfl
@[simp] theorem State.setDriveTally_settings (d : DriveNo) (x : DriveTally) : (s.setDriveTally d x).settings = s.settings := rfl
@[simp] theorem State.setDriveTally_scheds (d : DriveNo) (x : DriveTally) : (s.setDriveTally d x).scheds = s.scheds := rfl
@[simp] theorem State.setDriveTally_images (d : DriveNo) (x : DriveTally) : (s.setDriveTally d x).images = s.images := rfl
@[simp] theorem State.setDriveTally_channel (d : DriveNo) (x : DriveTally) : (s.setDriveTally d x).channel = s.channel := rfl
@[simp] theorem State.setDriveTally_pool (d : DriveNo) (x : DriveTally) : (s.setDriveTally d x).pool = s.pool := rfl
@[simp] theorem State.setDriveTally_handles (d : DriveNo) (x : DriveTally) : (s.setDriveTally d x).handles = s.handles := rfl
@[simp] theorem State.setDriveTally_desks (d : DriveNo) (x : DriveTally) : (s.setDriveTally d x).desks = s.desks := rfl
@[simp] theorem State.setDriveTally_deskSettings (d : DriveNo) (x : DriveTally) : (s.setDriveTally d x).deskSettings = s.deskSettings := rfl
@[simp] theorem State.setDriveTally_lines (d : DriveNo) (x : DriveTally) : (s.setDriveTally d x).lines = s.lines := rfl
@[simp] theorem State.setDriveTally_driveTallies (d : DriveNo) (x : DriveTally) : (s.setDriveTally d x).driveTallies = s.driveTallies.set d x := rfl
@[simp] theorem State.setDriveTally_deskTallies (d : DriveNo) (x : DriveTally) : (s.setDriveTally d x).deskTallies = s.deskTallies := rfl
@[simp] theorem State.setDriveTally_sequencer (d : DriveNo) (x : DriveTally) : (s.setDriveTally d x).sequencer = s.sequencer := rfl
@[simp] theorem State.setDriveTally_pending (d : DriveNo) (x : DriveTally) : (s.setDriveTally d x).pending = s.pending := rfl

@[simp] theorem State.setDeskTally_powerGood (desk : Desk) (x : DeskTally) : (s.setDeskTally desk x).powerGood = s.powerGood := rfl
@[simp] theorem State.setDeskTally_tick (desk : Desk) (x : DeskTally) : (s.setDeskTally desk x).tick = s.tick := rfl
@[simp] theorem State.setDeskTally_seq (desk : Desk) (x : DeskTally) : (s.setDeskTally desk x).seq = s.seq := rfl
@[simp] theorem State.setDeskTally_imageSerial (desk : Desk) (x : DeskTally) : (s.setDeskTally desk x).imageSerial = s.imageSerial := rfl
@[simp] theorem State.setDeskTally_drives (desk : Desk) (x : DeskTally) : (s.setDeskTally desk x).drives = s.drives := rfl
@[simp] theorem State.setDeskTally_settings (desk : Desk) (x : DeskTally) : (s.setDeskTally desk x).settings = s.settings := rfl
@[simp] theorem State.setDeskTally_scheds (desk : Desk) (x : DeskTally) : (s.setDeskTally desk x).scheds = s.scheds := rfl
@[simp] theorem State.setDeskTally_images (desk : Desk) (x : DeskTally) : (s.setDeskTally desk x).images = s.images := rfl
@[simp] theorem State.setDeskTally_channel (desk : Desk) (x : DeskTally) : (s.setDeskTally desk x).channel = s.channel := rfl
@[simp] theorem State.setDeskTally_pool (desk : Desk) (x : DeskTally) : (s.setDeskTally desk x).pool = s.pool := rfl
@[simp] theorem State.setDeskTally_handles (desk : Desk) (x : DeskTally) : (s.setDeskTally desk x).handles = s.handles := rfl
@[simp] theorem State.setDeskTally_desks (desk : Desk) (x : DeskTally) : (s.setDeskTally desk x).desks = s.desks := rfl
@[simp] theorem State.setDeskTally_deskSettings (desk : Desk) (x : DeskTally) : (s.setDeskTally desk x).deskSettings = s.deskSettings := rfl
@[simp] theorem State.setDeskTally_lines (desk : Desk) (x : DeskTally) : (s.setDeskTally desk x).lines = s.lines := rfl
@[simp] theorem State.setDeskTally_driveTallies (desk : Desk) (x : DeskTally) : (s.setDeskTally desk x).driveTallies = s.driveTallies := rfl
@[simp] theorem State.setDeskTally_deskTallies (desk : Desk) (x : DeskTally) : (s.setDeskTally desk x).deskTallies = s.deskTallies.set desk x := rfl
@[simp] theorem State.setDeskTally_sequencer (desk : Desk) (x : DeskTally) : (s.setDeskTally desk x).sequencer = s.sequencer := rfl
@[simp] theorem State.setDeskTally_pending (desk : Desk) (x : DeskTally) : (s.setDeskTally desk x).pending = s.pending := rfl

@[simp] theorem State.setSequencer_powerGood (x : Option FormatJob) : (s.setSequencer x).powerGood = s.powerGood := rfl
@[simp] theorem State.setSequencer_tick (x : Option FormatJob) : (s.setSequencer x).tick = s.tick := rfl
@[simp] theorem State.setSequencer_seq (x : Option FormatJob) : (s.setSequencer x).seq = s.seq := rfl
@[simp] theorem State.setSequencer_imageSerial (x : Option FormatJob) : (s.setSequencer x).imageSerial = s.imageSerial := rfl
@[simp] theorem State.setSequencer_drives (x : Option FormatJob) : (s.setSequencer x).drives = s.drives := rfl
@[simp] theorem State.setSequencer_settings (x : Option FormatJob) : (s.setSequencer x).settings = s.settings := rfl
@[simp] theorem State.setSequencer_scheds (x : Option FormatJob) : (s.setSequencer x).scheds = s.scheds := rfl
@[simp] theorem State.setSequencer_images (x : Option FormatJob) : (s.setSequencer x).images = s.images := rfl
@[simp] theorem State.setSequencer_channel (x : Option FormatJob) : (s.setSequencer x).channel = s.channel := rfl
@[simp] theorem State.setSequencer_pool (x : Option FormatJob) : (s.setSequencer x).pool = s.pool := rfl
@[simp] theorem State.setSequencer_handles (x : Option FormatJob) : (s.setSequencer x).handles = s.handles := rfl
@[simp] theorem State.setSequencer_desks (x : Option FormatJob) : (s.setSequencer x).desks = s.desks := rfl
@[simp] theorem State.setSequencer_deskSettings (x : Option FormatJob) : (s.setSequencer x).deskSettings = s.deskSettings := rfl
@[simp] theorem State.setSequencer_lines (x : Option FormatJob) : (s.setSequencer x).lines = s.lines := rfl
@[simp] theorem State.setSequencer_driveTallies (x : Option FormatJob) : (s.setSequencer x).driveTallies = s.driveTallies := rfl
@[simp] theorem State.setSequencer_deskTallies (x : Option FormatJob) : (s.setSequencer x).deskTallies = s.deskTallies := rfl
@[simp] theorem State.setSequencer_sequencer (x : Option FormatJob) : (s.setSequencer x).sequencer = x := rfl
@[simp] theorem State.setSequencer_pending (x : Option FormatJob) : (s.setSequencer x).pending = s.pending := rfl

@[simp] theorem State.setSeq_powerGood (x : BitVec 32) : (s.setSeq x).powerGood = s.powerGood := rfl
@[simp] theorem State.setSeq_tick (x : BitVec 32) : (s.setSeq x).tick = s.tick := rfl
@[simp] theorem State.setSeq_seq (x : BitVec 32) : (s.setSeq x).seq = x := rfl
@[simp] theorem State.setSeq_imageSerial (x : BitVec 32) : (s.setSeq x).imageSerial = s.imageSerial := rfl
@[simp] theorem State.setSeq_drives (x : BitVec 32) : (s.setSeq x).drives = s.drives := rfl
@[simp] theorem State.setSeq_settings (x : BitVec 32) : (s.setSeq x).settings = s.settings := rfl
@[simp] theorem State.setSeq_scheds (x : BitVec 32) : (s.setSeq x).scheds = s.scheds := rfl
@[simp] theorem State.setSeq_images (x : BitVec 32) : (s.setSeq x).images = s.images := rfl
@[simp] theorem State.setSeq_channel (x : BitVec 32) : (s.setSeq x).channel = s.channel := rfl
@[simp] theorem State.setSeq_pool (x : BitVec 32) : (s.setSeq x).pool = s.pool := rfl
@[simp] theorem State.setSeq_handles (x : BitVec 32) : (s.setSeq x).handles = s.handles := rfl
@[simp] theorem State.setSeq_desks (x : BitVec 32) : (s.setSeq x).desks = s.desks := rfl
@[simp] theorem State.setSeq_deskSettings (x : BitVec 32) : (s.setSeq x).deskSettings = s.deskSettings := rfl
@[simp] theorem State.setSeq_lines (x : BitVec 32) : (s.setSeq x).lines = s.lines := rfl
@[simp] theorem State.setSeq_driveTallies (x : BitVec 32) : (s.setSeq x).driveTallies = s.driveTallies := rfl
@[simp] theorem State.setSeq_deskTallies (x : BitVec 32) : (s.setSeq x).deskTallies = s.deskTallies := rfl
@[simp] theorem State.setSeq_sequencer (x : BitVec 32) : (s.setSeq x).sequencer = s.sequencer := rfl
@[simp] theorem State.setSeq_pending (x : BitVec 32) : (s.setSeq x).pending = s.pending := rfl

@[simp] theorem State.setTick_powerGood (x : BitVec 32) : (s.setTick x).powerGood = s.powerGood := rfl
@[simp] theorem State.setTick_tick (x : BitVec 32) : (s.setTick x).tick = x := rfl
@[simp] theorem State.setTick_seq (x : BitVec 32) : (s.setTick x).seq = s.seq := rfl
@[simp] theorem State.setTick_imageSerial (x : BitVec 32) : (s.setTick x).imageSerial = s.imageSerial := rfl
@[simp] theorem State.setTick_drives (x : BitVec 32) : (s.setTick x).drives = s.drives := rfl
@[simp] theorem State.setTick_settings (x : BitVec 32) : (s.setTick x).settings = s.settings := rfl
@[simp] theorem State.setTick_scheds (x : BitVec 32) : (s.setTick x).scheds = s.scheds := rfl
@[simp] theorem State.setTick_images (x : BitVec 32) : (s.setTick x).images = s.images := rfl
@[simp] theorem State.setTick_channel (x : BitVec 32) : (s.setTick x).channel = s.channel := rfl
@[simp] theorem State.setTick_pool (x : BitVec 32) : (s.setTick x).pool = s.pool := rfl
@[simp] theorem State.setTick_handles (x : BitVec 32) : (s.setTick x).handles = s.handles := rfl
@[simp] theorem State.setTick_desks (x : BitVec 32) : (s.setTick x).desks = s.desks := rfl
@[simp] theorem State.setTick_deskSettings (x : BitVec 32) : (s.setTick x).deskSettings = s.deskSettings := rfl
@[simp] theorem State.setTick_lines (x : BitVec 32) : (s.setTick x).lines = s.lines := rfl
@[simp] theorem State.setTick_driveTallies (x : BitVec 32) : (s.setTick x).driveTallies = s.driveTallies := rfl
@[simp] theorem State.setTick_deskTallies (x : BitVec 32) : (s.setTick x).deskTallies = s.deskTallies := rfl
@[simp] theorem State.setTick_sequencer (x : BitVec 32) : (s.setTick x).sequencer = s.sequencer := rfl
@[simp] theorem State.setTick_pending (x : BitVec 32) : (s.setTick x).pending = s.pending := rfl

@[simp] theorem State.setImageSerial_powerGood (x : Nat) : (s.setImageSerial x).powerGood = s.powerGood := rfl
@[simp] theorem State.setImageSerial_tick (x : Nat) : (s.setImageSerial x).tick = s.tick := rfl
@[simp] theorem State.setImageSerial_seq (x : Nat) : (s.setImageSerial x).seq = s.seq := rfl
@[simp] theorem State.setImageSerial_imageSerial (x : Nat) : (s.setImageSerial x).imageSerial = x := rfl
@[simp] theorem State.setImageSerial_drives (x : Nat) : (s.setImageSerial x).drives = s.drives := rfl
@[simp] theorem State.setImageSerial_settings (x : Nat) : (s.setImageSerial x).settings = s.settings := rfl
@[simp] theorem State.setImageSerial_scheds (x : Nat) : (s.setImageSerial x).scheds = s.scheds := rfl
@[simp] theorem State.setImageSerial_images (x : Nat) : (s.setImageSerial x).images = s.images := rfl
@[simp] theorem State.setImageSerial_channel (x : Nat) : (s.setImageSerial x).channel = s.channel := rfl
@[simp] theorem State.setImageSerial_pool (x : Nat) : (s.setImageSerial x).pool = s.pool := rfl
@[simp] theorem State.setImageSerial_handles (x : Nat) : (s.setImageSerial x).handles = s.handles := rfl
@[simp] theorem State.setImageSerial_desks (x : Nat) : (s.setImageSerial x).desks = s.desks := rfl
@[simp] theorem State.setImageSerial_deskSettings (x : Nat) : (s.setImageSerial x).deskSettings = s.deskSettings := rfl
@[simp] theorem State.setImageSerial_lines (x : Nat) : (s.setImageSerial x).lines = s.lines := rfl
@[simp] theorem State.setImageSerial_driveTallies (x : Nat) : (s.setImageSerial x).driveTallies = s.driveTallies := rfl
@[simp] theorem State.setImageSerial_deskTallies (x : Nat) : (s.setImageSerial x).deskTallies = s.deskTallies := rfl
@[simp] theorem State.setImageSerial_sequencer (x : Nat) : (s.setImageSerial x).sequencer = s.sequencer := rfl
@[simp] theorem State.setImageSerial_pending (x : Nat) : (s.setImageSerial x).pending = s.pending := rfl

@[simp] theorem State.setPowerGood_powerGood (x : Bool) : (s.setPowerGood x).powerGood = x := rfl
@[simp] theorem State.setPowerGood_tick (x : Bool) : (s.setPowerGood x).tick = s.tick := rfl
@[simp] theorem State.setPowerGood_seq (x : Bool) : (s.setPowerGood x).seq = s.seq := rfl
@[simp] theorem State.setPowerGood_imageSerial (x : Bool) : (s.setPowerGood x).imageSerial = s.imageSerial := rfl
@[simp] theorem State.setPowerGood_drives (x : Bool) : (s.setPowerGood x).drives = s.drives := rfl
@[simp] theorem State.setPowerGood_settings (x : Bool) : (s.setPowerGood x).settings = s.settings := rfl
@[simp] theorem State.setPowerGood_scheds (x : Bool) : (s.setPowerGood x).scheds = s.scheds := rfl
@[simp] theorem State.setPowerGood_images (x : Bool) : (s.setPowerGood x).images = s.images := rfl
@[simp] theorem State.setPowerGood_channel (x : Bool) : (s.setPowerGood x).channel = s.channel := rfl
@[simp] theorem State.setPowerGood_pool (x : Bool) : (s.setPowerGood x).pool = s.pool := rfl
@[simp] theorem State.setPowerGood_handles (x : Bool) : (s.setPowerGood x).handles = s.handles := rfl
@[simp] theorem State.setPowerGood_desks (x : Bool) : (s.setPowerGood x).desks = s.desks := rfl
@[simp] theorem State.setPowerGood_deskSettings (x : Bool) : (s.setPowerGood x).deskSettings = s.deskSettings := rfl
@[simp] theorem State.setPowerGood_lines (x : Bool) : (s.setPowerGood x).lines = s.lines := rfl
@[simp] theorem State.setPowerGood_driveTallies (x : Bool) : (s.setPowerGood x).driveTallies = s.driveTallies := rfl
@[simp] theorem State.setPowerGood_deskTallies (x : Bool) : (s.setPowerGood x).deskTallies = s.deskTallies := rfl
@[simp] theorem State.setPowerGood_sequencer (x : Bool) : (s.setPowerGood x).sequencer = s.sequencer := rfl
@[simp] theorem State.setPowerGood_pending (x : Bool) : (s.setPowerGood x).pending = s.pending := rfl

@[simp] theorem State.setPending_powerGood (x : List Instr) : (s.setPending x).powerGood = s.powerGood := rfl
@[simp] theorem State.setPending_tick (x : List Instr) : (s.setPending x).tick = s.tick := rfl
@[simp] theorem State.setPending_seq (x : List Instr) : (s.setPending x).seq = s.seq := rfl
@[simp] theorem State.setPending_imageSerial (x : List Instr) : (s.setPending x).imageSerial = s.imageSerial := rfl
@[simp] theorem State.setPending_drives (x : List Instr) : (s.setPending x).drives = s.drives := rfl
@[simp] theorem State.setPending_settings (x : List Instr) : (s.setPending x).settings = s.settings := rfl
@[simp] theorem State.setPending_scheds (x : List Instr) : (s.setPending x).scheds = s.scheds := rfl
@[simp] theorem State.setPending_images (x : List Instr) : (s.setPending x).images = s.images := rfl
@[simp] theorem State.setPending_channel (x : List Instr) : (s.setPending x).channel = s.channel := rfl
@[simp] theorem State.setPending_pool (x : List Instr) : (s.setPending x).pool = s.pool := rfl
@[simp] theorem State.setPending_handles (x : List Instr) : (s.setPending x).handles = s.handles := rfl
@[simp] theorem State.setPending_desks (x : List Instr) : (s.setPending x).desks = s.desks := rfl
@[simp] theorem State.setPending_deskSettings (x : List Instr) : (s.setPending x).deskSettings = s.deskSettings := rfl
@[simp] theorem State.setPending_lines (x : List Instr) : (s.setPending x).lines = s.lines := rfl
@[simp] theorem State.setPending_driveTallies (x : List Instr) : (s.setPending x).driveTallies = s.driveTallies := rfl
@[simp] theorem State.setPending_deskTallies (x : List Instr) : (s.setPending x).deskTallies = s.deskTallies := rfl
@[simp] theorem State.setPending_sequencer (x : List Instr) : (s.setPending x).sequencer = s.sequencer := rfl
@[simp] theorem State.setPending_pending (x : List Instr) : (s.setPending x).pending = x := rfl

@[simp] theorem State.setDrive_handle (d : DriveNo) (x : DriveUnit) : (s.setDrive d x).handle = s.handle := rfl
@[simp] theorem State.setSettings_handle (d : DriveNo) (x : Settings) : (s.setSettings d x).handle = s.handle := rfl
@[simp] theorem State.setSched_handle (d : DriveNo) (x : Scheduler) : (s.setSched d x).handle = s.handle := rfl
@[simp] theorem State.setImage_handle (d : DriveNo) (x : Option Image) : (s.setImage d x).handle = s.handle := rfl
@[simp] theorem State.setChannel_handle (x : Channel) : (s.setChannel x).handle = s.handle := rfl
@[simp] theorem State.setPool_handle (x : Pool) : (s.setPool x).handle = s.handle := rfl
@[simp] theorem State.setDesk_handle (desk : Desk) (x : DeskContext) : (s.setDesk desk x).handle = s.handle := rfl
@[simp] theorem State.setDeskSettings_handle (desk : Desk) (x : DeskSettings) : (s.setDeskSettings desk x).handle = s.handle := rfl
@[simp] theorem State.setLine_handle (desk : Desk) (x : LineUnit) : (s.setLine desk x).handle = s.handle := rfl
@[simp] theorem State.setDriveTally_handle (d : DriveNo) (x : DriveTally) : (s.setDriveTally d x).handle = s.handle := rfl
@[simp] theorem State.setDeskTally_handle (desk : Desk) (x : DeskTally) : (s.setDeskTally desk x).handle = s.handle := rfl
@[simp] theorem State.setSequencer_handle (x : Option FormatJob) : (s.setSequencer x).handle = s.handle := rfl
@[simp] theorem State.setSeq_handle (x : BitVec 32) : (s.setSeq x).handle = s.handle := rfl
@[simp] theorem State.setTick_handle (x : BitVec 32) : (s.setTick x).handle = s.handle := rfl
@[simp] theorem State.setImageSerial_handle (x : Nat) : (s.setImageSerial x).handle = s.handle := rfl
@[simp] theorem State.setPowerGood_handle (x : Bool) : (s.setPowerGood x).handle = s.handle := rfl
@[simp] theorem State.setPending_handle (x : List Instr) : (s.setPending x).handle = s.handle := rfl

@[simp] theorem State.setDrive_slot (d : DriveNo) (x : DriveUnit) : (s.setDrive d x).slot = s.slot := rfl
@[simp] theorem State.setSettings_slot (d : DriveNo) (x : Settings) : (s.setSettings d x).slot = s.slot := rfl
@[simp] theorem State.setSched_slot (d : DriveNo) (x : Scheduler) : (s.setSched d x).slot = s.slot := rfl
@[simp] theorem State.setChannel_slot (x : Channel) : (s.setChannel x).slot = s.slot := rfl
@[simp] theorem State.setPool_slot (x : Pool) : (s.setPool x).slot = s.slot := rfl
@[simp] theorem State.setHandle_slot (desk : Desk) (h : HandleNo) (x : Handle) : (s.setHandle desk h x).slot = s.slot := rfl
@[simp] theorem State.setDesk_slot (desk : Desk) (x : DeskContext) : (s.setDesk desk x).slot = s.slot := rfl
@[simp] theorem State.setDeskSettings_slot (desk : Desk) (x : DeskSettings) : (s.setDeskSettings desk x).slot = s.slot := rfl
@[simp] theorem State.setLine_slot (desk : Desk) (x : LineUnit) : (s.setLine desk x).slot = s.slot := rfl
@[simp] theorem State.setDriveTally_slot (d : DriveNo) (x : DriveTally) : (s.setDriveTally d x).slot = s.slot := rfl
@[simp] theorem State.setDeskTally_slot (desk : Desk) (x : DeskTally) : (s.setDeskTally desk x).slot = s.slot := rfl
@[simp] theorem State.setSequencer_slot (x : Option FormatJob) : (s.setSequencer x).slot = s.slot := rfl
@[simp] theorem State.setSeq_slot (x : BitVec 32) : (s.setSeq x).slot = s.slot := rfl
@[simp] theorem State.setTick_slot (x : BitVec 32) : (s.setTick x).slot = s.slot := rfl
@[simp] theorem State.setImageSerial_slot (x : Nat) : (s.setImageSerial x).slot = s.slot := rfl
@[simp] theorem State.setPowerGood_slot (x : Bool) : (s.setPowerGood x).slot = s.slot := rfl
@[simp] theorem State.setPending_slot (x : List Instr) : (s.setPending x).slot = s.slot := rfl

/-- Reading back the handle just written. -/
@[simp] theorem State.setHandle_handle_self (desk : Desk) (h : HandleNo) (x : Handle) : (s.setHandle desk h x).handle desk h = x := by
  simp [State.handle]

/-- Writing one handle leaves every other handle as it was. -/
theorem State.setHandle_handle_of_ne (desk e : Desk) (h g : HandleNo) (x : Handle) (ne : ¬(desk = e ∧ h = g)) :
    (s.setHandle desk h x).handle e g = s.handle e g := by
  by_cases hd : desk = e
  · subst hd
    have hg : (h : Nat) ≠ g := fun hh => ne ⟨rfl, Fin.ext hh⟩
    simp [State.handle, hg]
  · have hd' : (desk : Nat) ≠ e := fun hh => hd (Fin.ext hh)
    simp [State.handle, hd']

end Sys2Proof.Machine
end

