-- ==== Sys2Proof/Laws/Lines.lean ====
section
/-! SUPPORT. What the change of a line rate, the end of a reply and a tick can touch: the desk lines and the desk tallies, and for a
tick the count and the drives (R46, R161, R165, R167). -/

namespace Sys2Proof.Machine

/-- A state that differs only in its desk lines and its desk tallies. -/
def State.OnLines (s t : State) : Prop := t = { s with lines := t.lines, deskTallies := t.deskTallies }

theorem State.OnLines.refl (s : State) : s.OnLines s := rfl

theorem State.OnLines.trans {s t u : State} (h : s.OnLines t) (k : t.OnLines u) : s.OnLines u := by
  unfold State.OnLines at *; rw [k, h]

theorem setLine_onLines (s : State) (desk : Desk) (l : LineUnit) : s.OnLines (s.setLine desk l) := rfl

theorem discard_onLines (s : State) (desk : Desk) : s.OnLines (s.discard desk) := rfl

/-- A line takes a new rate (R161). -/
theorem takeRate_onLines (s : State) (desk : Desk) (sending : Bool) (r : Rate) : s.OnLines (s.takeRate desk sending r) := by
  unfold State.takeRate
  dsimp only
  split
  · rfl
  · split
    · exact (setLine_onLines s desk _).trans (discard_onLines _ desk)
    · rfl

theorem takeReplyRate_onLines (s : State) (desk : Desk) (change : Option (Desk × Rate)) : s.OnLines (s.takeReplyRate desk change) := by
  cases change with
  | none => rfl
  | some c => exact takeRate_onLines s c.1 _ c.2

/-- The last stop bit of a character that a break has left (R161, R166). -/
theorem cutEnds_onLines (s : State) (desk : Desk) : s.OnLines (s.cutEnds desk) :=
  (setLine_onLines s desk _).trans (takeReplyRate_onLines _ desk _)

/-- REPLY_SENT (R161, R167). -/
theorem sent_onLines (s : State) (desk : Desk) : s.OnLines (s.sent desk) := by
  unfold State.sent
  dsimp only
  split
  · exact cutEnds_onLines s desk
  · split
    · rfl
    · exact (setLine_onLines s desk _).trans (takeReplyRate_onLines _ desk _)

theorem rateDue_onLines (s : State) (desk : Desk) : s.OnLines (s.rateDue desk) := by
  unfold State.rateDue
  split
  · exact cutEnds_onLines s desk
  · rfl

theorem foldl_rateDue_onLines (desks : List Desk) (s : State) : s.OnLines (desks.foldl (fun s desk => State.rateDue s desk) s) := by
  induction desks generalizing s with
  | nil => rfl
  | cons desk rest ih => exact (rateDue_onLines s desk).trans (ih _)

/-- One tick (R46). -/
theorem ticked_frame (s : State) :
    s.ticked = { s with tick := s.tick + 1, drives := s.drives.map DriveUnit.ticked, lines := s.ticked.lines,
                        deskTallies := s.ticked.deskTallies } :=
  foldl_rateDue_onLines allDesks
    { s with tick := s.tick + 1, drives := s.drives.map DriveUnit.ticked, lines := s.lines.map LineUnit.ticked }

end Sys2Proof.Machine
end

