-- ==== Sys2Proof/Laws/Maps.lean ====
section
/-! SUPPORT. Allocation maps: what marking, freeing and reserving keep (R100 to R102), and the queue of notices (R158). -/

namespace Sys2Proof.Machine

/-! ### Ascending lists -/

theorem mem_insertSorted {l m : Nat} {ms : List Nat} : m ∈ insertSorted l ms ↔ m = l ∨ m ∈ ms := by
  induction ms with
  | nil => simp [insertSorted]
  | cons a ms ih =>
    unfold insertSorted
    split
    · simp
    · split
      · rename_i h; subst h; simp
      · simp [ih]; tauto

theorem insertSorted_pairwise {l : Nat} {ms : List Nat} (h : ms.Pairwise (fun a b => a < b)) :
    (insertSorted l ms).Pairwise (fun a b => a < b) := by
  induction ms with
  | nil => simp [insertSorted]
  | cons a ms ih =>
    have ha := List.pairwise_cons.1 h
    unfold insertSorted
    split
    · rename_i hl
      exact List.pairwise_cons.2 ⟨fun b hb => by
        rcases List.mem_cons.1 hb with rfl | hb
        · exact hl
        · exact Nat.lt_trans hl (ha.1 b hb), h⟩
    · split
      · exact h
      · rename_i h1 h2
        refine List.pairwise_cons.2 ⟨fun b hb => ?_, ih ha.2⟩
        rcases mem_insertSorted.1 hb with rfl | hb
        · omega
        · exact ha.1 b hb

/-- Sectors put one after another into an ascending list: it stays ascending and holds the old and the new. -/
theorem foldl_insertSorted (ls ms : List Nat) (h : ms.Pairwise (fun a b => a < b)) :
    (ls.foldl (fun acc l => insertSorted l acc) ms).Pairwise (fun a b => a < b) ∧
      ∀ m, m ∈ ls.foldl (fun acc l => insertSorted l acc) ms ↔ m ∈ ls ∨ m ∈ ms := by
  induction ls generalizing ms with
  | nil => exact ⟨h, by simp⟩
  | cons l ls ih =>
    have := ih (insertSorted l ms) (insertSorted_pairwise h)
    refine ⟨this.1, fun m => ?_⟩
    rw [List.foldl_cons, this.2 m, mem_insertSorted, List.mem_cons]
    tauto

/-! ### Marking and freeing -/

variable {img : Image}

/-- Anything about an image but its allocation map leaves the map sound. -/
theorem Image.mapSound_of_allocated {img' : Image} (h : img.mapSound) (ha : img'.allocated = img.allocated) : img'.mapSound := by
  unfold Image.mapSound; rw [ha]; exact h

theorem Image.markAllocated_sound (h : img.mapSound) (ls : List Nat) (hl : ∀ l ∈ ls, l < Config.dataSectors) :
    (img.markAllocated ls).mapSound := by
  have := foldl_insertSorted ls img.allocated h.1
  exact ⟨this.1, fun l hm => (this.2 l).1 hm |>.elim (hl l) (h.2 l)⟩

theorem Image.markFree_sound (h : img.mapSound) (ls : List Nat) : (img.markFree ls).mapSound :=
  ⟨h.1.filter _, fun l hm => h.2 l (List.mem_filter.1 hm).1⟩

theorem Image.giveBack_sound (h : img.mapSound) (es : List Extent) : (img.giveBack es).mapSound := Image.markFree_sound h _

theorem Image.setSlot_sound (h : img.mapSound) (n : SlotNo) (t : Slot) : (img.setSlot n t).mapSound :=
  Image.mapSound_of_allocated h rfl

/-! ### Free runs -/

/-- A free run lies at or above the place the scan began at, holds a sector at least, and ends within the data sectors. -/
theorem freeRuns_within (pos : Nat) (ls : List Nat) (hl : ∀ l ∈ ls, l < Config.dataSectors) (e : Extent) (he : e ∈ freeRuns pos ls) :
    pos ≤ e.start ∧ 1 ≤ e.count ∧ e.within := by
  unfold Extent.within
  induction ls generalizing pos with
  | nil =>
    unfold freeRuns at he
    split at he
    · rcases List.mem_singleton.1 he with rfl; refine ⟨Nat.le_refl _, ?_, ?_⟩ <;> dsimp only <;> omega
    · cases he
  | cons l ls ih =>
    have hls : ∀ m ∈ ls, m < Config.dataSectors := fun m hm => hl m (List.mem_cons_of_mem _ hm)
    have h0 := hl l List.mem_cons_self
    unfold freeRuns at he
    split at he
    · rcases List.mem_cons.1 he with rfl | he
      · refine ⟨Nat.le_refl _, ?_, ?_⟩ <;> dsimp only <;> omega
      · have := ih (l + 1) hls he; omega
    · have := ih (max pos (l + 1)) hls he; omega

/-- What is taken of runs that lie within the data sectors lies within them. -/
theorem takeRuns_within (n : Nat) (rs : List Extent) (hr : ∀ e ∈ rs, e.within) (e : Extent) (he : e ∈ takeRuns n rs) : e.within := by
  induction rs generalizing n with
  | nil => cases he
  | cons r rs ih =>
    have h0 : r.within := hr r List.mem_cons_self
    unfold takeRuns at he
    split at he
    · cases he
    · split at he
      · rcases List.mem_singleton.1 he with rfl
        unfold Extent.within at *; dsimp only; omega
      · rcases List.mem_cons.1 he with rfl | he
        · exact h0
        · exact ih _ (fun e h => hr e (List.mem_cons_of_mem _ h)) he

/-- The sectors of extents within the data sectors are data sectors. -/
theorem sectorsOf_lt {es : List Extent} (h : ∀ e ∈ es, e.within) {l : Nat} (hl : l ∈ sectorsOf es) : l < Config.dataSectors := by
  obtain ⟨e, he, hle⟩ := List.mem_flatMap.1 hl
  have := h e he
  unfold Extent.within at this
  unfold Extent.sectors at hle
  have := List.mem_range'_1.1 hle
  omega

/-- A granted reservation names data sectors only. -/
theorem Image.reserve_within (h : img.mapSound) {n : Nat} {es : List Extent} (hr : img.reserve n = .ok es) : ∀ e ∈ es, e.within := by
  unfold Image.reserve at hr
  dsimp only at hr
  split at hr
  · cases hr
  · split at hr
    · cases hr
    · cases hr
      exact takeRuns_within n _ (fun e he => (freeRuns_within 0 _ h.2 e he).2.2)

/-- The lowest free sector is a data sector. -/
theorem Image.lowestFree_lt (h : img.mapSound) {l : Nat} (hl : img.lowestFree = some l) : l < Config.dataSectors := by
  unfold Image.lowestFree at hl
  obtain ⟨e, he, rfl⟩ := Option.map_eq_some_iff.1 hl
  have := freeRuns_within 0 _ h.2 e (List.mem_of_head? he)
  unfold Extent.within at this; omega

/-! ### The mount's records -/

/-- Claiming adds the sectors claimed, each of which was unclaimed. -/
theorem claimAll_mem {ls claimed out : List Nat} (h : claimAll ls claimed = some out) (m : Nat) :
    m ∈ out ↔ m ∈ ls ∨ m ∈ claimed := by
  induction ls generalizing claimed with
  | nil => simp only [claimAll, Option.some.injEq] at h; subst h; simp
  | cons l ls ih =>
    unfold claimAll at h
    split at h
    · cases h
    · rw [ih h, List.mem_cons, List.mem_cons]; tauto

/-- What the cross-record examination has claimed names data sectors only, when the bad list and the records do. -/
theorem crossExamine_claimed_lt (bad : List Nat) (kept : List (SlotNo × StoryRecord)) (hb : ∀ l ∈ bad, l < Config.dataSectors)
    (hk : ∀ p ∈ kept, ∀ e ∈ p.2.extents, e.within) : ∀ l ∈ (crossExamine bad kept).claimed, l < Config.dataSectors := by
  unfold crossExamine
  have key : ∀ (ns : List SlotNo) (a : Accepted), (∀ l ∈ a.claimed, l < Config.dataSectors) →
      ∀ l ∈ (ns.foldl (fun a n => match kept.find? (fun p => p.1 == n) with
        | none => a
        | some p => acceptRecord a n p.2) a).claimed, l < Config.dataSectors := by
    intro ns
    induction ns with
    | nil => exact fun a h => h
    | cons n ns ih =>
      intro a ha
      refine ih _ ?_
      dsimp only
      split
      · exact ha
      · rename_i p hp
        unfold acceptRecord
        split
        · exact ha
        · split
          · exact ha
          · rename_i out ho
            intro l hl
            rcases (claimAll_mem ho l).1 hl with h | h
            · exact sectorsOf_lt (hk p (List.mem_of_find?_eq_some hp)) h
            · exact ha l h
  exact key _ _ (fun l hl => hb l (List.mem_eraseDups.1 hl))

theorem sorted_spec (ls : List Nat) : (sorted ls).Pairwise (fun a b => a < b) ∧ ∀ m, m ∈ sorted ls ↔ m ∈ ls := by
  have := foldl_insertSorted ls [] List.Pairwise.nil
  exact ⟨this.1, fun m => by unfold sorted; rw [this.2 m]; simp⟩

/-- The image a mount builds has a sound map. -/
theorem buildImage_sound (id : Nat) (l : Label) (kept : List (SlotNo × StoryRecord)) (hb : ∀ b ∈ l.bad, b < Config.dataSectors)
    (hk : ∀ p ∈ kept, ∀ e ∈ p.2.extents, e.within) : (buildImage id l (crossExamine l.bad kept)).mapSound :=
  ⟨(sorted_spec _).1, fun m hm => crossExamine_claimed_lt l.bad kept hb hk m ((sorted_spec _).2 m |>.1 hm)⟩

/-- An accepted label names data sectors only in its bad list. -/
theorem labelOf_bad {bytes : List Byte} {l : Label} (h : labelOf bytes = some l) : ∀ b ∈ l.bad, b < Config.dataSectors := by
  unfold labelOf at h
  split at h
  · cases h
  · dsimp only at h
    split at h
    · rename_i hc
      cases h
      simp only [Bool.and_eq_true, List.all_eq_true, decide_eq_true_eq] at hc
      exact hc.2
    · cases h

/-- A well-formed record's extents lie within the data sectors. -/
theorem examine_within {rec : List Byte} {r : StoryRecord} (h : examine rec = .kept r) : ∀ e ∈ r.extents, e.within := by
  unfold examine at h
  split at h
  · cases h
  · split at h
    · cases h
    · split at h
      · dsimp only at h
        split at h
        · rename_i hc
          cases h
          simp only [Bool.and_eq_true, List.all_eq_true, decide_eq_true_eq] at hc
          intro e he
          have := hc.1.2 e he
          unfold extentSound at this
          simp only [Bool.and_eq_true, decide_eq_true_eq] at this
          exact this.2
        · cases h
      · cases h

theorem examineSector_within (q : CatNo) (bytes : List Byte) : ∀ p ∈ (examineSector q bytes).1, ∀ e ∈ p.2.extents, e.within := by
  unfold examineSector
  have key : ∀ (is : List (Fin 8)) (acc : List (SlotNo × StoryRecord) × Bool), (∀ p ∈ acc.1, ∀ e ∈ p.2.extents, e.within) →
      ∀ p ∈ (is.foldl (fun acc i => match examine ((bytes.drop (64 * i.val)).take 64) with
        | .free => acc
        | .discarded => (acc.1, true)
        | .kept r => (acc.1 ++ [(slotAt q i, r)], acc.2)) acc).1, ∀ e ∈ p.2.extents, e.within := by
    intro is
    induction is with
    | nil => exact fun acc h => h
    | cons i is ih =>
      intro acc ha
      refine ih _ ?_
      dsimp only
      split
      · exact ha
      · exact ha
      · rename_i r hr
        intro p hp
        rcases List.mem_append.1 hp with hp | hp
        · exact ha p hp
        · rcases List.mem_singleton.1 hp with rfl
          exact examine_within hr
  exact key _ _ (fun p h => nomatch h)

/-! ### Notice queues -/

/-- The notices an operation appends are not markers (R158). -/
theorem appendNotice_sound {q : List Notice} (h : queueSound q) {n : Notice} (hn : n.isLost = false) (hc : n.countSound) :
    queueSound (appendNotice q n) := by
  obtain ⟨h1, h2, h3⟩ := h
  unfold appendNotice
  split
  · rename_i k hk
    have hq : q = q.dropLast ++ [Notice.noticesLost k] := by
      have hne : q ≠ [] := by rintro rfl; simp at hk
      have := List.dropLast_concat_getLast hne
      rw [List.getLast?_eq_some_getLast hne] at hk
      rw [Option.some.inj hk] at this; exact this.symm
    have hk2 : 2 ≤ k ∧ k ≤ 65535 := h3 (.noticesLost k) (by rw [hq]; simp)
    refine ⟨?_, ?_, ?_⟩
    · have := congrArg List.length hq; simp at this ⊢; omega
    · rw [List.dropLast_concat]; exact h2
    · intro m hm
      rcases List.mem_append.1 hm with hm | hm
      · exact h3 m (List.mem_of_mem_dropLast hm)
      · rcases List.mem_singleton.1 hm with rfl
        show 2 ≤ _ ∧ _ ≤ _; omega
  · rename_i hlast
    have hnone : ∀ m ∈ q, m.isLost = false := by
      intro m hm
      by_cases hne : q = []
      · subst hne; cases hm
      · rw [← List.dropLast_concat_getLast hne] at hm
        rcases List.mem_append.1 hm with hm | hm
        · exact h2 m hm
        · rcases List.mem_singleton.1 hm with rfl
          cases hx : q.getLast hne with
          | noticesLost k => exact absurd (by rw [List.getLast?_eq_some_getLast hne, hx]) (hlast k)
          | _ => rfl
    split
    · rename_i hlt
      refine ⟨?_, ?_, ?_⟩
      · have : q.length < 8 := hlt
        simp; omega
      · rw [List.dropLast_concat]; exact hnone
      · intro m hm
        rcases List.mem_append.1 hm with hm | hm
        · exact h3 m hm
        · rcases List.mem_singleton.1 hm with rfl; exact hc
    · refine ⟨?_, ?_, ?_⟩
      · rename_i hge
        have : ¬q.length < 8 := hge
        simp; omega
      · rw [List.dropLast_concat]; exact fun m hm => hnone m (List.mem_of_mem_dropLast hm)
      · intro m hm
        rcases List.mem_append.1 hm with hm | hm
        · exact h3 m (List.mem_of_mem_dropLast hm)
        · rcases List.mem_singleton.1 hm with rfl
          show 2 ≤ 2 ∧ 2 ≤ 65535; omega

end Sys2Proof.Machine
end

