-- ==== Sys2Proof/Laws/Steady.lean ====
section
/-! SUPPORT. What every operation below the commands leaves as it is: power, tick and waiting commands; the legality of settings,
the soundness of notice queues and allocation maps; and the desks that nothing is owed to. Each operation has one lemma of the form
"if the state was steady before it, it is steady after it". -/

namespace Sys2Proof.Machine

/-- From s to t the part is steady: what no operation changes is the same, the three invariants are kept, and each desk of `P`
that has no request in progress in s keeps its line, continuation, cursor and subscriptions and has none in t. With `T` the settings,
the rights and the desk tallies stand too. -/
structure Steady (P : Desk → Prop) (T : Prop) (s t : State) : Prop where
  powerGood : t.powerGood = s.powerGood
  tick : t.tick = s.tick
  pending : t.pending = s.pending
  standing : T → t.settings = s.settings ∧ t.deskSettings = s.deskSettings ∧ t.deskTallies = s.deskTallies
  legal : s.legalSettings → t.legalSettings
  queues : s.queuesSound → t.queuesSound
  maps : s.mapsSound → t.mapsSound
  idle : ∀ e, P e → s.desks[e].inProgress = none → s.sameDesk t e

/-- A desk may be answered from s on: it is outside `P`, or has a request in progress. -/
def MayAnswer (P : Desk → Prop) (s : State) (desk : Desk) : Prop := P desk → s.desks[desk].inProgress ≠ none

variable {P : Desk → Prop} {T : Prop} {s₀ s t : State}

theorem Steady.refl (P : Desk → Prop) (T : Prop) (s : State) : Steady P T s s :=
  ⟨rfl, rfl, rfl, fun _ => ⟨rfl, rfl, rfl⟩, id, id, id, fun _ _ _ => ⟨rfl, rfl, rfl, rfl, rfl, rfl⟩⟩

theorem Steady.trans (h : Steady P T s₀ s) (k : Steady P T s t) : Steady P T s₀ t where
  powerGood := k.powerGood.trans h.powerGood
  tick := k.tick.trans h.tick
  pending := k.pending.trans h.pending
  standing ht := by
    have a := h.standing ht; have b := k.standing ht
    exact ⟨b.1.trans a.1, b.2.1.trans a.2.1, b.2.2.trans a.2.2⟩
  legal x := k.legal (h.legal x)
  queues x := k.queues (h.queues x)
  maps x := k.maps (h.maps x)
  idle e he hi := by
    have a := h.idle e he hi
    have b := k.idle e he (a.2.1.trans hi)
    exact ⟨b.1.trans a.1, b.2.1.trans a.2.1, b.2.2.1.trans a.2.2.1, b.2.2.2.1.trans a.2.2.2.1, b.2.2.2.2.1.trans a.2.2.2.2.1,
      b.2.2.2.2.2.trans a.2.2.2.2.2⟩

/-- A steady change may be looked at for fewer desks. -/
theorem Steady.weaken {Q : Desk → Prop} (h : Steady P T s t) (hq : ∀ e, Q e → P e) : Steady Q T s t :=
  ⟨h.powerGood, h.tick, h.pending, h.standing, h.legal, h.queues, h.maps, fun e he => h.idle e (hq e he)⟩

/-- A desk that has a request in progress after a steady change may be answered from the start. -/
theorem Steady.mayAnswer {desk : Desk} (h : Steady P T s₀ s) (hb : s.desks[desk].inProgress ≠ none) : MayAnswer P s₀ desk :=
  fun hp hn => hb ((h.idle desk hp hn).2.1.trans hn)

/-- A change that leaves power, tick, queue, settings, rights, tallies, desks, lines, images and mount records is steady. -/
theorem Steady.of_parts (h1 : t.powerGood = s.powerGood) (h2 : t.tick = s.tick) (h3 : t.pending = s.pending)
    (h4 : t.settings = s.settings) (h5 : t.deskSettings = s.deskSettings) (h6 : t.deskTallies = s.deskTallies)
    (h7 : t.desks = s.desks) (h8 : t.lines = s.lines) (h9 : s.mapsSound → t.mapsSound) : Steady P T s t where
  powerGood := h1
  tick := h2
  pending := h3
  standing _ := ⟨h4, h5, h6⟩
  legal := by unfold State.legalSettings State.someSupervisor State.quotasInRange State.settingsInRange; rw [h4, h5]; exact id
  queues := by unfold State.queuesSound; rw [h7]; exact id
  maps := h9
  idle e _ _ := by unfold State.sameDesk; rw [h7, h8]; exact ⟨rfl, rfl, rfl, rfl, rfl, rfl⟩

/-- The same with the images and the drives left too. -/
theorem Steady.of_same (h1 : t.powerGood = s.powerGood) (h2 : t.tick = s.tick) (h3 : t.pending = s.pending)
    (h4 : t.settings = s.settings) (h5 : t.deskSettings = s.deskSettings) (h6 : t.deskTallies = s.deskTallies)
    (h7 : t.desks = s.desks) (h8 : t.lines = s.lines) (h9 : t.images = s.images) (h10 : t.drives = s.drives) : Steady P T s t :=
  Steady.of_parts h1 h2 h3 h4 h5 h6 h7 h8 (by unfold State.mapsSound; rw [h9, h10]; exact id)

/-! ### One part of State -/

theorem steady_setSched (h : Steady P T s₀ s) (d : DriveNo) (x : Scheduler) : Steady P T s₀ (s.setSched d x) :=
  h.trans (.of_same rfl rfl rfl rfl rfl rfl rfl rfl rfl rfl)
theorem steady_setChannel (h : Steady P T s₀ s) (x : Channel) : Steady P T s₀ (s.setChannel x) :=
  h.trans (.of_same rfl rfl rfl rfl rfl rfl rfl rfl rfl rfl)
theorem steady_setPool (h : Steady P T s₀ s) (x : Pool) : Steady P T s₀ (s.setPool x) :=
  h.trans (.of_same rfl rfl rfl rfl rfl rfl rfl rfl rfl rfl)
theorem steady_setHandle (h : Steady P T s₀ s) (desk : Desk) (n : HandleNo) (x : Handle) : Steady P T s₀ (s.setHandle desk n x) :=
  h.trans (.of_same rfl rfl rfl rfl rfl rfl rfl rfl rfl rfl)
theorem steady_setDriveTally (h : Steady P T s₀ s) (d : DriveNo) (x : DriveTally) : Steady P T s₀ (s.setDriveTally d x) :=
  h.trans (.of_same rfl rfl rfl rfl rfl rfl rfl rfl rfl rfl)
theorem steady_setSequencer (h : Steady P T s₀ s) (x : Option FormatJob) : Steady P T s₀ (s.setSequencer x) :=
  h.trans (.of_same rfl rfl rfl rfl rfl rfl rfl rfl rfl rfl)
theorem steady_setSeq (h : Steady P T s₀ s) (x : BitVec 32) : Steady P T s₀ (s.setSeq x) :=
  h.trans (.of_same rfl rfl rfl rfl rfl rfl rfl rfl rfl rfl)
theorem steady_setImageSerial (h : Steady P T s₀ s) (x : Nat) : Steady P T s₀ (s.setImageSerial x) :=
  h.trans (.of_same rfl rfl rfl rfl rfl rfl rfl rfl rfl rfl)

/-- A record of a vector after one place has been replaced has a property if the new one and the old ones have it. -/
theorem forall_set {α : Type} {n : Nat} (v : Vector α n) (i : Fin n) (x : α) (p : Fin n → α → Prop)
    (hx : p i x) (hv : ∀ j : Fin n, p j v[j]) : ∀ j : Fin n, p j (v.set i x)[j] := by
  intro j
  by_cases hij : i = j
  · subst hij; simpa using hx
  · have : (v.set i x)[j] = v[j] := by simpa using Vector.getElem_set_ne _ _ (fun h => hij (Fin.ext h))
    rw [this]; exact hv j

theorem steady_setDrive (h : Steady P T s₀ s) (d : DriveNo) (x : DriveUnit) (hx : s.mapsSound → x.mount.sound) :
    Steady P T s₀ (s.setDrive d x) :=
  h.trans (.of_parts rfl rfl rfl rfl rfl rfl rfl rfl
    (fun hm => ⟨hm.1, forall_set s.drives d x (fun _ u => u.mount.sound) (hx hm) hm.2⟩))

/-- A drive record that keeps its mount record. -/
theorem steady_setDrive_mount (h : Steady P T s₀ s) (d : DriveNo) (x : DriveUnit) (hx : x.mount = s.drives[d].mount) :
    Steady P T s₀ (s.setDrive d x) :=
  steady_setDrive h d x (fun hm => by rw [hx]; exact hm.2 d)

theorem MountRecord.clear_sound : MountRecord.clear.sound := by
  unfold MountRecord.sound
  refine ⟨?_, ?_⟩
  · intro l h; cases h
  · intro p h; cases h

/-- A drive record whose mount record is cleared. -/
theorem steady_setDrive_clear (h : Steady P T s₀ s) (d : DriveNo) (x : DriveUnit) (hx : x.mount = .clear) :
    Steady P T s₀ (s.setDrive d x) :=
  steady_setDrive h d x (fun _ => by rw [hx]; exact MountRecord.clear_sound)

theorem steady_setImage (h : Steady P T s₀ s) (d : DriveNo) (x : Option Image)
    (hx : s.mapsSound → ∀ img, x = some img → img.mapSound) : Steady P T s₀ (s.setImage d x) :=
  h.trans (.of_parts rfl rfl rfl rfl rfl rfl rfl rfl
    (fun hm => ⟨fun e => forall_set s.images d x (fun _ o => ∀ img, o = some img → img.mapSound) (hx hm) (fun j => hm.1 j) e, hm.2⟩))

theorem steady_setDesk (h : Steady P T s₀ s) (desk : Desk) (x : DeskContext)
    (hq : s.queuesSound → queueSound x.notices)
    (hi : MayAnswer P s₀ desk ∨ (x.inProgress = s.desks[desk].inProgress ∧ x.continuation = s.desks[desk].continuation ∧
      x.cursor = s.desks[desk].cursor ∧ x.driveSet = s.desks[desk].driveSet ∧ x.filingsSet = s.desks[desk].filingsSet)) :
    Steady P T s₀ (s.setDesk desk x) where
  powerGood := h.powerGood
  tick := h.tick
  pending := h.pending
  standing := h.standing
  legal := h.legal
  queues hs := forall_set s.desks desk x (fun _ c => queueSound c.notices) (hq (h.queues hs)) (h.queues hs)
  maps := h.maps
  idle e he hn := by
    have a := h.idle e he hn
    by_cases hde : desk = e
    · subst hde
      rcases hi with hi | ⟨h1, h2, h3, h4, h5⟩
      · exact absurd hn (hi he)
      · have : (s.setDesk desk x).desks[desk] = x := by simp
        refine ⟨a.1, ?_, ?_, ?_, ?_, ?_⟩ <;> rw [this]
        · exact h1.trans a.2.1
        · exact h2.trans a.2.2.1
        · exact h3.trans a.2.2.2.1
        · exact h4.trans a.2.2.2.2.1
        · exact h5.trans a.2.2.2.2.2
    · have : (s.setDesk desk x).desks[e] = s.desks[e] := by
        simpa using Vector.getElem_set_ne _ _ (fun h => hde (Fin.ext h))
      refine ⟨a.1, ?_, ?_, ?_, ?_, ?_⟩ <;> rw [this]
      · exact a.2.1
      · exact a.2.2.1
      · exact a.2.2.2.1
      · exact a.2.2.2.2.1
      · exact a.2.2.2.2.2

theorem steady_setLine (h : Steady P T s₀ s) (desk : Desk) (x : LineUnit) (hi : MayAnswer P s₀ desk) :
    Steady P T s₀ (s.setLine desk x) where
  powerGood := h.powerGood
  tick := h.tick
  pending := h.pending
  standing := h.standing
  legal := h.legal
  queues := h.queues
  maps := h.maps
  idle e he hn := by
    have a := h.idle e he hn
    have hde : desk ≠ e := by rintro rfl; exact hi he hn
    refine ⟨?_, a.2⟩
    have : (s.setLine desk x).lines[e] = s.lines[e] := by
      simpa using Vector.getElem_set_ne _ _ (fun h => hde (Fin.ext h))
    rw [this]; exact a.1

/-- The tallies of a desk; the settings stand still, the tallies do not. -/
theorem steady_setDeskTally (h : Steady P False s₀ s) (desk : Desk) (x : DeskTally) : Steady P False s₀ (s.setDeskTally desk x) :=
  h.trans ⟨rfl, rfl, rfl, False.elim, id, id, id, fun _ _ _ => ⟨rfl, rfl, rfl, rfl, rfl, rfl⟩⟩

/-- A fold of steady operations is steady. -/
theorem steady_foldl {α : Type} (l : List α) (f : State → α → State)
    (hf : ∀ s a, Steady P T s₀ s → Steady P T s₀ (f s a)) (h : Steady P T s₀ s) : Steady P T s₀ (l.foldl f s) := by
  induction l generalizing s with
  | nil => exact h
  | cons a l ih => exact ih (hf s a h)

end Sys2Proof.Machine
end

