-- ==== Sys2Proof/Laws/SteadyOps.lean ====
section
/-! SUPPORT. Steadiness of the operations over State and of the catalogue unit: tallies, pages, replies, notices and events,
withdrawals, slots, holds, allocation and pending changes. -/

namespace Sys2Proof.Machine

variable {P : Desk → Prop} {T : Prop} {s₀ s t : State}

/-! ### Tallies and pages -/

theorem steady_countDrive (h : Steady P T s₀ s) (d : DriveNo) (c : DriveCounter) (k : Nat) : Steady P T s₀ (s.countDrive d c k) :=
  steady_setDriveTally h _ _
theorem steady_countDiscard (h : Steady P False s₀ s) (desk : Desk) : Steady P False s₀ (s.countDiscard desk) := steady_setDeskTally h _ _
theorem steady_countRefusal (h : Steady P False s₀ s) (desk : Desk) : Steady P False s₀ (s.countRefusal desk) := steady_setDeskTally h _ _
theorem steady_setPage (h : Steady P T s₀ s) (p : PageNo) (x : Option HeldPage) : Steady P T s₀ (s.setPage p x) := steady_setPool h _
theorem steady_holdPage (h : Steady P T s₀ s) (p : PageNo) (x : Holder) : Steady P T s₀ (s.holdPage p x) := steady_setPage h _ _
theorem steady_freePage (h : Steady P T s₀ s) (p : PageNo) : Steady P T s₀ (s.freePage p) := steady_setPage h _ _
theorem steady_fillPage (h : Steady P T s₀ s) (p : PageNo) (b : List Byte) : Steady P T s₀ (s.fillPage p b) := by
  unfold State.fillPage; split
  · exact h
  · exact steady_setPage h _ _
theorem steady_leaveWaiters (h : Steady P T s₀ s) (desk : Desk) : Steady P T s₀ (s.leaveWaiters desk) := steady_setPool h _
theorem steady_joinSystem (h : Steady P T s₀ s) (w : SystemWaiter) : Steady P T s₀ (s.joinSystem w) := steady_setPool h _
theorem steady_leaveSystem (h : Steady P T s₀ s) (f : SystemWaiter → Bool) : Steady P T s₀ (s.leaveSystem f) := steady_setPool h _

/-! ### Notices and events -/

theorem steady_post (h : Steady P T s₀ s) (desk : Desk) {n : Notice} (hn : n.isLost = false) (hc : n.countSound) :
    Steady P T s₀ (s.post desk n) :=
  steady_setDesk h desk _ (fun hq => appendNotice_sound (hq desk) hn hc) (.inr ⟨rfl, rfl, rfl, rfl, rfl⟩)

/-- A subscription's notice is no marker. -/
theorem subscriptionNotice_plain {c : DeskContext} {ev : Event} {n : Notice} (h : subscriptionNotice c ev = some n) :
    n.isLost = false ∧ n.countSound := by
  cases ev <;> simp only [subscriptionNotice] at h <;> first | cases h | (split at h <;> cases h; exact ⟨rfl, trivial⟩)

/-- A WATCH-FIRED notice is no marker. -/
theorem firedNotice_plain {i : WatchNo} {ev : Event} {n : Notice} (h : n ∈ firedNotice i ev) : n.isLost = false ∧ n.countSound := by
  unfold firedNotice at h
  split at h
  · cases h
  · rcases List.mem_singleton.1 h with rfl; exact ⟨rfl, trivial⟩

/-- What of a desk context no event changes. -/
def DeskContext.Kept (c k : DeskContext) : Prop :=
  k.inProgress = c.inProgress ∧ k.continuation = c.continuation ∧ k.cursor = c.cursor ∧ k.driveSet = c.driveSet ∧
    k.filingsSet = c.filingsSet

theorem DeskContext.Kept.trans {a b c : DeskContext} (h : a.Kept b) (k : b.Kept c) : a.Kept c :=
  ⟨k.1.trans h.1, k.2.1.trans h.2.1, k.2.2.1.trans h.2.2.1, k.2.2.2.1.trans h.2.2.2.1, k.2.2.2.2.trans h.2.2.2.2⟩

theorem foldl_appendNotice_sound (ns q : List Notice) (h : queueSound q) (hn : ∀ n ∈ ns, n.isLost = false ∧ n.countSound) :
    queueSound (ns.foldl appendNotice q) := by
  induction ns generalizing q with
  | nil => exact h
  | cons n ns ih =>
    have := hn n List.mem_cons_self
    exact ih _ (appendNotice_sound h this.1 this.2) (fun m hm => hn m (List.mem_cons_of_mem _ hm))

theorem watchMeets_spec (c : DeskContext) (ev : Event) (i : WatchNo) :
    c.Kept (c.watchMeets ev i) ∧ (queueSound c.notices → queueSound (c.watchMeets ev i).notices) := by
  unfold DeskContext.watchMeets
  split
  · exact ⟨⟨rfl, rfl, rfl, rfl, rfl⟩, id⟩
  · dsimp only
    split
    · exact ⟨⟨rfl, rfl, rfl, rfl, rfl⟩, fun h => foldl_appendNotice_sound _ _ h (fun n hn => firedNotice_plain hn)⟩
    · exact ⟨⟨rfl, rfl, rfl, rfl, rfl⟩, id⟩

/-- An event leaves a desk's requests and subscriptions and keeps its notice queue sound. -/
theorem meets_spec (c : DeskContext) (ev : Event) :
    c.Kept (c.meets ev) ∧ (queueSound c.notices → queueSound (c.meets ev).notices) := by
  unfold DeskContext.meets
  have key : ∀ (is : List WatchNo) (k : DeskContext), c.Kept k → (queueSound c.notices → queueSound k.notices) →
      c.Kept (is.foldl (fun c i => c.watchMeets ev i) k) ∧
        (queueSound c.notices → queueSound (is.foldl (fun c i => c.watchMeets ev i) k).notices) := by
    intro is
    induction is with
    | nil => exact fun k h1 h2 => ⟨h1, h2⟩
    | cons i is ih =>
      intro k h1 h2
      have := watchMeets_spec k ev i
      exact ih _ (h1.trans this.1) (fun h => this.2 (h2 h))
  dsimp only
  refine key _ _ ?_ ?_
  · split <;> exact ⟨rfl, rfl, rfl, rfl, rfl⟩
  · split
    · exact id
    · rename_i n hn
      have := subscriptionNotice_plain hn
      exact fun h => appendNotice_sound h this.1 this.2

theorem steady_raise (h : Steady P T s₀ s) (ev : Event) : Steady P T s₀ (s.raise ev) :=
  steady_foldl _ _ (fun s desk h =>
    have m := meets_spec s.desks[desk] ev
    steady_setDesk h desk _ (fun hq => m.2 (hq desk)) (.inr m.1)) h

theorem steady_returnWatches (h : Steady P T s₀ s) (d : DriveNo) : Steady P T s₀ (s.returnWatches d) :=
  steady_foldl _ _ (fun _ desk h => steady_setDesk h desk _ (fun hq => hq desk) (.inr ⟨rfl, rfl, rfl, rfl, rfl⟩)) h

/-! ### Replies -/

theorem steady_queueReply (h : Steady P T s₀ s) {desk : Desk} (ho : MayAnswer P s₀ desk) (r : Reply) :
    Steady P T s₀ (s.queueReply desk r) := steady_setLine h desk _ ho

theorem steady_setInProgress (h : Steady P T s₀ s) {desk : Desk} (ho : MayAnswer P s₀ desk) (w : Option Waiting) :
    Steady P T s₀ (s.setInProgress desk w) := steady_setDesk h desk _ (fun hq => hq desk) (.inl ho)

theorem steady_continueDesk (h : Steady P T s₀ s) {desk : Desk} (ho : MayAnswer P s₀ desk) (a : After) :
    Steady P T s₀ (s.continueDesk desk a) :=
  steady_setDesk h desk _ (fun hq => by cases a <;> exact hq desk) (.inl ho)

theorem steady_done (h : Steady P T s₀ s) {desk : Desk} (ho : MayAnswer P s₀ desk) (k : Byte) (f : ReplyFlags) (fs : List Byte)
    (a : After) : Steady P T s₀ (s.done desk k f fs a) := steady_continueDesk (steady_queueReply h ho _) ho a

theorem steady_fail (h : Steady P T s₀ s) {desk : Desk} (ho : MayAnswer P s₀ desk) (k : Byte) (f : ReplyFlags) (r : Reason)
    (fs : List Byte) : Steady P T s₀ (s.fail desk k f r fs) := steady_continueDesk (steady_queueReply h ho _) ho _

/-- A refusal counts, so the tallies do not stand. -/
theorem steady_refuse (h : Steady P False s₀ s) {desk : Desk} (ho : MayAnswer P s₀ desk) (k : Byte) (f : ReplyFlags) (r : Reason) :
    Steady P False s₀ (s.refuse desk k f r) := steady_continueDesk (steady_countRefusal (steady_queueReply h ho _) desk) ho _

theorem steady_failWaiting (h : Steady P T s₀ s) {desk : Desk} (ho : MayAnswer P s₀ desk) (w : Waiting) (r : Reason)
    (fs : List Byte) : Steady P T s₀ (s.failWaiting desk w r fs) :=
  steady_fail (steady_setInProgress (steady_leaveWaiters h desk) ho none) ho _ _ _ _

/-! ### Withdrawals -/

theorem steady_leaveWaitList (h : Steady P T s₀ s) (d : DriveNo) : Steady P T s₀ (s.leaveWaitList d) := steady_setChannel h _
theorem steady_markWithdrawn (h : Steady P T s₀ s) : Steady P T s₀ s.markWithdrawn := steady_setChannel h _

theorem steady_withdraw (h : Steady P T s₀ s) (d : DriveNo) (p : PageNo) : Steady P T s₀ (s.withdraw d p) := by
  unfold State.withdraw
  dsimp only
  split
  · exact steady_freePage (steady_setSched h _ _) _
  · split
    · exact steady_freePage (steady_setSched h _ _) _
    · split
      · exact steady_freePage (steady_setSched h _ _) _
      · exact steady_freePage (steady_leaveWaitList (steady_setSched h _ _) _) _
      · exact steady_markWithdrawn (steady_setSched h _ _)

/-! ### Images and slots -/

/-- An image changed in everything but its allocation map. -/
theorem steady_mapImage (h : Steady P T s₀ s) (d : DriveNo) (f : Image → Image) (hf : ∀ img : Image, img.mapSound → (f img).mapSound) :
    Steady P T s₀ (s.setImage d ((s.images[d]).map f)) :=
  steady_setImage h d _ (fun hm img hi => by
    obtain ⟨i, hs, rfl⟩ := Option.map_eq_some_iff.1 hi
    exact hf i (hm.1 d i hs))

/-- An image of the drive replaced by one made of it. -/
theorem steady_setImage_of (h : Steady P T s₀ s) {d : DriveNo} {img img' : Image} (hi : s.images[d] = some img)
    (hf : img.mapSound → img'.mapSound) : Steady P T s₀ (s.setImage d (some img')) :=
  steady_setImage h d _ (fun hm j hj => by cases hj; exact hf (hm.1 d img hi))

theorem steady_setImage_none (h : Steady P T s₀ s) (d : DriveNo) : Steady P T s₀ (s.setImage d none) :=
  steady_setImage h d _ (fun _ _ hj => nomatch hj)

theorem steady_setSlot (h : Steady P T s₀ s) (d : DriveNo) (n : SlotNo) (x : Slot) : Steady P T s₀ (s.setSlot d n x) :=
  steady_mapImage h d _ (fun _ hm => Image.setSlot_sound hm n x)

theorem steady_giveBack (h : Steady P T s₀ s) (d : DriveNo) (es : List Extent) : Steady P T s₀ (s.giveBack d es) :=
  steady_mapImage h d _ (fun _ hm => Image.giveBack_sound hm es)

theorem steady_addSuspect (h : Steady P T s₀ s) (d : DriveNo) (l : Nat) : Steady P T s₀ (s.addSuspect d l) := by
  unfold State.addSuspect
  split
  · exact h
  · rename_i img hi
    dsimp only
    split
    · exact steady_setImage_of (steady_countDrive h _ _ _) (img := img) hi (fun hm => Image.mapSound_of_allocated hm rfl)
    · exact steady_setImage_of h hi (fun hm => Image.mapSound_of_allocated hm rfl)

/-! ### Holds and versions -/

theorem steady_dropHold (h : Steady P T s₀ s) (d : DriveNo) (n : SlotNo) : Steady P T s₀ (s.dropHold d n) := by
  unfold State.dropHold
  split
  · exact h
  · rename_i desk _
    exact steady_setDesk (steady_setSlot h _ _ _) desk _ (fun hq => hq desk) (.inr ⟨rfl, rfl, rfl, rfl, rfl⟩)

theorem steady_takeHold (h : Steady P T s₀ s) (d : DriveNo) (n : SlotNo) (desk : Desk) : Steady P T s₀ (s.takeHold d n desk) :=
  steady_setDesk (steady_setSlot h _ _ _) desk _ (fun hq => hq desk) (.inr ⟨rfl, rfl, rfl, rfl, rfl⟩)

theorem steady_releaseWithEvent (h : Steady P T s₀ s) (d : DriveNo) (n : SlotNo) : Steady P T s₀ (s.releaseWithEvent d n) := by
  unfold State.releaseWithEvent
  dsimp only
  split
  · exact h
  · exact steady_raise (steady_dropHold h _ _) _

theorem steady_unbind (h : Steady P T s₀ s) (d : DriveNo) (n : SlotNo) (b : Binding) : Steady P T s₀ (s.unbind d n b) := by
  unfold State.unbind
  split
  · exact h
  · rename_i img hi
    split
    · exact steady_setImage_of h hi (fun hm => Image.setSlot_sound hm _ _)
    · split
      · exact h
      · split
        · exact steady_setImage_of h hi (fun hm => Image.markFree_sound (Image.mapSound_of_allocated hm rfl) _)
        · exact steady_setImage_of h hi (fun hm => Image.mapSound_of_allocated hm rfl)

theorem steady_retire (h : Steady P T s₀ s) (d : DriveNo) (n : SlotNo) : Steady P T s₀ (s.retire d n) := by
  unfold State.retire
  split
  · exact h
  · rename_i img hi
    dsimp only
    split
    · exact steady_setImage_of h hi (fun hm => Image.markFree_sound hm _)
    · exact steady_foldl _ _ (fun _ _ h => steady_setHandle h _ _ _)
        (steady_setImage_of h hi (fun hm => Image.mapSound_of_allocated hm rfl))

/-! ### Pending changes -/

theorem steady_setWriteState (h : Steady P T s₀ s) (d : DriveNo) (q : CatNo) (w : WriteState) :
    Steady P T s₀ (s.setWriteState d q w) :=
  steady_mapImage h d _ (fun _ hm => Image.mapSound_of_allocated hm rfl)

theorem steady_markDirty (h : Steady P T s₀ s) (d : DriveNo) (q : CatNo) : Steady P T s₀ (s.markDirty d q) := by
  unfold State.markDirty
  split
  · exact steady_joinSystem (steady_setWriteState h _ _ _) _
  · exact h
  · exact steady_setWriteState h _ _ _
  · exact h

theorem steady_placeChange (h : Steady P T s₀ s) (d : DriveNo) (n : SlotNo) (c : Change) : Steady P T s₀ (s.placeChange d n c) :=
  steady_markDirty (steady_setSlot h _ _ _) _ _

theorem steady_withdrawCatalogue (h : Steady P T s₀ s) (d : DriveNo) (q : CatNo) : Steady P T s₀ (s.withdrawCatalogue d q) := by
  unfold State.withdrawCatalogue
  dsimp only
  split
  · exact steady_withdraw (steady_leaveSystem h _) _ _
  · split
    · split
      · exact steady_withdraw (steady_leaveSystem h _) _ _
      · exact steady_leaveSystem h _
    · exact steady_leaveSystem h _

theorem steady_takeBackRemoval (h : Steady P T s₀ s) (d : DriveNo) (n : SlotNo) : Steady P T s₀ (s.takeBackRemoval d n) := by
  unfold State.takeBackRemoval
  dsimp only
  have h' := steady_setSlot h d n { s.slot d n with pending := none, carried := false }
  split
  · split
    · exact h'
    · exact steady_setWriteState (steady_withdrawCatalogue h' _ _) _ _ _
  · split
    · exact h'
    · exact steady_setWriteState h' _ _ _
  · exact h'

theorem steady_setUnmounting (h : Steady P T s₀ s) (d : DriveNo) (b : Bool) : Steady P T s₀ (s.setUnmounting d b) :=
  steady_mapImage h d _ (fun _ hm => Image.mapSound_of_allocated hm rfl)

end Sys2Proof.Machine
end

