-- ==== Sys2Proof/Laws/SteadyFiling.lean ====
section
/-! SUPPORT. Steadiness of the schedule, the filing unit and the page grants. -/

namespace Sys2Proof.Machine

variable {P : Desk → Prop} {T : Prop} {s₀ s t : State}

/-! ### The schedule -/

theorem DriveUnit.startSeek_mount (u : DriveUnit) (st : Settings) (a b : Nat) : (u.startSeek st a b).mount = u.mount := rfl
theorem DriveUnit.startLoad_mount (u : DriveUnit) (st : Settings) : (u.startLoad st).mount = u.mount := by
  unfold DriveUnit.startLoad; split <;> rfl
theorem DriveUnit.startRecal_mount (u : DriveUnit) (st : Settings) : (u.startRecal st).mount = u.mount := by
  unfold DriveUnit.startRecal; dsimp only; split <;> rfl

theorem steady_startRecal (h : Steady P T s₀ s) (d : DriveNo) : Steady P T s₀ (s.startRecal d) :=
  steady_countDrive (steady_setDrive_mount h d _ (DriveUnit.startRecal_mount _ _)) _ _ _

theorem steady_enterWaiting (h : Steady P T s₀ s) (d : DriveNo) (r : SectorRequest) : Steady P T s₀ (s.enterWaiting d r) :=
  steady_setChannel (steady_setSched h _ _) _

theorem steady_takeChosen (h : Steady P T s₀ s) (d : DriveNo) (r : SectorRequest) : Steady P T s₀ (s.takeChosen d r) :=
  steady_setDrive_mount (steady_setSched h _ _) d _ rfl

theorem steady_putInHand (h : Steady P T s₀ s) (d : DriveNo) (r : SectorRequest) : Steady P T s₀ (s.putInHand d r) := by
  unfold State.putInHand
  dsimp only
  have h' : ∀ u : DriveUnit, u.mount = s.drives[d].mount → Steady P T s₀ (s.setDrive d (u.startLoad s.settings[d])) :=
    fun u hu => steady_setDrive_mount h d _ ((DriveUnit.startLoad_mount _ _).trans hu)
  generalize hu : (if s.drives[d].position.getD 0 = r.target.cylinder then s.drives[d]
    else s.drives[d].startSeek s.settings[d] (s.drives[d].position.getD 0) r.target.cylinder) = u
  have hm : u.mount = s.drives[d].mount := by rw [← hu]; split <;> rfl
  split
  · exact steady_enterWaiting (h' u hm) _ _
  · exact steady_setSched (h' u hm) _ _

theorem steady_driveActs (h : Steady P T s₀ s) (d : DriveNo) : Steady P T s₀ (s.driveActs d) := by
  unfold State.driveActs
  split
  · split
    · exact steady_enterWaiting h _ _
    · exact h
  · exact h
  · split
    · split
      · exact steady_startRecal h _
      · split
        · exact h
        · exact steady_putInHand (steady_takeChosen h _ _) _ _
    · exact h

theorem steady_markCarried (h : Steady P T s₀ s) (d : DriveNo) (q : CatNo) : Steady P T s₀ (s.markCarried d q) :=
  steady_foldl _ _ (fun _ _ h => steady_setSlot h _ _ _) h

theorem steady_buildSector (h : Steady P T s₀ s) (d : DriveNo) (q : CatNo) (p : PageNo) : Steady P T s₀ (s.buildSector d q p) := by
  unfold State.buildSector
  dsimp only
  generalize hs' : (if s.writeState d q = .dirty then _ else _ : State) = s'
  have h' : Steady P T s₀ s' := by
    rw [← hs']
    split
    · exact steady_setWriteState (steady_markCarried h _ _) _ _ _
    · exact h
  split
  · exact h'
  · exact steady_fillPage h' _ _

theorem steady_startPass (h : Steady P T s₀ s) (d : DriveNo) (r : SectorRequest) : Steady P T s₀ (s.startPass d r) := by
  unfold State.startPass
  dsimp only
  split
  · exact steady_buildSector (steady_setChannel (steady_setSched h _ _) _) _ _ _
  · exact steady_setChannel (steady_setSched h _ _) _

theorem steady_grantChannel (h : Steady P T s₀ s) : Steady P T s₀ s.grantChannel := by
  unfold State.grantChannel
  split
  · dsimp only
    split
    · exact steady_startPass (steady_setSched (steady_setChannel (steady_leaveWaitList h _) _) _ _) _ _
    · exact steady_setSched (steady_setChannel (steady_leaveWaitList h _) _) _ _
  · exact h

theorem steady_releaseChannel (h : Steady P T s₀ s) (d : DriveNo) : Steady P T s₀ (s.releaseChannel d) := by
  unfold State.releaseChannel
  split
  · exact steady_grantChannel (steady_setSched (steady_setChannel h _) _ _)
  · exact h

/-- Choices, seeks and grants of the channel reach no desk (R51, R60). -/
theorem steady_runDrives (h : Steady P T s₀ s) : Steady P T s₀ s.runDrives :=
  steady_foldl _ _ (fun _ _ h => steady_grantChannel (steady_driveActs h _)) (steady_grantChannel h)

theorem steady_continueRun (h : Steady P T s₀ s) (d : DriveNo) : Steady P T s₀ (s.continueRun d) := by
  unfold State.continueRun
  split
  · split
    · split
      · exact steady_releaseChannel h _
      · dsimp only
        split
        · exact steady_startPass (steady_setSched (steady_takeChosen h _ _) _ _) _ _
        · exact steady_putInHand (steady_releaseChannel (steady_takeChosen h _ _) _) _ _
    · exact steady_releaseChannel h _
  · exact h

theorem steady_joins (h : Steady P T s₀ s) (d : DriveNo) (x : Target) (op : Operation) (p : PageNo) (o : Owner) (c : Class) :
    Steady P T s₀ (s.joins d x op p o c) := steady_setSeq (steady_setSched h _ _) _

/-- A request that joins a work list, and what its drive then does, reach no desk (R48, R51). -/
theorem steady_joinsAndActs (h : Steady P T s₀ s) (d : DriveNo) (x : Target) (op : Operation) (p : PageNo) (o : Owner) (c : Class) :
    Steady P T s₀ (s.joinsAndActs d x op p o c) :=
  steady_grantChannel (steady_driveActs (steady_joins (steady_runDrives h) _ _ _ _ _ _) _)

/-! ### Giving up pages and handles -/

theorem steady_giveUpRead (h : Steady P T s₀ s) (d : DriveNo) (e : ReadEntry) : Steady P T s₀ (s.giveUpRead d e) := by
  cases e
  · exact h
  · exact steady_withdraw h _ _
  · exact steady_freePage h _

theorem steady_giveUpWrite (h : Steady P T s₀ s) (d : DriveNo) (e : WriteEntry) : Steady P T s₀ (s.giveUpWrite d e) := by
  cases e
  · exact h
  · exact steady_freePage h _
  · exact steady_withdraw h _ _
  · exact h

theorem steady_giveUpReads (h : Steady P T s₀ s) (d : DriveNo) (t : List ReadEntry) : Steady P T s₀ (s.giveUpReads d t) :=
  steady_foldl _ _ (fun _ _ h => steady_giveUpRead h _ _) h

theorem steady_giveUpWrites (h : Steady P T s₀ s) (d : DriveNo) (t : List WriteEntry) : Steady P T s₀ (s.giveUpWrites d t) :=
  steady_foldl _ _ (fun _ _ h => steady_giveUpWrite h _ _) h

theorem steady_closeRead (h : Steady P T s₀ s) (desk : Desk) (n : HandleNo) (r : ReadHandle) :
    Steady P T s₀ (s.closeRead desk n r) := steady_setHandle (steady_unbind (steady_giveUpReads h _ _) _ _ _) _ _ _

theorem steady_freeCreating (h : Steady P T s₀ s) (d : DriveNo) (n : SlotNo) : Steady P T s₀ (s.freeCreating d n) :=
  steady_setSlot (steady_releaseWithEvent h _ _) _ _ _

theorem steady_dropWrite (h : Steady P T s₀ s) (desk : Desk) (n : HandleNo) (w : WriteHandle) :
    Steady P T s₀ (s.dropWrite desk n w) := by
  unfold State.dropWrite
  dsimp only
  have h' := steady_giveBack (steady_giveUpWrites h w.drive w.table) w.drive w.reservation
  split
  · exact steady_setHandle (steady_freeCreating h' _ _) _ _ _
  · exact steady_setHandle h' _ _ _

theorem steady_failOnHandle (h : Steady P T s₀ s) (desk : Desk) (n : HandleNo) (placed : Bool) (r : Reason) :
    Steady P T s₀ (s.failOnHandle desk n placed r) := by
  unfold State.failOnHandle
  split
  · exact h
  · rename_i w hw
    split
    · exact steady_failWaiting h (h.mayAnswer (by rw [hw]; exact fun e => nomatch e)) _ _ _
    · exact h

theorem steady_postLost (h : Steady P T s₀ s) (desk : Desk) (n : HandleNo) (r : Reason) (orphan : Bool) :
    Steady P T s₀ (s.postLost desk n r orphan) := by
  unfold State.postLost
  split
  · exact h
  · exact steady_post h desk rfl trivial

theorem steady_markLost (h : Steady P T s₀ s) (desk : Desk) (n : HandleNo) (l : LostHandle) (placed orphan : Bool) :
    Steady P T s₀ (s.markLost desk n l placed orphan) := by
  unfold State.markLost
  split
  · exact steady_setHandle h _ _ _
  · exact steady_failOnHandle (steady_setHandle h _ _ _) _ _ _ _

/-- Losing a handle answers its waiting request, posts HANDLE-LOST and may raise RELEASED; it reaches no idle desk's line (R144). -/
theorem steady_loseHandle (h : Steady P T s₀ s) (desk : Desk) (n : HandleNo) (r : Reason) (how : Loss) :
    Steady P T s₀ (s.loseHandle desk n r how) := by
  unfold State.loseHandle
  split
  · dsimp only
    cases how
    · exact steady_markLost (steady_giveUpReads (steady_postLost h _ _ _ _) _ _) _ _ _ _ _
    · exact steady_markLost (steady_closeRead (steady_postLost h _ _ _ _) _ _ _) _ _ _ _ _
  · dsimp only
    cases how
    · exact steady_markLost (steady_giveUpWrites (steady_postLost h _ _ _ _) _ _) _ _ _ _ _
    · exact steady_markLost (steady_dropWrite (steady_postLost h _ _ _ _) _ _ _) _ _ _ _ _
  · exact h

/-! ### Placing requests -/

theorem steady_driveLostTo (h : Steady P T s₀ s) (o : Owner) : Steady P T s₀ (s.driveLostTo o) := by
  unfold State.driveLostTo
  split
  · exact steady_loseHandle h _ _ _ _
  · exact h

theorem steady_place (h : Steady P T s₀ s) (d : DriveNo) (x : Target) (op : Operation) (p : PageNo) (o : Owner) (c : Class) :
    Steady P T s₀ (s.place d x op p o c) := by
  unfold State.place
  split
  · exact steady_joinsAndActs h _ _ _ _ _ _
  · exact steady_driveLostTo (steady_freePage h _) _

theorem steady_startRead (h : Steady P T s₀ s) (desk : Desk) (n : HandleNo) (r : ReadHandle) (j : Nat) (p : PageNo) :
    Steady P T s₀ (s.startRead desk n r j p) := steady_place (steady_setHandle h _ _ _) _ _ _ _ _ _

theorem steady_startWrite (h : Steady P T s₀ s) (desk : Desk) (n : HandleNo) (w : WriteHandle) (j : Nat) (p : PageNo) :
    Steady P T s₀ (s.startWrite desk n w j p) := steady_place (steady_setHandle h _ _ _) _ _ _ _ _ _

/-! ### Storing a PUT -/

theorem steady_storeIn (h : Steady P T s₀ s) (t : List WriteEntry) (j k : Nat) (b : List Byte) :
    Steady P T s₀ (s.storeIn t j k b) := by
  unfold State.storeIn
  split
  · exact h
  · exact steady_fillPage h _ _

theorem steady_queueSector (h : Steady P T s₀ s) (desk : Desk) (n : HandleNo) (j : Nat) : Steady P T s₀ (s.queueSector desk n j) := by
  unfold State.queueSector
  split
  · split
    · split
      · exact steady_startWrite h _ _ _ _ _
      · exact h
    · exact h
  · exact h

/-- Storing a PUT answers its desk and no other (R136). -/
theorem steady_storePut (h : Steady P T s₀ s) {desk : Desk} (ho : MayAnswer P s₀ desk) (n : HandleNo) (w : WriteHandle) (on : Bool)
    (offset : Nat) (data : List Byte) (page : Option (Nat × PageNo)) : Steady P T s₀ (s.storePut desk n w on offset data page) := by
  unfold State.storePut
  dsimp only
  exact steady_done (steady_setInProgress (steady_queueSector (steady_queueSector (steady_storeIn (steady_storeIn
    (steady_setHandle h _ _ _) _ _ _ _) _ _ _ _) _ _ _) _ _ _) ho none) ho _ _ _ _

/-! ### Grants and reclaims -/

theorem steady_grantWaiter (h : Steady P T s₀ s) (w : Waiter) (p : PageNo) : Steady P T s₀ (s.grantWaiter w p) := by
  unfold State.grantWaiter
  split
  · exact steady_leaveWaiters h _
  · dsimp only
    rename_i j rest _
    generalize hs' : (if rest = [] then _ else _ : State) = s'
    have h' : Steady P T s₀ s' := by
      rw [← hs']
      split
      · exact steady_leaveWaiters (steady_holdPage h _ _) _
      · exact steady_setPool (steady_holdPage h _ _) _
    split
    · exact steady_startRead h' _ _ _ _ _
    · rename_i heq
      exact steady_storePut h' (h'.mayAnswer (by rw [heq]; exact fun e => nomatch e)) _ _ _ _ _ _
    · exact steady_freePage h' _

theorem steady_reclaim (h : Steady P T s₀ s) (desk : Desk) (n : HandleNo) (j : Nat) : Steady P T s₀ (s.reclaim desk n j) := by
  unfold State.reclaim
  split
  · dsimp only
    split
    · split
      · exact steady_withdraw (steady_setPage (steady_setHandle h _ _ _) _ _) _ _
      · exact steady_withdraw (steady_setHandle h _ _ _) _ _
    · exact steady_giveUpRead (steady_setHandle h _ _ _) _ _
  · exact h

theorem steady_deskReclaim (h : Steady P T s₀ s) (ht : s.deskReclaim = some t) : Steady P T s₀ t := by
  unfold State.deskReclaim at ht
  obtain ⟨w, _, hw⟩ := List.exists_of_findSome?_eq_some ht
  split at hw
  · obtain ⟨b, _, rfl⟩ := Option.map_eq_some_iff.1 hw
    exact steady_reclaim h _ _ _
  · cases hw

theorem steady_poolReclaim (h : Steady P T s₀ s) (ht : s.poolReclaim = some t) : Steady P T s₀ t := by
  unfold State.poolReclaim at ht
  split at ht
  · obtain ⟨b, _, rfl⟩ := Option.map_eq_some_iff.1 ht
    exact steady_reclaim h _ _ _
  · cases ht

theorem steady_serveOnce (h : Steady P T s₀ s) (ht : s.serveOnce = some t) : Steady P T s₀ t := by
  unfold State.serveOnce at ht
  split at ht
  · cases ht; exact steady_grantWaiter h _ _
  · split at ht
    · rename_i u hu; cases ht; exact steady_deskReclaim h hu
    · exact steady_poolReclaim h ht

theorem steady_serveUpTo (n : Nat) (h : Steady P T s₀ s) : Steady P T s₀ (s.serveUpTo n) := by
  induction n generalizing s with
  | zero => exact h
  | succ n ih =>
    unfold State.serveUpTo
    split
    · exact h
    · rename_i t ht; exact ih (steady_serveOnce h ht)

/-- Granting and reclaiming general pages answers waiting PUTs only (R88, R93, R94). -/
theorem steady_serveGeneral (h : Steady P T s₀ s) : Steady P T s₀ s.serveGeneral := steady_serveUpTo 80 h

theorem steady_askForGet (h : Steady P T s₀ s) (desk : Desk) (n : HandleNo) (js : List Nat) : Steady P T s₀ (s.askForGet desk n js) := by
  induction js generalizing s with
  | nil => unfold State.askForGet; exact h
  | cons j js ih =>
    unfold State.askForGet
    split
    · exact ih (steady_startRead (steady_holdPage h _ _) _ _ _ _ _)
    · exact steady_setPool h _
    · exact h

theorem steady_readAheadUpTo (n : Nat) (h : Steady P T s₀ s) (desk : Desk) (k : HandleNo) :
    Steady P T s₀ (State.readAheadUpTo n s desk k) := by
  induction n generalizing s with
  | zero => exact h
  | succ n ih =>
    unfold State.readAheadUpTo
    split
    · split
      · exact h
      · split
        · split
          · exact h
          · exact ih (steady_startRead (steady_holdPage h _ _) _ _ _ _ _)
        · exact h
    · exact h

theorem steady_readAhead (h : Steady P T s₀ s) (desk : Desk) (n : HandleNo) : Steady P T s₀ (s.readAhead desk n) :=
  steady_readAheadUpTo 2 h _ _

/-! ### Answering a GET -/

theorem steady_deliver (h : Steady P T s₀ s) (desk : Desk) (n : HandleNo) (r : ReadHandle) (k : Nat) :
    Steady P T s₀ (s.deliver desk n r k) :=
  steady_readAhead (steady_serveGeneral (steady_giveUpReads (steady_setHandle h _ _ _) _ _)) _ _

/-- Answering a GET reaches its desk's line and no other idle desk's (R126). -/
theorem steady_answerGet (h : Steady P T s₀ s) {desk : Desk} (ho : MayAnswer P s₀ desk) (n : HandleNo) (r : ReadHandle) (on : Bool)
    (offset k : Nat) : Steady P T s₀ (s.answerGet desk n r on offset k) :=
  steady_deliver (steady_done (steady_setInProgress h ho none) ho _ _ _ _) _ _ _ _

theorem steady_examineGet (h : Steady P T s₀ s) (desk : Desk) : Steady P T s₀ (s.examineGet desk) := by
  unfold State.examineGet
  split
  · rename_i hw
    split
    · split
      · exact steady_answerGet h (h.mayAnswer (by rw [hw]; exact fun e => nomatch e)) _ _ _ _ _
      · exact h
    · exact h
  · exact h

theorem steady_failGet (h : Steady P T s₀ s) (desk : Desk) (n : HandleNo) (j : Nat) (c : PassCause) :
    Steady P T s₀ (s.failGet desk n j c) := by
  unfold State.failGet
  split
  · rename_i hw
    split
    · exact steady_failWaiting h (h.mayAnswer (by rw [hw]; exact fun e => nomatch e)) _ _ _
    · exact h
  · exact h

theorem steady_afterRead (h : Steady P T s₀ s) (desk : Desk) (n : HandleNo) : Steady P T s₀ (s.afterRead desk n) :=
  steady_examineGet (steady_readAhead (steady_serveGeneral h) _ _) _

theorem steady_readDone (h : Steady P T s₀ s) (desk : Desk) (n : HandleNo) (j : Nat) (p : PageNo) :
    Steady P T s₀ (s.readDone desk n j p) := by
  unfold State.readDone
  split
  · split
    · exact steady_afterRead (steady_setHandle h _ _ _) _ _
    · exact steady_freePage h _
  · exact steady_freePage h _

theorem steady_readFailed (h : Steady P T s₀ s) (desk : Desk) (n : HandleNo) (j : Nat) (p : PageNo) (c : PassCause) :
    Steady P T s₀ (s.readFailed desk n j p c) := by
  unfold State.readFailed
  split
  · split
    · exact steady_afterRead (steady_failGet (steady_freePage (steady_setHandle h _ _ _) _) _ _ _ _) _ _
    · exact steady_freePage h _
  · exact steady_freePage h _

/-! ### Write handles -/

theorem steady_failHandle (h : Steady P T s₀ s) (desk : Desk) (n : HandleNo) (w : WriteHandle) (c : Reason) :
    Steady P T s₀ (s.failHandle desk n w c) := by
  unfold State.failHandle
  split
  · exact steady_dropWrite h _ _ _
  · exact steady_failOnHandle (steady_setHandle (steady_giveUpWrites h _ _) _ _ _) _ _ _ _

theorem steady_placeVersion (h : Steady P T s₀ s) (desk : Desk) (n : HandleNo) : Steady P T s₀ (s.placeVersion desk n) := by
  unfold State.placeVersion
  split
  · split
    · exact steady_placeChange (steady_setHandle h _ _ _) _ _ _
    · exact h
  · exact h

theorem steady_writeDone (h : Steady P T s₀ s) (desk : Desk) (n : HandleNo) (j : Nat) (p : PageNo) :
    Steady P T s₀ (s.writeDone desk n j p) := by
  unfold State.writeDone
  split
  · split
    · exact steady_placeVersion (steady_freePage (steady_setHandle h _ _ _) _) _ _
    · exact steady_freePage h _
  · exact steady_freePage h _

theorem steady_writeProtected (h : Steady P T s₀ s) (desk : Desk) (n : HandleNo) (j : Nat) (p : PageNo) :
    Steady P T s₀ (s.writeProtected desk n j p) := by
  unfold State.writeProtected
  split
  · split
    · exact steady_failHandle h _ _ _ _
    · exact steady_freePage h _
  · exact steady_freePage h _

theorem steady_relocate (h : Steady P T s₀ s) (desk : Desk) (n : HandleNo) (w : WriteHandle) (j : Nat) (p : PageNo) :
    Steady P T s₀ (s.relocate desk n w j p) := by
  unfold State.relocate
  dsimp only
  have h' := steady_addSuspect h w.drive ((sectorAt w.reservation j).getD 0)
  split
  · exact steady_failHandle h' _ _ _ _
  · rename_i img hi
    split
    · exact steady_failHandle h' _ _ _ _
    · rename_i l hl
      split
      · exact steady_failHandle h' _ _ _ _
      · refine steady_startWrite (steady_countDrive (steady_setImage_of h' hi (fun hm => ?_)) _ _ _) _ _ _ _ _
        exact Image.markAllocated_sound hm [l] (fun m hm' => by
          rcases List.mem_singleton.1 hm' with rfl; exact Image.lowestFree_lt hm hl)

theorem steady_writeFailed (h : Steady P T s₀ s) (desk : Desk) (n : HandleNo) (j : Nat) (p : PageNo) :
    Steady P T s₀ (s.writeFailed desk n j p) := by
  unfold State.writeFailed
  split
  · split
    · exact steady_relocate h _ _ _ _ _
    · exact steady_freePage h _
  · exact steady_freePage h _

end Sys2Proof.Machine
end

