-- ==== Sys2Proof/Laws/SteadyDrives.lean ====
section
/-! SUPPORT. Steadiness of the teardown, the mount and format sequences and the ends of passes. -/

namespace Sys2Proof.Machine

variable {P : Desk → Prop} {T : Prop} {s₀ s t : State}

/-! ### The teardown -/

theorem steady_abortPass (h : Steady P T s₀ s) (d : DriveNo) : Steady P T s₀ (s.abortPass d) :=
  steady_setChannel (steady_leaveWaitList h _) _

theorem steady_freePages (h : Steady P T s₀ s) (ps : List PageNo) : Steady P T s₀ (ps.foldl (fun s p => State.freePage s p) s) :=
  steady_foldl _ _ (fun _ _ h => steady_freePage h _) h

theorem steady_clearWorkList (h : Steady P T s₀ s) (d : DriveNo) : Steady P T s₀ (s.clearWorkList d) :=
  steady_freePages (steady_setSched h _ _) _

theorem steady_clearHand (h : Steady P T s₀ s) (d : DriveNo) : Steady P T s₀ (s.clearHand d) := by
  unfold State.clearHand
  split
  · exact steady_setSched h _ _
  · exact steady_freePage (steady_setSched h _ _) _

theorem steady_loseHandlesOn (h : Steady P T s₀ s) (d : DriveNo) : Steady P T s₀ (s.loseHandlesOn d) :=
  steady_foldl _ _ (fun s p h => by
    split
    · exact steady_loseHandle h _ _ _ _
    · exact h) h

theorem steady_answerLost (h : Steady P T s₀ s) (d : DriveNo) (n : SlotNo) (c : Change) : Steady P T s₀ (s.answerLost d n c) := by
  unfold State.answerLost
  split
  · split
    · rename_i hw
      split
      · exact steady_failWaiting h (h.mayAnswer (by rw [hw]; exact fun e => nomatch e)) _ _ _
      · exact h
    · exact h
  · split
    · rename_i hw
      split
      · exact steady_failWaiting h (h.mayAnswer (by rw [hw]; exact fun e => nomatch e)) _ _ _
      · exact h
    · exact h

theorem steady_discardSlot (h : Steady P T s₀ s) (d : DriveNo) (n : SlotNo) : Steady P T s₀ (s.discardSlot d n) := by
  unfold State.discardSlot
  dsimp only
  split
  · exact steady_dropHold (steady_answerLost h _ _ _) _ _
  · exact steady_dropHold h _ _

theorem steady_discardImage (h : Steady P T s₀ s) (d : DriveNo) : Steady P T s₀ (s.discardImage d) := by
  unfold State.discardImage
  split
  · exact h
  · exact steady_setImage_none (steady_returnWatches (steady_foldl _ _ (fun _ _ h => steady_discardSlot h _ _) h) _) _

theorem steady_abandonFormat (h : Steady P T s₀ s) (d : DriveNo) : Steady P T s₀ (s.abandonFormat d) := by
  unfold State.abandonFormat
  split
  · split
    · exact steady_setSequencer (steady_leaveSystem h _) _
    · exact h
  · exact h

theorem steady_tearAround (h : Steady P T s₀ s) (d : DriveNo) : Steady P T s₀ (s.tearAround d) :=
  steady_abandonFormat (steady_discardImage (steady_loseHandlesOn (steady_leaveSystem h _) _) _) _

theorem steady_setDrive_stopped (h : Steady P T s₀ s) (d : DriveNo) : Steady P T s₀ (s.setDrive d s.drives[d].stopped) :=
  steady_setDrive_clear h d _ rfl

theorem DriveUnit.enters_mount (u : DriveUnit) (st : DriveState) (c : Option FaultCause) : (u.enters st c).mount = u.mount := rfl

/-- A teardown answers only desks whose requests wait on the drive (R43, R195). -/
theorem steady_tearDown (h : Steady P T s₀ s) (d : DriveNo) (st : DriveState) (c : Option FaultCause) :
    Steady P T s₀ (s.tearDown d st c) := by
  unfold State.tearDown
  have h' := steady_tearAround (steady_setDrive_stopped (steady_clearHand (steady_clearWorkList
    (steady_abortPass h d) d) d) d) d
  exact steady_setDrive_mount h' d _ (DriveUnit.enters_mount _ _ _)

theorem steady_failUnmounts (h : Steady P T s₀ s) (d : DriveNo) : Steady P T s₀ (s.failUnmounts d) :=
  steady_foldl _ _ (fun s desk h => by
    split
    · rename_i hw
      exact steady_failWaiting h (h.mayAnswer (by rw [hw]; exact fun e => nomatch e)) _ _ _
    · exact h) h

theorem steady_leaveUse (h : Steady P T s₀ s) (d : DriveNo) (st : DriveState) (c : Option FaultCause) (ev : Event) :
    Steady P T s₀ (s.leaveUse d st c ev) := steady_failUnmounts (steady_raise (steady_tearDown h _ _ _) _) _

theorem steady_speedFault (h : Steady P T s₀ s) (d : DriveNo) : Steady P T s₀ (s.speedFault d) := by
  unfold State.speedFault
  dsimp only
  have h' := steady_setDrive_mount h d s.drives[d].timerRestarted rfl
  split
  · exact steady_leaveUse (steady_countDrive h' _ _ _) _ _ _ _
  · exact h'

theorem steady_trackZeroFault (h : Steady P T s₀ s) (d : DriveNo) : Steady P T s₀ (s.trackZeroFault d) := steady_leaveUse h _ _ _ _

theorem steady_enterMounting (h : Steady P T s₀ s) (d : DriveNo) : Steady P T s₀ (s.enterMounting d) :=
  steady_startRecal (steady_setDrive_clear h d _ rfl) _

theorem steady_enterBlank (h : Steady P T s₀ s) (d : DriveNo) : Steady P T s₀ (s.enterBlank d) :=
  steady_setDrive_clear (steady_leaveSystem (steady_clearWorkList h _) _) d _ rfl

/-! ### System pages, mount and format -/

theorem steady_grantMount (h : Steady P T s₀ s) (d : DriveNo) (p : PageNo) : Steady P T s₀ (s.grantMount d p) := by
  unfold State.grantMount
  dsimp only
  split
  · exact steady_place (steady_holdPage h p _) _ _ _ _ _ _
  · split
    · rename_i hq
      have h'' := steady_setDrive (steady_holdPage h p (.mountRead d (.catalogue ⟨s.drives[d].mount.nextQ, hq⟩))) d
        { s.drives[d] with mount := { s.drives[d].mount with nextQ := s.drives[d].mount.nextQ + 1 } } (fun hm => hm.2 d)
      split
      · exact steady_joinSystem (steady_place h'' _ _ _ _ _ _) _
      · exact steady_place h'' _ _ _ _ _ _
    · exact h

theorem steady_grantCatalogue (h : Steady P T s₀ s) (d : DriveNo) (q : CatNo) (p : PageNo) : Steady P T s₀ (s.grantCatalogue d q p) :=
  steady_place (steady_holdPage h _ _) _ _ _ _ _ _

theorem steady_grantFormat (h : Steady P T s₀ s) (p : PageNo) : Steady P T s₀ (s.grantFormat p) := by
  unfold State.grantFormat
  split
  · exact h
  · rename_i j _
    dsimp only
    have h' := fun x => steady_holdPage h p (.formatStep j.drive x)
    split
    · exact steady_place (steady_fillPage (h' _) _ _) _ _ _ _ _ _
    · exact steady_place (h' _) _ _ _ _ _ _
    · exact steady_place (steady_fillPage (h' _) _ _) _ _ _ _ _ _
    · split
      · exact steady_place (h' _) _ _ _ _ _ _
      · exact h

theorem steady_grantSystem (h : Steady P T s₀ s) (w : SystemWaiter) (p : PageNo) : Steady P T s₀ (s.grantSystem w p) := by
  unfold State.grantSystem
  dsimp only
  have h' := steady_setPool h { s.pool with sysWaiters := s.pool.sysWaiters.tail }
  cases w
  · exact steady_grantMount h' _ _
  · exact steady_grantCatalogue h' _ _ _
  · exact steady_grantFormat h' _

theorem steady_serveSystemUpTo (n : Nat) (h : Steady P T s₀ s) : Steady P T s₀ (s.serveSystemUpTo n) := by
  induction n generalizing s with
  | zero => exact h
  | succ n ih =>
    unfold State.serveSystemUpTo
    split
    · exact ih (steady_grantSystem h _ _)
    · exact h

/-- Granting system pages reaches no idle desk (R90). -/
theorem steady_serveSystem (h : Steady P T s₀ s) : Steady P T s₀ s.serveSystem := steady_serveSystemUpTo 8 h

theorem steady_afterRecal (h : Steady P T s₀ s) (d : DriveNo) : Steady P T s₀ (s.afterRecal d) := by
  unfold State.afterRecal
  dsimp only
  split
  · refine steady_joinSystem (steady_setDrive h d _ ?_) _
    exact fun hm => hm.2 d
  · exact h

theorem steady_mountLabelDone (h : Steady P T s₀ s) (d : DriveNo) (p : PageNo) : Steady P T s₀ (s.mountLabelDone d p) := by
  unfold State.mountLabelDone
  dsimp only
  have h' := steady_freePage h p
  split
  · exact steady_enterBlank h' _
  · rename_i l hl
    refine steady_joinSystem (steady_setDrive h' d _ ?_) _
    intro hm
    refine ⟨fun k hk => ?_, (hm.2 d).2⟩
    cases hk; exact labelOf_bad hl

theorem steady_mountLabelFailed (h : Steady P T s₀ s) (d : DriveNo) (p : PageNo) : Steady P T s₀ (s.mountLabelFailed d p) :=
  steady_enterBlank (steady_freePage h _) _

theorem steady_completeMount (h : Steady P T s₀ s) (d : DriveNo) : Steady P T s₀ (s.completeMount d) := by
  unfold State.completeMount
  dsimp only
  split
  · exact h
  · rename_i l hl
    refine steady_raise (steady_setDrive_clear (steady_setImageSerial (steady_setImage h d _ (fun hm img hi => ?_)) _) d _ rfl) _
    cases hi
    exact buildImage_sound _ l _ ((hm.2 d).1 l hl) (hm.2 d).2

theorem steady_mountReturned (h : Steady P T s₀ s) (d : DriveNo) (m : MountRecord) (hm : s.mapsSound → m.sound) :
    Steady P T s₀ (s.mountReturned d m) := by
  unfold State.mountReturned
  dsimp only
  have h' := steady_setDrive h d { s.drives[d] with mount := { m with returned := m.returned + 1 } } (fun hs => hm hs)
  split
  · exact steady_completeMount h' _
  · exact h'

theorem steady_mountCatalogueDone (h : Steady P T s₀ s) (d : DriveNo) (q : CatNo) (p : PageNo) :
    Steady P T s₀ (s.mountCatalogueDone d q p) := by
  unfold State.mountCatalogueDone
  dsimp only
  refine steady_mountReturned (steady_freePage h p) d _ (fun hs => ⟨(hs.2 d).1, fun x hx => ?_⟩)
  rcases List.mem_append.1 hx with hx | hx
  · exact (hs.2 d).2 x hx
  · exact examineSector_within q _ x hx

theorem steady_mountCatalogueFailed (h : Steady P T s₀ s) (d : DriveNo) (q : CatNo) (p : PageNo) :
    Steady P T s₀ (s.mountCatalogueFailed d q p) :=
  steady_mountReturned (steady_freePage h p) d _ (fun hs => hs.2 d)

theorem steady_formatAsks (h : Steady P T s₀ s) (j : FormatJob) : Steady P T s₀ (s.formatAsks j) :=
  steady_joinSystem (steady_setSequencer h _) _

theorem steady_formatEnds (h : Steady P T s₀ s) (j : FormatJob) : Steady P T s₀ (s.formatEnds j) :=
  steady_enterBlank (steady_setSequencer h _) _

theorem steady_formatDone (h : Steady P T s₀ s) (p : PageNo) : Steady P T s₀ (s.formatDone p) := by
  unfold State.formatDone
  dsimp only
  have h' := steady_freePage h p
  split
  · exact h'
  · split
    · exact steady_formatAsks h' _
    · exact steady_formatAsks h' _
    · exact steady_formatAsks h' _
    · split
      · exact steady_enterMounting (steady_setSequencer h' _) _
      · exact steady_formatAsks h' _

theorem steady_formatFailed (h : Steady P T s₀ s) (p : PageNo) : Steady P T s₀ (s.formatFailed p) := by
  unfold State.formatFailed
  dsimp only
  have h' := steady_freePage h p
  split
  · exact h'
  · split
    · split
      · exact steady_raise (steady_formatEnds h' _) _
      · exact steady_formatAsks h' _
    · exact steady_formatEnds h' _

theorem steady_formatProtected (h : Steady P T s₀ s) (p : PageNo) : Steady P T s₀ (s.formatProtected p) := by
  unfold State.formatProtected
  dsimp only
  split
  · exact steady_freePage h _
  · exact steady_formatEnds (steady_freePage h _) _

/-! ### The end of an UNMOUNT -/

/-- Ending an unmount answers only the desk whose UNMOUNT waits (R186). -/
theorem steady_completeUnmount (h : Steady P T s₀ s) (d : DriveNo) : Steady P T s₀ (s.completeUnmount d) := by
  unfold State.completeUnmount
  split
  · exact h
  · split
    · dsimp only
      have h' := steady_raise (steady_tearDown h d .offline none) (.removed d)
      split
      · exact h'
      · rename_i desk hd
        have hb : s.desks[desk].inProgress ≠ none := by
          have := List.find?_some hd
          rw [eq_of_beq this]; exact fun e => nomatch e
        exact steady_done (steady_setInProgress h' (h.mayAnswer hb) none) (h.mayAnswer hb) _ _ _ _
    · exact h

/-- Serving the pools answers only desks whose request waits (R86 to R94, R186). -/
theorem steady_servePools (h : Steady P T s₀ s) : Steady P T s₀ s.servePools :=
  steady_serveGeneral (steady_serveSystem (steady_foldl _ _ (fun _ _ h => steady_completeUnmount h _) h))

/-! ### Commits and failures of catalogue-sector writes -/

theorem steady_answerDone (h : Steady P T s₀ s) (desk : Desk) (mine : Waiting → Bool) (fs : List Byte) :
    Steady P T s₀ (s.answerDone desk mine fs) := by
  unfold State.answerDone
  split
  · rename_i hw
    split
    · have ho := h.mayAnswer (desk := desk) (by rw [hw]; exact fun e => nomatch e)
      exact steady_done (steady_setInProgress h ho none) ho _ _ _ _
    · exact h
  · exact h

theorem steady_answerFailed (h : Steady P T s₀ s) (desk : Desk) (mine : Waiting → Bool) (r : Reason) :
    Steady P T s₀ (s.answerFailed desk mine r) := by
  unfold State.answerFailed
  split
  · rename_i hw
    split
    · exact steady_failWaiting h (h.mayAnswer (by rw [hw]; exact fun e => nomatch e)) _ _ _
    · exact h
  · exact h

theorem steady_commitVersion (h : Steady P T s₀ s) (d : DriveNo) (n : SlotNo) (v : NewVersion) :
    Steady P T s₀ (s.commitVersion d n v) := by
  unfold State.commitVersion
  dsimp only
  generalize hs' : (if (s.slot d n).state = .filed then _ else _ : State) = s'
  have h' : Steady P T s₀ s' := by
    rw [← hs']; split
    · exact steady_retire h _ _
    · exact h
  refine steady_answerDone (steady_raise (steady_setHandle ?_ _ _ _) _) _ _ _
  split
  · exact steady_dropHold (steady_setSlot h' _ _ _) _ _
  · exact steady_setSlot h' _ _ _

theorem steady_commitRemoval (h : Steady P T s₀ s) (d : DriveNo) (n : SlotNo) (desk : Desk) :
    Steady P T s₀ (s.commitRemoval d n desk) := by
  unfold State.commitRemoval
  dsimp only
  exact steady_answerDone (steady_raise (steady_setSlot (steady_releaseWithEvent (steady_retire h _ _) _ _) _ _ _) _) _ _ _

theorem steady_commitSlot (h : Steady P T s₀ s) (d : DriveNo) (n : SlotNo) : Steady P T s₀ (s.commitSlot d n) := by
  unfold State.commitSlot
  dsimp only
  split
  · exact steady_commitVersion h _ _ _
  · exact steady_commitRemoval h _ _ _
  · exact h

theorem steady_writeOver (h : Steady P T s₀ s) (d : DriveNo) (q : CatNo) (p : PageNo) : Steady P T s₀ (s.writeOver d q p) := by
  unfold State.writeOver
  dsimp only
  have h' := steady_freePage h p
  split
  · exact steady_joinSystem (steady_setWriteState h' _ _ _) _
  · exact steady_setWriteState h' _ _ _
  · exact h'

theorem steady_catalogueDone (h : Steady P T s₀ s) (d : DriveNo) (q : CatNo) (p : PageNo) : Steady P T s₀ (s.catalogueDone d q p) :=
  steady_writeOver (steady_foldl _ _ (fun _ _ h => steady_commitSlot h _ _) h) _ _ _

theorem steady_failVersion (h : Steady P T s₀ s) (d : DriveNo) (n : SlotNo) (v : NewVersion) (r : Reason) :
    Steady P T s₀ (s.failVersion d n v r) := by
  unfold State.failVersion
  dsimp only
  have h' := steady_setHandle (steady_giveBack h d v.extents) v.desk v.handle .free
  split
  · exact steady_answerFailed (steady_freeCreating h' _ _) _ _ _
  · exact steady_answerFailed (steady_setSlot h' _ _ _) _ _ _

theorem steady_failSlot (h : Steady P T s₀ s) (d : DriveNo) (r : Reason) (n : SlotNo) : Steady P T s₀ (s.failSlot d r n) := by
  unfold State.failSlot
  dsimp only
  split
  · exact steady_failVersion h _ _ _ _
  · exact steady_answerFailed (steady_setSlot h _ _ _) _ _ _
  · exact h

theorem steady_failSlots (h : Steady P T s₀ s) (d : DriveNo) (r : Reason) (l : List SlotNo) :
    Steady P T s₀ (l.foldl (fun s n => State.failSlot s d r n) s) :=
  steady_foldl _ _ (fun _ _ h => steady_failSlot h _ _ _) h

theorem steady_catalogueFailed (h : Steady P T s₀ s) (d : DriveNo) (q : CatNo) (p : PageNo) (r : Reason) :
    Steady P T s₀ (s.catalogueFailed d q p r) := by
  have h' : Steady P T s₀ (s.setDrive d { s.drives[d] with damaged := true }) := steady_setDrive_mount h d _ rfl
  unfold State.catalogueFailed
  dsimp only
  generalize hs' : (if r = .catalogueWrite then _ else _ : State) = s'
  have k : Steady P T s₀ s' := by
    rw [← hs']; split
    · exact h'
    · exact h
  exact steady_writeOver (steady_failSlots k d r _) _ _ _

/-! ### Owners and the end of a pass -/

theorem steady_ownerDone (h : Steady P T s₀ s) (r : SectorRequest) : Steady P T s₀ (s.ownerDone r) := by
  unfold State.ownerDone
  split
  · split
    · exact steady_readDone h _ _ _ _
    · exact steady_writeDone h _ _ _ _
  · exact steady_catalogueDone h _ _ _
  · exact steady_mountLabelDone h _ _
  · exact steady_mountCatalogueDone h _ _ _
  · exact steady_formatDone h _
  · exact steady_formatDone h _
  · exact steady_formatDone h _
  · exact steady_formatDone h _

theorem steady_ownerFailed (h : Steady P T s₀ s) (r : SectorRequest) (c : PassCause) : Steady P T s₀ (s.ownerFailed r c) := by
  unfold State.ownerFailed
  split
  · split
    · exact steady_readFailed h _ _ _ _ _
    · exact steady_writeFailed h _ _ _ _
  · exact steady_catalogueFailed h _ _ _ _
  · exact steady_mountLabelFailed h _ _
  · exact steady_mountCatalogueFailed h _ _ _
  · exact steady_formatFailed h _
  · exact steady_formatFailed h _
  · exact steady_formatFailed h _
  · exact steady_formatFailed h _

theorem steady_ownerProtected (h : Steady P T s₀ s) (r : SectorRequest) : Steady P T s₀ (s.ownerProtected r) := by
  unfold State.ownerProtected
  split
  · exact steady_writeProtected h _ _ _ _
  · exact steady_catalogueFailed h _ _ _ _
  · exact steady_freePage h _
  · exact steady_freePage h _
  · exact steady_formatProtected h _
  · exact steady_formatProtected h _
  · exact steady_formatProtected h _
  · exact steady_formatProtected h _

theorem steady_countPass (h : Steady P T s₀ s) (d : DriveNo) (op : Operation) (e : PassEnd) : Steady P T s₀ (s.countPass d op e) := by
  unfold State.countPass
  split
  · split <;> exact steady_countDrive h _ _ _
  · exact h
  · exact steady_countDrive h _ _ _

theorem DriveUnit.restarted_mount (u : DriveUnit) (auto : Bool) : (u.restarted auto).mount = .clear := rfl

theorem steady_finishPass (h : Steady P T s₀ s) (d : DriveNo) (p : PageNo) : Steady P T s₀ (s.finishPass d p) := by
  unfold State.finishPass
  dsimp only
  exact steady_releaseChannel (steady_setDrive_clear (steady_setSched (steady_freePage h _) _ _) d _ rfl) _

theorem steady_retryOrFail (h : Steady P T s₀ s) (d : DriveNo) (r : SectorRequest) (c : PassCause) :
    Steady P T s₀ (s.retryOrFail d r c) := by
  unfold State.retryOrFail
  split
  · exact steady_ownerFailed (steady_countDrive h _ _ _) _ _
  · dsimp only
    split
    · exact steady_setDrive_mount (steady_setSched h _ _) d _ rfl
    · exact steady_setSched h _ _

theorem DriveUnit.startRecalUnstepped_mount (u : DriveUnit) (st : Settings) : (u.startRecalUnstepped st).mount = u.mount := by
  unfold DriveUnit.startRecalUnstepped; split
  · exact DriveUnit.startRecal_mount _ _
  · exact DriveUnit.startRecal_mount u st

theorem steady_recalAtOnce (h : Steady P T s₀ s) (d : DriveNo) : Steady P T s₀ (s.recalAtOnce d) := by
  unfold State.recalAtOnce
  split
  · exact steady_startRecal h _
  · exact steady_countDrive (steady_setDrive_mount h d _ (DriveUnit.startRecalUnstepped_mount _ _)) _ _ _

/-- The end of a pass answers only desks whose request waited on it (R61, R76). -/
theorem steady_endPass (h : Steady P T s₀ s) (p : Pass) (r : SectorRequest) (e : PassEnd) : Steady P T s₀ (s.endPass p r e) := by
  unfold State.endPass
  dsimp only
  generalize hs' : State.setChannel (s.countPass p.drive r.operation e) _ = s'
  have h' : Steady P T s₀ s' := by rw [← hs']; exact steady_setChannel (steady_countPass h _ _ _) _
  split
  · exact steady_finishPass h' _ _
  · have h'' := steady_setSched h' p.drive { s'.scheds[p.drive] with inHand := none }
    split
    · refine steady_continueRun (steady_servePools ?_) _
      split
      · exact steady_freePage h'' _
      · exact steady_ownerDone h'' _
    · refine steady_releaseChannel (steady_servePools ?_) _
      split
      · exact steady_freePage h'' _
      · exact steady_ownerProtected h'' _
    · rename_i c
      have k : Steady P T s₀ (State.releaseChannel (State.servePools (if p.withdrawn = true then
          State.freePage (s'.setSched p.drive { s'.scheds[p.drive] with inHand := none }) r.page
          else State.retryOrFail (s'.setSched p.drive { s'.scheds[p.drive] with inHand := none }) p.drive r c)) p.drive) := by
        refine steady_releaseChannel (steady_servePools ?_) _
        split
        · exact steady_freePage h'' _
        · exact steady_retryOrFail h'' _ _ _
      split
      · exact steady_recalAtOnce k _
      · exact k

end Sys2Proof.Machine
end

