-- ==== Sys2Proof/WellFormed.lean ====
section
/-! DEFINITION. The commands the outside can give: a frame body has 1 to 200 bytes (R162), and ILLEGAL_KIND carries a kind byte
that is not in the table of R169. The meanings are total: they do not need these checks. -/

namespace Sys2Proof

/-- The kind bytes of R169. -/
def kindBytes : List Byte :=
  [0x01, 0x02, 0x0F, 0x10, 0x11, 0x20, 0x21, 0x22, 0x23, 0x24, 0x25, 0x26, 0x27, 0x28, 0x30, 0x31, 0x32, 0x40, 0x41, 0x42, 0x43,
   0x60, 0x61, 0x62, 0x63, 0x64, 0x65, 0x66, 0x67]

/-- The field bytes of a frame body: at most 199 after the kind byte (R162). -/
def fieldsFit (fields : List Byte) : Bool := decide (fields.length ≤ 199)

/-- The command is one the outside can give. -/
def Instr.wellFormed : Instr → Bool
  | .idle _ fields => fieldsFit fields
  | .status _ fields => fieldsFit fields
  | .cancel _ fields => fieldsFit fields
  | .list _ fields => fieldsFit fields
  | .listOn _ fields => fieldsFit fields
  | .openRead _ fields => fieldsFit fields
  | .openWrite _ fields => fieldsFit fields
  | .put _ fields => fieldsFit fields
  | .putOn _ fields => fieldsFit fields
  | .get _ fields => fieldsFit fields
  | .getOn _ fields => fieldsFit fields
  | .file _ fields => fieldsFit fields
  | .drop _ fields => fieldsFit fields
  | .close _ fields => fieldsFit fields
  | .hold _ fields => fieldsFit fields
  | .release _ fields => fieldsFit fields
  | .spike _ fields => fieldsFit fields
  | .watch _ fields => fieldsFit fields
  | .unwatch _ fields => fieldsFit fields
  | .subscribe _ fields => fieldsFit fields
  | .takeNotice _ fields => fieldsFit fields
  | .driveSet _ fields => fieldsFit fields
  | .deskSet _ fields => fieldsFit fields
  | .mount _ fields => fieldsFit fields
  | .unmount _ fields => fieldsFit fields
  | .format _ fields => fieldsFit fields
  | .breakHold _ fields => fieldsFit fields
  | .tally _ fields => fieldsFit fields
  | .restart _ fields => fieldsFit fields
  | .illegalKind _ kind fields => fieldsFit fields && !kindBytes.contains kind
  | .byteReceived _ _ => true
  | .framingError _ => true
  | .interByteTimeout _ => true
  | .lineBreak _ => true
  | .lineBreakEnd _ => true
  | .replySent _ => true
  | .readyFalling _ => true
  | .readyRising _ => true
  | .writeProtectChange _ _ => true
  | .indexPulse _ => true
  | .noIndexTimeout _ => true
  | .stepIntervalExpiry _ _ => true
  | .recalibrationStepExpiry _ _ => true
  | .settleExpiry _ => true
  | .headLoadExpiry _ => true
  | .idFieldRead _ _ _ _ => true
  | .dataFieldRead _ _ => true
  | .dataFieldWritten => true
  | .powerGoodRise _ _ _ => true
  | .powerGoodFall => true

end Sys2Proof
end

