-- ==== Sys2Proof/Tests/Slice0.lean ====
section
/-! SUPPORT. Small tests: the refusal of ill-formed commands, the manual's worked numbers, one step of each command, and for each
statement with hypotheses a state and operands that meet them. -/

namespace Sys2Proof.Tests

set_option Elab.async false

open Sys2Proof Sys2Proof.Machine

/-! ### A small floor -/

def text (s : List Nat) : List Byte := s.map byteOf
/-- FLOOD -/
def flood : List Byte := text [70, 76, 79, 79, 68]
/-- TOLL -/
def toll : List Byte := text [84, 79, 76, 76]
/-- NEWS -/
def news : List Byte := text [78, 69, 87, 83]
/-- GONE -/
def gone : List Byte := text [71, 79, 78, 69]
/-- TAKEN -/
def taken : List Byte := text [84, 65, 75, 69, 78]
/-- NONE, which no slot has -/
def nobody : List Byte := text [78, 79, 78, 69]

def filedSlot (slug : Chars) (edition start : Nat) (holder : Option Desk) : Slot :=
  { Slot.free with state := .filed, slug := slug, edition := edition, version := 3, length := 1000, extents := [⟨start, 2⟩],
                   holder := holder }

/-- Slot 9 FLOOD, unheld with a reader; slot 14 TOLL, held by desk 2; slot 20 NEWS, CREATING by desk 3; slot 30 GONE, being removed by
desk 4; slot 31 TAKEN, held by desk 1. -/
def volume : Image :=
  { id := 0, name := text [69], skew := 2, bad := [7],
    slots := (((((Vector.replicate 232 Slot.free).set 9 { filedSlot flood 2 0 none with readers := 1 }).set 14
        (filedSlot toll 2 2 (some 2))).set 20
        { Slot.free with state := .creating, slug := news, edition := 1, length := 600, holder := some 3 }).set 30
        { filedSlot gone 1 4 none with pending := some (.removal 4) }).set 31 (filedSlot taken 1 10 (some 1)),
    allocated := [0, 1, 2, 3, 4, 5, 7, 10, 11, 20, 21, 22, 23], retired := [], nextRetired := 0, suspect := [],
    writes := (Vector.replicate 29 .clean).set 3 .dirty, unmounting := false }

def reader : ReadHandle :=
  { drive := 0, slot := 9, slug := flood, cls := .routine, length := 1000, version := 3, extents := [⟨0, 2⟩], binding := .current,
    delivery := 0, readAhead := 0, table := [.present 0, .absent] }

def writer : WriteHandle :=
  { drive := 0, slot := 14, slug := toll, cls := .routine, length := 600, state := .isOpen, mode := .replace, edition := 2,
    reservation := [⟨20, 2⟩], mark := 0, check := 0xFFFF, table := [.unstarted, .unstarted], keepHold := false, placed := false,
    orphan := false }

def committer : WriteHandle :=
  { writer with slot := 20, slug := news, mode := .new, state := .committing, reservation := [⟨22, 2⟩], mark := 600,
                table := [.written, .written] }

def lostOne : LostHandle := { drive := 2, slot := 0, slug := toll, cls := .routine, length := 5, cause := .driveLost }

def mountedDrive : DriveUnit :=
  { DriveUnit.powerOn with state := .mounted, ready := true, reference := true, position := some 10, head := .loaded }

def deskWith (w : Option Waiting) (c : Continuation) : DeskContext := { DeskContext.clear with inProgress := w, continuation := c }

/-- Drive 0 MOUNTED, drive 1 OFFLINE, drive 2 EMPTY, drive 3 DISABLED. Desk 0 supervises; desk 1 reads FLOOD and desk 2 writes TOLL;
desk 3 waits on a FILE, desk 4 on a SPIKE, desk 5 on a GET; desk 6 has a LIST continuation; desk 7 has no handle. -/
def floor : State :=
  { State.reset with
    drives := #v[mountedDrive, { DriveUnit.powerOn with state := .offline, ready := true }, .powerOn,
                 { DriveUnit.powerOn with state := .disabled }]
    images := #v[some volume, none, none, none]
    handles := #v[#v[.free, .free], #v[.reading reader, .free], #v[.writing writer, .lost lostOne], #v[.writing committer, .free],
                  #v[.free, .free], #v[.reading { reader with table := [.absent, .absent] }, .reading reader],
                  #v[.writing { writer with state := .failed .diskFull }, .free], #v[.free, .free]]
    desks := #v[.clear, { deskWith none (.get 0) with holds := 1 }, { deskWith none (.put 0) with holds := 1 },
                { deskWith (some (.file 0)) .none with holds := 1 }, deskWith (some (.spike 0 30 false)) .none,
                deskWith (some (.get false 0 0 10)) .none, deskWith none (.list 0 0 [] 16), .clear]
    pool := { Pool.allFree with pages := (Vector.replicate 64 none).set 0 (some ⟨.handleSector 1 0 0, zeroSector, false⟩) } }

def next (c : Instr) (s : State) : State := match exec c s with | .next t => t | _ => s

/-- The reply a desk's line queued last: kind, result, reason and fields. -/
def lastReply (s : State) (desk : Desk) : Option (Byte × Result × Option Reason × List Byte) :=
  (s.lines[desk].replies.getLast?).map (fun r => (r.kind, r.result, r.reason, r.fields))

def said (c : Instr) (s : State) (desk : Desk) : Option (Byte × Result × Option Reason × List Byte) := lastReply (next c s) desk

/-! ### Ill-formed commands are refused -/

theorem test_wellFormed_takes_199_fields : (Instr.idle 0 (List.replicate 199 0)).wellFormed = true := by decide +kernel
theorem test_wellFormed_refuses_200_fields : (Instr.put 0 (List.replicate 200 0)).wellFormed = false := by decide +kernel
theorem test_wellFormed_refuses_known_kind : (Instr.illegalKind 0 0x30 []).wellFormed = false := by decide +kernel
theorem test_wellFormed_refuses_long_illegal : (Instr.illegalKind 0 0x55 (List.replicate 200 0)).wellFormed = false := by decide +kernel
theorem test_wellFormed_takes_unknown_kind : (Instr.illegalKind 0 0x55 []).wellFormed = true := by decide +kernel
theorem test_no_word_spells_a_command : decodeTableWord 16 0x3001 = none := by decide +kernel

/-! ### The manual's worked numbers -/

/-- R3: the check of zero bytes. -/
theorem test_check_of_nothing : checkOf [] = 0xFFFF := by decide +kernel
/-- R3: the common check value of the nine digits for this polynomial and start. -/
theorem test_check_of_digits : checkOf (text [0x31, 0x32, 0x33, 0x34, 0x35, 0x36, 0x37, 0x38, 0x39]) = 0x29B1 := by decide +kernel
/-- R7, the example's track: cylinder 16 at skew 2. -/
theorem test_slot_order :
    (List.range 15).map (sectorInSlot 2 16) = [13, 14, 0, 1, 2, 3, 4, 5, 6, 7, 8, 9, 10, 11, 12] := by decide +kernel
/-- R8, the example's starts. -/
theorem test_slot_starts :
    (List.range 15).map (slotStart 1667) = [0, 111, 222, 333, 444, 555, 666, 777, 889, 1000, 1111, 1222, 1333, 1444, 1555] := by
  decide +kernel
/-- R9, the example's places. -/
theorem test_places :
    [0, 280, 287, 450, 611, 2279].map (fun l => ((targetOfL l).cylinder, (targetOfL l).head, (targetOfL l).sector)) =
      [(1, 0, 0), (10, 0, 10), (10, 1, 2), (16, 0, 0), (21, 0, 11), (76, 1, 14)] := by decide +kernel

def schedDrive (e : Nat) (h : HeadState) : DriveUnit := { mountedDrive with elapsed := e, head := h }
def costs (e : Nat) (h : HeadState) : List Nat :=
  [450, 280, 287].map (fun l => (positioningCost .powerOn (schedDrive e h) 10 2 (targetOfL l)).1)

/-- R53, the worked choice, with the head loaded and unloaded. -/
theorem test_costs : costs 400 .loaded = [1489, 1267, 377] ∧ costs 400 .unloaded = [1489, 1267, 377] := by decide +kernel
/-- R53, the guard: C at four moments, and the late pulse. -/
theorem test_guard :
    [774, 775, 776, 777, 1700].map (fun e => (positioningCost .powerOn (schedDrive e .loaded) 10 2 (targetOfL 287)).1) =
      [3, 1669, 1668, 1667, 744] := by decide +kernel

/-- The map of R101's example: 10 to 12, 41, 100 to 199 and 300 to 2,279 free. -/
def firstFit : Image :=
  { volume with allocated := List.range 10 ++ List.range' 13 28 ++ List.range' 42 58 ++ List.range' 200 100 }
def given (img : Image) (n : Nat) : Option (List Extent) := (img.reserve n).toOption
/-- R101, the example. -/
theorem test_first_fit :
    given firstFit 2 = some [⟨10, 2⟩] ∧ given firstFit 7 = some [⟨10, 3⟩, ⟨41, 1⟩, ⟨100, 3⟩] ∧
      given firstFit 120 = some [⟨10, 3⟩, ⟨41, 1⟩, ⟨100, 100⟩, ⟨300, 16⟩] ∧ given firstFit 0 = some [] := by decide +kernel
/-- R140, the example's relocations and its join. -/
theorem test_relocations :
    joined (splitAt [⟨120, 5⟩, ⟨300, 3⟩] 2 40) = [⟨120, 2⟩, ⟨40, 1⟩, ⟨123, 2⟩, ⟨300, 3⟩] ∧
      joined (splitAt [⟨120, 2⟩, ⟨40, 1⟩, ⟨123, 2⟩, ⟨300, 3⟩] 6 41) =
        [⟨120, 2⟩, ⟨40, 1⟩, ⟨123, 2⟩, ⟨300, 1⟩, ⟨41, 1⟩, ⟨302, 1⟩] ∧
      joined (splitAt [⟨120, 5⟩, ⟨300, 3⟩] 5 125) = [⟨120, 6⟩, ⟨301, 2⟩] := by decide +kernel
/-- R16: a story of 61,440 bytes takes 120 sectors; one of 1,500 three. -/
theorem test_sectors_for : sectorsFor 61440 = 120 ∧ sectorsFor 1500 = 3 ∧ sectorsFor 0 = 0 := by decide +kernel
/-- R10: the catalogue cylinder. -/
theorem test_catalogue_places :
    catalogueTarget 13 = ⟨0, 0, 14⟩ ∧ catalogueTarget 14 = ⟨0, 1, 0⟩ ∧ catalogueTarget 28 = ⟨0, 1, 14⟩ ∧ catalogueOf 231 = 28 := by
  decide +kernel

/-! ### One step of each command -/

theorem test_idle : said (.idle 1 []) floor 1 = some (0x01, .done, none, []) := by decide +kernel
theorem test_idle_busy : said (.idle 5 []) floor 5 = some (0x01, .refused, some .busy, []) := by decide +kernel
theorem test_status_length : (said (.status 2 []) floor 2).map (fun r => r.2.2.2.length) = some 115 := by decide +kernel
theorem test_cancel_nothing : said (.cancel 1 []) floor 1 = some (0x0F, .done, none, []) := by decide +kernel
theorem test_cancel_get :
    ((next (.cancel 5 []) floor).lines[(5 : Desk)]).replies.map (fun r => (r.kind, r.result, r.reason)) =
      [(0x24, .refused, some .cancelled), (0x0F, .done, none)] := by decide +kernel
theorem test_list_count : ((said (.list 7 [0, 2]) floor 7).map (fun r => r.2.2.2.headD 9)) = some 2 := by decide +kernel
theorem test_list_cursor : ((next (.list 7 [0, 16]) floor).desks[(7 : Desk)]).cursor = 21 := by decide +kernel
theorem test_listOn_end : ((next (.listOn 6 []) floor).desks[(6 : Desk)]).cursor = 21 := by decide +kernel
theorem test_openRead_reply : said (.openRead 7 (0 :: 0 :: flood)) floor 7 = some (0x20, .done, none, [0, 3, 0xE8, 0, 3]) := by
  decide +kernel
theorem test_openWrite_new :
    said (.openWrite 7 ([0, 0, 0, 5, 2, 1] ++ nobody)) floor 7 = some (0x21, .done, none, [0, 2]) := by decide +kernel
theorem test_openWrite_replace_held :
    said (.openWrite 7 ([0, 1, 0, 5, 2, 1] ++ toll)) floor 7 = some (0x21, .refused, some .heldElsewhere, []) := by decide +kernel
theorem test_put_reply : said (.put 2 [0, 0, 0, 1, 2, 3]) floor 2 = some (0x22, .done, none, [0, 3, 3]) := by decide +kernel
theorem test_put_gap : said (.put 2 [0, 0, 1, 1]) floor 2 = some (0x22, .refused, some .gap, []) := by decide +kernel
theorem test_putOn_reply : said (.putOn 2 [9]) floor 2 = some (0x23, .done, none, [0, 1, 1]) := by decide +kernel
theorem test_get_reply : said (.get 1 [0, 0, 0, 2]) floor 1 = some (0x24, .done, none, [2, 0, 0]) := by decide +kernel
theorem test_get_range : said (.get 1 [0, 0, 0, 129]) floor 1 = some (0x24, .refused, some .outOfRange, []) := by decide +kernel
/-- R171: a GET refused OUT-OF-RANGE places no READ. -/
theorem test_get_range_places_nothing :
    ((next (.get 1 [0, 0, 0, 129]) floor).scheds[(0 : DriveNo)]) = Scheduler.idle := by decide +kernel
theorem test_getOn_cursor : ((next (.getOn 1 [5]) floor).desks[(1 : Desk)]).cursor = 5 := by decide +kernel
theorem test_file_incomplete : said (.file 2 [0, 0xFF, 0xFF, 0]) floor 2 = some (0x26, .refused, some .incomplete, []) := by
  decide +kernel
theorem test_drop_frees : (next (.drop 2 [0]) floor).handle 2 0 = .free := by decide +kernel
theorem test_drop_gives_back :
    ((next (.drop 2 [0]) floor).images[(0 : DriveNo)]).map Image.allocated = some [0, 1, 2, 3, 4, 5, 7, 10, 11, 22, 23] := by
  decide +kernel
theorem test_close_unbinds : ((next (.close 1 [0]) floor).slot 0 9).readers = 0 := by decide +kernel
theorem test_hold_takes : ((next (.hold 7 (0 :: flood)) floor).slot 0 9).holder = some 7 := by decide +kernel
theorem test_hold_elsewhere : said (.hold 7 (0 :: toll)) floor 7 = some (0x30, .refused, some .heldElsewhere, []) := by decide +kernel
theorem test_release_in_use : said (.release 2 (0 :: toll)) floor 2 = some (0x31, .refused, some .inUse, []) := by decide +kernel
theorem test_release_gives : ((next (.release 1 (0 :: taken)) floor).slot 0 31).holder = none := by decide +kernel
theorem test_spike_waits : ((next (.spike 7 (0 :: 0 :: flood)) floor).desks[(7 : Desk)]).inProgress = some (.spike 0 9 false) := by
  decide +kernel
theorem test_watch_new : said (.watch 1 ([3, 2, 5, 0, 1] ++ toll)) floor 1 = some (0x40, .done, none, [0]) := by decide +kernel
theorem test_unwatch_empty : said (.unwatch 1 [3]) floor 1 = some (0x41, .done, none, [0]) := by decide +kernel
theorem test_subscribe : ((next (.subscribe 1 [9, 6]) floor).desks[(1 : Desk)]).driveSet = 9 := by decide +kernel
theorem test_takeNotice_none : said (.takeNotice 1 []) floor 1 = some (0x43, .done, none, [0]) := by decide +kernel
theorem test_driveSet_clamps :
    said (.driveSet 0 [1, 0, 0, 9, 9, 0, 1, 61, 0, 0, 0, 0, 0, 7, 1]) floor 0 =
      some (0x60, .done, none, [0, 10, 1, 0xF4, 0, 1, 60, 1, 0, 0, 3, 0xE8, 1, 1]) := by decide +kernel
theorem test_deskSet_last : said (.deskSet 0 [0, 2, 9, 0]) floor 0 = some (0x61, .refused, some .lastSupervisor, []) := by decide +kernel
theorem test_deskSet_stores : said (.deskSet 0 [3, 2, 99, 9]) floor 0 = some (0x61, .done, none, [2, 56, 4]) := by decide +kernel
theorem test_mount : ((next (.mount 0 [1]) floor).drives[(1 : DriveNo)]).state = .spinCheck := by decide +kernel
theorem test_unmount_in_use : said (.unmount 0 [0, 0]) floor 0 = some (0x63, .refused, some .inUse, []) := by decide +kernel
theorem test_format_takes : ((next (.format 0 ([1, 2, 0] ++ news)) floor).drives[(1 : DriveNo)]).state = .formatting := by decide +kernel
theorem test_breakHold : ((next (.breakHold 0 (0 :: toll)) floor).slot 0 14).holder = none := by decide +kernel
theorem test_breakHold_told :
    ((next (.breakHold 0 (0 :: toll)) floor).desks[(2 : Desk)]).notices = [.holdBroken 0 toll 0, .handleLost 2 0 .notHolder] := by
  decide +kernel
theorem test_tally : said (.tally 0 [1, 5, 1]) floor 0 = some (0x66, .done, none, [0, 0, 0, 0]) := by decide +kernel
theorem test_tally_not_permitted : said (.tally 1 [1, 5, 1]) floor 1 = some (0x66, .refused, some .notPermitted, []) := by
  decide +kernel
theorem test_restart_spins :
    ((next (.restart 0 []) (State.reset.setDrive 1 floor.drives[(1 : DriveNo)])).drives[(1 : DriveNo)]).state = .spinCheck := by
  decide +kernel
theorem test_illegalKind : said (.illegalKind 1 0x55 []) floor 1 = some (0x55, .refused, some .illegalKind, []) := by decide +kernel
theorem test_byteReceived_lead : ((next (.byteReceived 1 0xA7) floor).lines[(1 : Desk)]).receive = .length := by decide +kernel
theorem test_framingError_hunting : ((next (.framingError 1) floor).lines[(1 : Desk)]).receive = .hunting := by decide +kernel
theorem test_interByteTimeout_counts :
    ((next (.interByteTimeout 1) (next (.byteReceived 1 0xA7) floor)).deskTallies[(1 : Desk)]).framesDiscarded = 1 := by decide +kernel
theorem test_lineBreak_resets : (next (.lineBreak 1) floor).handle 1 0 = .free := by decide +kernel
theorem test_lineBreakEnd : ((next (.lineBreakEnd 1) (next (.lineBreak 1) floor)).lines[(1 : Desk)]).receive = .hunting := by
  decide +kernel
theorem test_replySent : ((next (.replySent 1) (next (.idle 1 []) floor)).lines[(1 : Desk)]).replies = [] := by decide +kernel
theorem test_readyFalling_loses : (next (.readyFalling 0) floor).handle 1 0 =
    .lost ⟨0, 9, flood, .routine, 1000, .driveLost⟩ := by decide +kernel
theorem test_readyRising_spins : ((next (.readyRising 2) floor).drives[(2 : DriveNo)]).state = .spinCheck := by decide +kernel
theorem test_writeProtectChange : ((next (.writeProtectChange 0 true) floor).drives[(0 : DriveNo)]).isProtected = true := by
  decide +kernel
def spinning (e n : Nat) : State :=
  floor.setDrive 1 { floor.drives[(1 : DriveNo)] with state := .spinCheck, reference := true, elapsed := e, validCount := n }
theorem test_indexPulse_mounts : ((next (.indexPulse 1) (spinning 1833 2)).drives[(1 : DriveNo)]).state = .mounting := by decide +kernel
theorem test_indexPulse_misses : ((next (.indexPulse 1) (spinning 1834 2)).drives[(1 : DriveNo)]).validCount = 0 := by decide +kernel
theorem test_noIndexTimeout_faults : ((next (.noIndexTimeout 0) floor).drives[(0 : DriveNo)]).state = .faulted := by decide +kernel
def seeking : State := floor.setDrive 0 { mountedDrive with position := some 11, motion := .seekStep 13 150 60 5, stepPulses := 1 }
theorem test_stepIntervalExpiry_steps : ((next (.stepIntervalExpiry 0 false) seeking).drives[(0 : DriveNo)]).position = some 12 := by
  decide +kernel
def homing (n : Nat) : State := floor.setDrive 0 { mountedDrive with position := none, motion := .recalStep n 150 60 5 }
theorem test_recalibration_at_zero :
    ((next (.recalibrationStepExpiry 0 true) (homing 3)).drives[(0 : DriveNo)]).motion = .recalSettle 150 := by decide +kernel
theorem test_recalibration_faults :
    ((next (.recalibrationStepExpiry 0 false) (homing 80)).drives[(0 : DriveNo)]).faultCause = some .trackZero := by decide +kernel
theorem test_settleExpiry :
    ((next (.settleExpiry 0) (floor.setDrive 0 { mountedDrive with motion := .seekSettle 13 1 })).drives[(0 : DriveNo)]).position =
      some 13 := by decide +kernel
theorem test_headLoadExpiry :
    ((next (.headLoadExpiry 0) (floor.setDrive 0 { mountedDrive with head := .loading 9 })).drives[(0 : DriveNo)]).head = .loaded := by
  decide +kernel

/-- Drive 0 in a pass for logical sector 287 of desk 1's handle. -/
def request (op : Operation) : SectorRequest :=
  { seq := 0, drive := 0, target := targetOfL 287, operation := op, page := 1, owner := .handleSector 1 0 1, cls := .routine, entry := 0,
    attempts := 0, recalibrated := false }
def search : Pass :=
  { drive := 0, phase := .search, indexCount := 0, wrongCount := 0, withdrawn := false, matched := false, finishing := false }
def passing (op : Operation) (p : Pass) : State :=
  { floor with
    scheds := #v[{ workList := [], inHand := some ⟨request op, .passing⟩, runLength := 1 }, .idle, .idle, .idle]
    channel := { Channel.idle with grant := some 0, pass := some p }
    handles := floor.handles.set 1 #v[.reading { reader with table := [.present 0, .reading 1] }, .free]
    pool := floor.pool |> fun q => { q with pages := q.pages.set 1 (some ⟨.handleSector 1 0 1, zeroSector, false⟩) } }
/-- A FORMAT-TRACK of drive 0 that awaits its index pulse, the first sector numbers of its page given. -/
def tracking (order : List Byte) : State :=
  (passing .formatTrack { search with phase := .formatWait }).setPage 1 (some ⟨.formatStep 0 (.track 21), order ++ List.replicate 510 0, false⟩)
/-- Desk 3 has a reply being sent when the reply that gives its line 38,400 bits per second has gone out. -/
def rateChanged : State :=
  next (.replySent 0) (next (.deskSet 0 [3, 2, 99, 9]) (floor.setLine 3
    { floor.lines[(3 : Desk)] with replies := [⟨0x01, .done, none, 0, noFlags, [], none⟩] }))
/-- Desk 1's reply is in its second character, 40,000 ten-thousandths of a bit sent. -/
def halfSent : State :=
  floor.setLine 1 { floor.lines[(1 : Desk)] with replies := [⟨0x01, .done, none, 0, noFlags, [], none⟩], progress := 140000 }
/-- R2, R3: the two check bytes of an ID field, high byte first. -/
def idCheck (c h n : Byte) : Byte × Byte := (byteOf ((checkOf [c, h, n]).toNat / 256), byteOf (checkOf [c, h, n]).toNat)
theorem test_idFieldRead_matches :
    ((next (.idFieldRead 10 1 2 (idCheck 10 1 2)) (passing .read search)).channel.pass).map Pass.phase = some .transfer := by
  decide +kernel
theorem test_idFieldRead_gates :
    (next (.idFieldRead 10 1 2 (idCheck 10 1 2)) (passing .write search)).channel.writeGate = true := by decide +kernel
theorem test_dataFieldRead_differs :
    ((next (.dataFieldRead (Vector.replicate 512 7) (0, 0)) (passing .writeVerify { search with phase := .readBack, matched := true })).driveTallies[
        (0 : DriveNo)]).failedAttempts = 1 := by decide +kernel
theorem test_dataFieldWritten_reads_back :
    ((next .dataFieldWritten (passing .writeVerify { search with phase := .transfer })).channel.pass).map Pass.phase =
      some .readBack := by decide +kernel
/-- R6, R73: the ID field and the data field of zero bytes that FORMAT-TRACK records for the sector of a slot, with their checks. -/
theorem test_track_fields :
    (match (next (.indexPulse 0) (tracking [4, 9])).channel.writeData with
      | .track (x :: _) => (x.idField, x.dataField.length)
      | _ => ([], 0)) = ([10, 1, 4, 0x78, 0xE8], 514) := by decide +kernel
/-- R184: a reply being sent when the rate changes finishes at the old rate. -/
theorem test_reply_finishes_at_old_rate :
    (match step (rateChanged) with | .next t => (t.lines[(3 : Desk)]).progress | _ => 0) = 9600 := by decide +kernel
/-- R166: the character in progress when a break cuts a reply off is finished, and no more. -/
theorem test_break_leaves_the_character :
    ((next (.lineBreak 1) (halfSent)).lines[(1 : Desk)]).cutOff = some 60000 := by decide +kernel
/-- Desk 0's DESK-SET reply, which gives desk 3 the rate 38,400, with so much of it sent. -/
def settingSent (progress : Nat) : State :=
  let s := next (.deskSet 0 [3, 2, 99, 9]) floor
  s.setLine 0 { s.lines[(0 : Desk)] with progress := progress }
/-- R161, R166: a reply of 12 characters cut off in its last one sends it to its last stop bit, and the rate is then taken. -/
theorem test_break_in_last_character :
    (let t := next (.lineBreak 0) (settingSent 1190401)
     [(t.lines[(3 : Desk)]).rate, ((next (.replySent 0) t).lines[(3 : Desk)]).rate,
      match step t with | .next u => (u.lines[(3 : Desk)]).rate | _ => .r2400]) = [.r9600, .r38400, .r38400] := by decide +kernel
/-- R161, R166: cut off before its last character, its rate is never taken; sent whole, it is taken before the break. -/
theorem test_break_around_last_character :
    [1099999, 1200000].map (fun n => ((next (.replySent 0) (next (.lineBreak 0) (settingSent n))).lines[(3 : Desk)]).rate) =
      [.r9600, .r38400] := by decide +kernel
/-- R51: the first READ placed in the empty work list of an idle drive is chosen at once, though the second would cost less. -/
theorem test_first_placing_is_chosen :
    (let t := next (.openRead 7 (0 :: 0 :: flood)) (floor.setDrive 0 { mountedDrive with elapsed := 1207 })
     ((t.scheds[(0 : DriveNo)].inHand).map (fun h => h.request.owner), t.scheds[(0 : DriveNo)].workList.map SectorRequest.owner)) =
      (some (.handleSector 7 0 0), [.handleSector 7 0 1]) := by decide +kernel
/-- Drive 1 in the last attempt at its label, a first wrong cylinder met. -/
def lastLabel (trackZero : Bool) : State :=
  { floor with
    drives := floor.drives.set 1 { mountedDrive with state := .mounting, trackZero := trackZero }
    scheds := floor.scheds.set 1
      { Scheduler.idle with inHand := some ⟨{ request .read with drive := 1, page := 56, owner := .mountLabel, attempts := 5 }, .passing⟩ }
    channel := { Channel.idle with grant := some 1, pass := some { search with drive := 1, wrongCount := 1 } } }
/-- R79, R80: the recalibration after WRONG-CYLINDER starts and counts on a drive that goes to BLANK. -/
theorem test_wrong_cylinder_counts_in_blank :
    [true, false].map (fun z =>
      let t := next (.idFieldRead 11 1 2 (idCheck 11 1 2)) (lastLabel z)
      (t.drives[(1 : DriveNo)].state, t.drives[(1 : DriveNo)].motion, t.drives[(1 : DriveNo)].position, t.driveTallies[(1 : DriveNo)].recalibrations)) =
      [(.blank, .recalSettle 150, none, 1), (.blank, .still, none, 1)] := by decide +kernel
/-- R20: after RESTART the P of a DISABLED drive is 1,667. -/
theorem test_restart_clears_disabled :
    ((next (.restart 0 []) (floor.setDrive 3 { floor.drives[(3 : DriveNo)] with period := 1800 })).drives[(3 : DriveNo)]).period = 1667 := by
  decide +kernel
/-- Drive 0 recording catalogue sector 5 in a WRITE-VERIFY pass. -/
def recording : State :=
  { floor with
    scheds := floor.scheds.set 0
      { workList := [], inHand := some ⟨{ request .writeVerify with page := 56, owner := .catalogue 5 }, .passing⟩, runLength := 1 }
    channel := { grant := some 0, waitList := [(1, .routine)], pass := some { search with phase := .transfer }, headSelect := 1,
                 writeGate := true, writeData := .none }
    pool := { floor.pool with pages := floor.pool.pages.set 56 (some ⟨.catalogueWrite 0 5, zeroSector, false⟩) } }
/-- R75, R193: RESTART lets a WRITE-VERIFY pass finish, with its grant and WRITE-GATE, and its page alone stays held. -/
theorem test_restart_lets_the_pass_finish :
    (let t := next (.restart 0 []) recording
     (t.channel, (t.pool.pages[(56 : PageNo)]).map HeldPage.holder, t.pool.pages[(0 : PageNo)], t.scheds[(0 : DriveNo)])) =
      ({ grant := some 0, waitList := [], pass := some { search with phase := .transfer, finishing := true }, headSelect := 1,
         writeGate := true, writeData := .none }, some .finishingPass, none, recording.scheds[(0 : DriveNo)]) := by decide +kernel
theorem test_powerGoodRise_spins : ((next (.powerGoodRise 4 0 0) floor).drives[(2 : DriveNo)]).state = .spinCheck := by decide +kernel
theorem test_powerGoodFall_silent : ((next .powerGoodFall (next (.idle 1 []) floor)).lines[(1 : Desk)]).replies = [] := by
  decide +kernel
theorem test_tick : (match step floor with | .next t => t.tick | _ => 0) = 1 := by decide +kernel
theorem test_step_takes_front :
    (match step { floor with pending := [.idle 1 [], .restart 0 []] } with | .next t => t.pending | _ => []) = [.restart 0 []] := by
  decide +kernel

/-! ### States and operands that meet the hypotheses of the statements, clause by clause -/

def dark : State := next .powerGoodFall floor
def deskSay (desk : Desk) (w : Waiting) : State := floor.setInProgress desk (some w)
/-- Drive 0 being unmounted. -/
def leaving : State := floor.setImage 0 (some { volume with unmounting := true })
/-- Drive 0 read-only. -/
def barred : State := floor.setDrive 0 { mountedDrive with isProtected := true }
/-- Desk 7 with 8 holds. -/
def loaded : State := floor.setDesk 7 { DeskContext.clear with holds := 8 }
/-- The image of drive 0 without writes, handles' slots or holders. -/
def quiet : Image := { volume with slots := Vector.replicate 232 Slot.free, writes := Vector.replicate 29 .clean }
/-- Drive 0 with that image, nothing open and nothing held. -/
def still : State :=
  { State.reset with drives := floor.drives, images := #v[some quiet, none, none, none] }

/-- What lookups find on drive 0's volume. -/
def VolumeLookups : Prop :=
  volume.lookupFiled nobody = none ∧ volume.lookupFiled flood = some 9 ∧ volume.lookupFiled toll = some 14 ∧
    volume.lookupFiled gone = some 30 ∧ volume.lookupFiled taken = some 31 ∧ volume.lookup news = some 20 ∧
    volume.lookup nobody = none
theorem volume_lookups : VolumeLookups := by unfold VolumeLookups; decide +kernel
theorem floor_image : floor.imageOf 0 = some (0, volume) := rfl
theorem leaving_image : leaving.imageOf 0 = some (0, { volume with unmounting := true }) := rfl

/-- The replies of desks 1 and 2 have been cut off by a break, and desk 1's line has a new rate since; desk 1's was a DESK-SET reply for
desk 3, cut off in its last character. -/
def cutShort : State :=
  (floor.setLine 1 { floor.lines[(1 : Desk)] with cutOff := some 9600, cutRate := some (3, .r38400), oldRate := some .r9600, rate := .r2400 }).setLine 2
    { floor.lines[(2 : Desk)] with cutOff := some 9601 }
theorem witness_StepTakesTheFrontCommand :
    ({ floor with pending := [.idle 1 [], .mount 0 [1]] } : State).pending = .idle 1 [] :: [.mount 0 [1]] := by decide +kernel
theorem witness_EmptyQueueIsOneTick :
    (dark.pending = [] ∧ dark.powerGood = false) ∧ (floor.pending = [] ∧ floor.powerGood = true) ∧
      (seeking.drives[(0 : DriveNo)]).motion = .seekStep 13 150 60 5 ∧ (schedDrive 0 (.loading 1)).head = .loading 1 ∧
      ((homing 3).drives[(0 : DriveNo)]).motion = .recalStep 3 150 60 5 ∧
      ((next (.recalibrationStepExpiry 0 true) (homing 3)).drives[(0 : DriveNo)]).motion = .recalSettle 150 ∧
      ((next (.stepIntervalExpiry 0 false) (next (.stepIntervalExpiry 0 false) (next (.stepIntervalExpiry 0 false) seeking))).drives[
        (0 : DriveNo)]).motion = .seekSettle 13 150 ∧
      ((next (.idle 1 []) floor).lines[(1 : Desk)]).replies = [⟨0x01, .done, none, 0, noFlags, [], none⟩] ∧
      (cutShort.lines[(1 : Desk)]).cutOff = some 9600 ∧ (cutShort.lines[(2 : Desk)]).cutOff = some 9601 ∧
      (cutShort.lines[(1 : Desk)]).oldRate = some .r9600 ∧ (cutShort.lines[(1 : Desk)]).rate = .r2400 ∧
      ((cutShort.ticked).lines[(3 : Desk)]).rate = .r38400 ∧ ((cutShort.ticked).lines[(1 : Desk)]).cutRate = none := by
  decide +kernel
theorem witness_PowerGoodGovernsThePart :
    dark.powerGood = false ∧ Instr.mount 0 [1] ≠ .powerGoodFall ∧ Instr.mount 0 [1] ≠ .powerGoodRise 0 0 0 := by decide +kernel
theorem witness_RepliesAreQueuedAndCounted : Reason.gap ≠ .busy := by decide +kernel
theorem witness_TestsBeforeTheKindsOwn :
    floor.powerGood = true ∧ (0x55 : Byte) ∉ kindTable.map (fun x => x.2.1) ∧
      ((Kind.idle, 0x01, 1, 1) ∈ kindTable ∧ ¬([0] : List Byte).length + 1 ≤ 1) ∧
      (floor.desks[(5 : Desk)].inProgress ≠ none ∧ Kind.idle ≠ .cancel) ∧
      (Kind.restart ∈ [Kind.driveSet, .deskSet, .mount, .unmount, .format, .breakHold, .tally, .restart] ∧
        floor.desks[(1 : Desk)].inProgress = none ∧ floor.deskSettings[(1 : Desk)].supervisor = false) ∧
      (floor.desks[(7 : Desk)].inProgress = none ∧ floor.desks[(7 : Desk)].continuation = .none) := by decide +kernel
theorem witness_IdleChangesNothingButItsReply :
    floor.powerGood = true ∧ floor.desks[(1 : Desk)].inProgress = none ∧ floor.desks[(5 : Desk)].inProgress ≠ none := by decide +kernel
theorem witness_StatusReportsAndChangesNothing :
    floor.images[(0 : DriveNo)] = some volume ∧ floor.listens 2 ∧ (floor.handle 2 0).bytes.length = 23 ∧
      (floor.handle 2 1).bytes.length = 23 ∧ volume.name.length ≤ 12 := by
  refine ⟨rfl, ?_⟩; unfold State.listens; decide +kernel
theorem witness_CancelAnswersTheWaitingRequestFirst :
    floor.powerGood = true ∧ floor.desks[(1 : Desk)].inProgress = none ∧
      floor.desks[(5 : Desk)].inProgress = some (.get false 0 0 10) ∧
      (deskSay 2 (.put true 0 0 [1])).desks[(2 : Desk)].inProgress = some (.put true 0 0 [1]) ∧
      (floor.desks[(3 : Desk)].inProgress = some (.file 0) ∧ floor.handle 3 0 = .writing committer ∧ committer.placed = false) ∧
      ((floor.setHandle 3 0 (.writing { committer with placed := true })).handle 3 0 = .writing { committer with placed := true }) ∧
      (floor.desks[(4 : Desk)].inProgress = some (.spike 0 30 false) ∧ (floor.slot 0 30).carried = false) ∧
      ((floor.setSlot 0 30 { floor.slot 0 30 with carried := true }).slot 0 30).carried = true ∧
      (deskSay 7 (.unmount 0)).desks[(7 : Desk)].inProgress = some (.unmount 0) := by decide +kernel
theorem witness_StoriesAreFoundAndListed :
    floor.imageOf 0 = some (0, volume) ∧ floor.listens 7 ∧ slugOf flood = some flood ∧ slugOf [0x2E] = none ∧
      floor.imageOf 1 = none ∧ floor.desks[(6 : Desk)].continuation = .list 0 0 [] 16 ∧
      floor.desks[(6 : Desk)].inProgress = none ∧ volume.id = 0 ∧
      volume.matching [] 16 0 = [9, 14, 20, 30, 31] ∧ volume.matching [] 16 232 = [] := by
  refine ⟨floor_image, ?_⟩; unfold State.listens; decide +kernel
theorem witness_HoldAndReleaseClaimTheStory :
    floor.imageOf 0 = some (0, volume) ∧ VolumeLookups ∧ (floor.listens 1 ∧ floor.listens 2 ∧ floor.listens 7 ∧ loaded.listens 7) ∧
      (slugOf flood = some flood ∧ slugOf [0x2E] = none ∧ floor.imageOf 4 = none) ∧
      ((volume.slots[(14 : SlotNo)]).holder = some 2 ∧ (volume.slots[(9 : SlotNo)]).holder = none ∧
        (volume.slots[(31 : SlotNo)]).holder = some 1 ∧ (volume.slots[(30 : SlotNo)]).pending = some (.removal 4)) ∧
      loaded.desks[(7 : Desk)].holds = 8 ∧ (floor.handle 2 0 = .writing writer ∧ writer.drive = 0 ∧ writer.slot = 14) := by
  refine ⟨floor_image, volume_lookups, ?_⟩; unfold State.listens; decide +kernel
theorem witness_SpikePlacesARemoval :
    leaving.imageOf 0 = some (0, { volume with unmounting := true }) ∧ floor.imageOf 0 = some (0, volume) ∧ VolumeLookups ∧
      (floor.listens 7 ∧ leaving.listens 7 ∧ barred.listens 7) ∧ volume.unmounting = false ∧
      (barred.drives[(0 : DriveNo)]).isProtected = true ∧
      (floor.drives[(0 : DriveNo)]).isProtected = false ∧ (floor.drives[(0 : DriveNo)]).damaged = false ∧
      (volume.slots[(30 : SlotNo)]).pending.isSome = true ∧ floor.writerOn 0 9 = false := by
  refine ⟨leaving_image, floor_image, volume_lookups, ?_⟩; unfold State.listens; decide +kernel
theorem witness_OpenReadBindsTheCurrentVersion :
    floor.imageOf 0 = some (0, volume) ∧ VolumeLookups ∧ (floor.listens 7 ∧ floor.listens 2) ∧ floor.lowestFreeHandle 7 0 ∧
      floor.lowestFreeHandle 1 1 ∧ (∀ h : HandleNo, floor.handle 2 h ≠ .free) ∧ volume.unmounting = false := by
  refine ⟨floor_image, volume_lookups, ?_⟩; unfold State.listens State.lowestFreeHandle; decide +kernel
theorem witness_GetReturnsTheBytesOrWaits :
    (floor.listens 1 ∧ floor.listens 2 ∧ floor.listens 7) ∧
      (floor.desks[(1 : Desk)].continuation = .get 0 ∧ floor.desks[(1 : Desk)].cursor = 0) ∧ floor.handle 7 0 = .free ∧
      floor.handle 2 0 = .writing writer ∧ floor.handle 2 1 = .lost lostOne ∧ floor.handle 1 0 = .reading reader ∧
      (reader.length ≤ 1000 ∧ reader.length ≤ 65535) ∧
      (∀ j ∈ sectorsCovering 0 128, reader.table.getD j .absent = .present 0) ∧
      (∃ j ∈ sectorsCovering 500 100, reader.table.getD j .absent = .absent) ∧ 1 < (2 : Byte).toNat := by
  unfold State.listens; decide +kernel
theorem witness_GetReturnsTheBytesOrWaits_bytes :
    ∀ j ∈ sectorsCovering 384 128, reader.table.getD j .absent = .present 0 ∧ (floor.pageBytes 0).length = 512 := by decide +kernel
theorem witness_CloseAndDropFreeTheHandle :
    (floor.listens 1 ∧ floor.listens 2 ∧ floor.listens 6 ∧ floor.listens 7) ∧ floor.handle 7 0 = .free ∧
      floor.handle 2 1 = .lost lostOne ∧ floor.handle 1 0 = .reading reader ∧ floor.handle 2 0 = .writing writer ∧
      floor.handle 6 0 = .writing { writer with state := .failed .diskFull } ∧
      ((floor.setHandle 7 0 (.writing committer)).handle 7 0 = .writing committer ∧ committer.state = .committing) ∧
      1 < (2 : Byte).toNat := by
  unfold State.listens; decide +kernel
theorem witness_OpenWriteReservesAndTakesTheHold :
    floor.imageOf 0 = some (0, volume) ∧ VolumeLookups ∧
      (floor.listens 7 ∧ loaded.listens 7 ∧ floor.lowestFreeHandle 7 0 ∧ floor.lowestFreeHandle 1 1) ∧
      ((1 : Byte).toNat ≤ 1 ∧ (15 : Byte).toNat ≤ 15 ∧ (240 : Byte).toNat * 256 + (0 : Byte).toNat ≤ 61440 ∧
        61440 < (240 : Byte).toNat * 256 + (1 : Byte).toNat) ∧
      ((volume.slots[(0 : SlotNo)]).state = .free) ∧ given volume 2 = some [⟨6, 1⟩, ⟨8, 1⟩] ∧
      loaded.desks[(7 : Desk)].holds = 8 ∧ given { volume with allocated := List.range 2280 } 1 = none ∧
      given { volume with allocated := List.range 2280 } 0 = some [] := by
  refine ⟨floor_image, volume_lookups, ?_⟩; unfold State.listens State.lowestFreeHandle; decide +kernel
theorem witness_OpenWriteReservesAndTakesTheHold_full :
    ∀ n : SlotNo, (({ volume with slots := Vector.replicate 232 (filedSlot toll 1 0 none) } : Image).slots[n]).state ≠ .free := by
  decide +kernel
theorem witness_PutStoresOrWaits :
    (floor.listens 2 ∧ floor.listens 1 ∧ floor.listens 6) ∧
      (floor.desks[(2 : Desk)].continuation = .put 0 ∧ floor.desks[(2 : Desk)].cursor = 0) ∧ floor.handle 2 0 = .writing writer ∧
      (writer.state = .isOpen ∧ writer.mark < 1 ∧ writer.length < 473 + 128 ∧ 472 + 128 ≤ writer.length) ∧
      (floor.freePageNo true = some 1 ∧ floor.holdings 2 < floor.deskSettings[(2 : Desk)].quota) ∧
      ({ floor with pool := { floor.pool with pages := Vector.replicate 64 (some ⟨.finishingPass, [], false⟩) } } : State).freePageNo true =
        none ∧
      (({ writer with mark := 500 } : WriteHandle).mark % 512 ≠ 0 ∧ (500 + 12 - 1) / 512 = 500 / 512 ∧ (500 + 13 - 1) / 512 ≠ 500 / 512) ∧
      floor.handle 6 0 = .writing { writer with state := .failed .diskFull } := by
  unfold State.listens; decide +kernel
/-- Desk 2 has filled 500 bytes of page 0; 128 more reach into page 2. -/
def halfway : WriteHandle := { writer with mark := 500, table := [.filling 0, .unstarted] }
def twoPages : State :=
  { floor with pool := { floor.pool with pages := floor.pool.pages.set 2 (some ⟨.handleSector 2 0 1, zeroSector, false⟩) } }
theorem witness_PutStoresOrWaits_bytes :
    (472 ≤ halfway.mark ∧ halfway.mark < 472 + 128) ∧
      (∀ i ∈ List.range 100, ∃ p ∈ [(0 : PageNo), 2], fillingPage (halfway.table.set 1 (.filling 2)) ((halfway.mark + i) / 512) = some p ∧
        (twoPages.pageBytes p).length = 512) ∧
      fillingPage (halfway.table.set 1 (.filling 2)) 0 = some 0 ∧ fillingPage (halfway.table.set 1 (.filling 2)) 1 = some 2 := by
  decide +kernel
/-- Desk 2 has written all its 600 bytes. -/
def wholly (e : WriteEntry) : WriteHandle := { writer with mark := 600, table := [.written, e] }
theorem witness_FileCommitsOrIsRefused :
    (floor.listens 2 ∧ floor.listens 1 ∧ floor.listens 6) ∧ (floor.setHandle 2 0 (.writing (wholly .written))).handle 2 0 =
      .writing (wholly .written) ∧ (wholly .written).state = .isOpen ∧ (wholly .written).mark = (wholly .written).length ∧
      (0xFF : Byte).toNat * 256 + (0xFF : Byte).toNat = (wholly .written).check.toNat ∧ (∀ e ∈ (wholly .written).table, e = .written) ∧
      (∃ e ∈ (wholly (.filling 0)).table, e ≠ .written) ∧ writer.mark ≠ writer.length ∧ (barred.drives[(0 : DriveNo)]).isProtected = true ∧
      (2 : Byte).toNat ≤ 2 ∧ 1 < (2 : Byte).toNat := by
  unfold State.listens; decide +kernel
theorem witness_WatchAndUnwatchSetThePlace :
    floor.listens 1 ∧ slugOf flood = some flood ∧ slugOf [0x2E] = none ∧
      ((3 : Byte).toNat ≤ 3 ∧ 3 < (4 : Byte).toNat ∧ 1 ≤ (5 : Byte).toNat ∧ (5 : Byte).toNat ≤ 5 ∧ (1 : Byte).toNat ≤ 1) ∧
      (((3 : WatchNo).val = (3 : Byte).toNat) ∧ (5, Condition.released) ∈
        [(1, Condition.filed), (2, .filedNew), (3, .spiked), (4, .held), (5, .released)]) := by
  unfold State.listens; decide +kernel
theorem witness_NoticesAreQueuedAndTaken :
    floor.listens 1 ∧ 15 < (16 : Byte).toNat ∧ (15 : Byte).toNat ≤ 15 ∧ floor.desks[(1 : Desk)].notices = [] ∧
      ((floor.post 1 (.removed 2)).desks[(1 : Desk)]).notices = .removed 2 :: [] := by
  unfold State.listens; decide +kernel
theorem witness_NoticesAreQueuedAndTaken_queue :
    ([.removed 1, .noticesLost 65535] : List Notice) = [.removed 1] ++ [.noticesLost 65535] ∧
      (List.replicate 7 (Notice.removed 1)).length < 8 ∧ 8 ≤ (List.replicate 8 (Notice.removed 1)).length := by decide +kernel
def watchOn (second : Option Condition) (matched : Option Chars) : Watch :=
  { drive := 0, start := flood, first := .held, second := second, repeats := false, matched := matched }
theorem witness_EventsReachDesksAndAdvanceWatches :
    (Event.removed 0).seen = none ∧ (Event.held 0 flood 1 3).seen = some (0, flood, .held, 3) ∧
      (watchOn none none).first.satisfiedBy (.held 0 flood 1 3) = true ∧ (watchOn none none).start <+: flood ∧
      (watchOn (some .released) (some flood)).second = some .released ∧
      Condition.released.satisfiedBy (.filed 0 flood 1 3 false true) = true := by decide +kernel
theorem witness_DriveSetClampsStoresAndReports :
    floor.listensTo 0 ∧ 3 < (4 : Byte).toNat ∧ (3 : DriveNo).val = (3 : Byte).toNat ∧
      ((floor.drives[(0 : DriveNo)]).state ≠ .disabled ∧ (floor.drives[(3 : DriveNo)]).state = .disabled ∧
        (floor.drives[(3 : DriveNo)]).ready = false) ∧
      ((floor.setReady 3 true).drives[(3 : DriveNo)]).ready = true := by
  unfold State.listensTo State.listens; decide +kernel
theorem witness_DeskSetStoresRightsQuotaAndRate :
    floor.listensTo 0 ∧ 7 < (8 : Byte).toNat ∧ (7 : Desk).val = (7 : Byte).toNat ∧ (2 : Byte).getLsbD 0 = false ∧
      (∀ e : Desk, e ≠ 0 → floor.deskSettings[e].supervisor = false) ∧ (floor.deskSettings[(0 : Desk)].supervisor = true) := by
  unfold State.listensTo State.listens; decide +kernel
/-- Drive 1 MOUNTING, with the label read and asked for its last catalogue sectors. -/
def mounting (q : Nat) : State :=
  floor.setDrive 1 { floor.drives[(1 : DriveNo)] with
    state := .mounting, mount := { MountRecord.clear with label := some ⟨news, 2, [7]⟩, nextQ := q, returned := q } }
/-- Page 56 holds a label that a format wrote. -/
def labelled : State := (mounting 28).setPage 56 (some ⟨.mountRead 1 .label, labelBytes news 2 [7], false⟩)
theorem witness_MountReadsLabelAndCatalogue :
    floor.listensTo 0 ∧ (floor.drives[(1 : DriveNo)]).state = .offline ∧ (floor.drives[(0 : DriveNo)]).state ≠ .offline ∧
      (1 : DriveNo).val = (1 : Byte).toNat ∧ 3 < (4 : Byte).toNat ∧
      ((floor.drives[(1 : DriveNo)]).mount.label = none ∧ ((mounting 28).drives[(1 : DriveNo)]).mount.label = some ⟨news, 2, [7]⟩ ∧
        ((mounting 28).drives[(1 : DriveNo)]).mount.nextQ = (28 : CatNo).val ∧
        ((mounting 27).drives[(1 : DriveNo)]).mount.nextQ = (27 : CatNo).val) ∧
      (labelOf (floor.pageBytes 0) = none ∧ labelOf (labelled.pageBytes 56) = some ⟨news, 2, [7]⟩) := by
  unfold State.listensTo State.listens; decide +kernel
/-- A format of drive 1 in a phase, each count at its last step. -/
def job (phase : FormatPhase) : FormatJob :=
  { drive := 1, name := news, skew := 2, verify := true, phase := phase, nextTrack := 153, verifyL := 2279, nextQ := 28,
    bad := List.range 16 }
theorem witness_FormatStepsInOrder :
    (floor.setSequencer (some (job .tracks))).sequencer = some (job .tracks) ∧
      ((job .tracks).nextTrack + 1 = 154 ∧ ({ job .tracks with nextTrack := 152 } : FormatJob).nextTrack + 1 ≠ 154) ∧
      ((job .verify).bad.length = 16 ∧ ({ job .verify with bad := List.range 15 } : FormatJob).bad.length ≠ 16) ∧
      ((job .catalogue).nextQ = (28 : CatNo).val ∧ (job .catalogue).nextQ + 1 = 29 ∧
        ({ job .catalogue with nextQ := 27 } : FormatJob).nextQ + 1 ≠ 29) ∧
      [(job .tracks).phase, (job .verify).phase, (job .label).phase, (job .catalogue).phase] = [.tracks, .verify, .label, .catalogue] := by
  decide +kernel
/-- Desk 7 waits for one page, and every page is held. -/
def oneLack : Waiter := { desk := 7, handle := 0, cls := .routine, lacks := [0] }
def crowded : State :=
  { floor with pool := { pages := (Vector.replicate 64 (some ⟨.finishingPass, zeroSector, false⟩)).set 0
                                    (some ⟨.handleSector 1 0 0, zeroSector, false⟩), waiters := [oneLack], sysWaiters := [.mount 1] } }
/-- Desk 1 waits too, at its quota of one page, which is a read-ahead page. -/
def owing : State :=
  (crowded.setDeskSettings 1 { floor.deskSettings[(1 : Desk)] with quota := 1 }).setPool
    { crowded.pool with waiters := [oneLack, { desk := 1, handle := 0, cls := .routine, lacks := [1, 0] }] }
/-- Desk 2 waits with a PUT, a page free. -/
def putWaits : State :=
  { (floor.setInProgress 2 (some (.put false 0 0 [1]))) with
    pool := { floor.pool with waiters := [{ desk := 2, handle := 0, cls := .routine, lacks := [0] }], sysWaiters := [.format] } }
theorem witness_GeneralPagesGoToWaitersInOrder :
    (floor.freePageNo true = some 1 ∧ floor.freePageNo false = some 56 ∧ floor.holdings 1 < floor.deskSettings[(1 : Desk)].quota ∧
        floor.handle 1 0 = .reading reader) ∧
      (crowded.freePageNo true = none ∧ crowded.freePageNo false = none ∧ crowded.holdings 1 = 1 ∧
        owing.deskSettings[(1 : Desk)].quota ≤ owing.holdings 1) ∧
      (floor.nextWaiter = none ∧ crowded.nextWaiter = some oneLack ∧ oneLack.lacks = 0 :: []) ∧
      (putWaits.freePageNo true = some 1 ∧ (putWaits.nextWaiter).map Waiter.desk = some 2 ∧
        putWaits.handle 2 0 = .writing writer ∧ putWaits.desks[(2 : Desk)].inProgress = some (.put false 0 0 [1])) ∧
      (owing.pool.waiters = [oneLack] ++ { desk := 1, handle := 0, cls := .routine, lacks := [1, 0] } :: [] ∧
        owing.holdings 1 - owing.awaitedOf 1 = 1 ∧ owing.handle 1 0 = .reading reader ∧ reader.table.getD 0 .absent = .present 0 ∧
        reader.delivery ≤ 512 * 0 ∧ owing.desks[(1 : Desk)].inProgress = none) ∧
      ((∀ p : PageNo, p.val < 56 → crowded.pool.pages[p] ≠ none) ∧ crowded.awaitedTotal < oneLack.lacks.length ∧
        crowded.holdings 7 < crowded.deskSettings[(7 : Desk)].quota) ∧
      (reader.table.getD 1 .absent = .absent ∧
        (passing .read search).handle 1 0 = .reading { reader with table := [.present 0, .reading 1] } ∧
        (passing .read search).scheds[(0 : DriveNo)].inHand = some ⟨request .read, .passing⟩ ∧ (request .read).page = 1) ∧
      crowded.pool.sysWaiters = .mount 1 :: [] := by decide +kernel
theorem witness_ReadsFillTheirSectors :
    ((floor.drives[(0 : DriveNo)]).state = .mounted ∧ (floor.drives[(1 : DriveNo)]).state = .offline ∧
        (request .read).owner = .handleSector 1 0 1 ∧ Owner.mountLabel ≠ .handleSector 1 0 1) ∧
      (sectorAt reader.extents 1 = some 1 ∧ floor.handle 1 0 = .reading reader) ∧
      ((1 < reader.table.length ∧ reader.readAhead ≤ 1 ∧ reader.table.getD 1 .absent = .absent ∧
          reader.delivery < min (512 * (1 + 1)) reader.length) ∧ reader.table.getD 0 .absent ≠ .absent ∧
        (8 < floor.freeGeneral ∧ floor.holdings 1 < floor.deskSettings[(1 : Desk)].quota ∧ floor.pool.waiters = []) ∧
        floor.freePageNo true = some 1 ∧ crowded.pool.waiters ≠ []) ∧
      ((passing .read search).handle 1 0 = .reading { reader with table := [.present 0, .reading 1] } ∧
        ((passing .read search).setInProgress 1 (some (.get false 0 500 20))).desks[(1 : Desk)].inProgress = some (.get false 0 500 20) ∧
        1 ∈ sectorsCovering 500 20 ∧ 1 ∉ sectorsCovering 0 20) ∧
      (∀ j ∈ sectorsCovering 0 20, reader.table.getD j .absent = .present 0) := by decide +kernel
theorem witness_UnmountWaitsForCleanSectors :
    floor.imageOf 0 = some (0, volume) ∧ (floor.listensTo 0 ∧ leaving.listensTo 0 ∧ still.listensTo 0) ∧ floor.imageOf 1 = none ∧
      floor.handle 1 0 = .reading reader ∧ reader.drive = 0 ∧ still.anyOpenOn 0 = false ∧ volume.writes[(3 : CatNo)] ≠ .clean ∧
      (volume.unmounting = false ∧ floor.handle 2 0 = .writing writer ∧ writer.drive = 0 ∧ writer.state = .isOpen ∧
        floor.handle 2 1 = .lost lostOne ∧ floor.handle 7 0 = .free ∧
        (floor.setHandle 3 0 (.writing { committer with placed := true })).handle 3 0 = .writing { committer with placed := true }) ∧
      (∀ q : CatNo, quiet.writes[q] = .clean) ∧ (1 : Byte).toNat ≤ 1 ∧ 1 < (2 : Byte).toNat ∧
      ((still.setInProgress 7 (some (.unmount 0))).desks[(7 : Desk)]).inProgress = some (.unmount 0) ∧
      (∀ e : Desk, e ≠ 7 → (still.setInProgress 7 (some (.unmount 0))).desks[e].inProgress ≠ some (.unmount 0)) := by
  refine ⟨floor_image, ?_⟩; unfold State.listensTo State.listens; decide +kernel
theorem witness_BreakHoldTakesTheHoldAway :
    floor.imageOf 0 = some (0, volume) ∧ VolumeLookups ∧ floor.listensTo 0 ∧
      (volume.slots[(9 : SlotNo)]).holder = none ∧ (volume.slots[(14 : SlotNo)]).holder = some 2 ∧ writer.state ≠ .committing ∧
      (floor.handle 2 0 = .writing writer ∧ writer.drive = 0 ∧ writer.slot = 14 ∧ floor.handle 2 1 = .lost lostOne ∧ (1 : Desk) ≠ 2) ∧
      (floor.setHandle 2 0 (.writing { writer with state := .committing })).handle 2 0 =
        .writing { writer with state := .committing } := by
  refine ⟨floor_image, volume_lookups, ?_⟩; unfold State.listensTo State.listens; decide +kernel
theorem witness_FormatTakesTheDrive :
    still.images[(0 : DriveNo)] = some quiet ∧ (floor.listensTo 0 ∧ still.listensTo 0) ∧ slugOf news = some news ∧
      (14 : Byte).toNat ≤ 14 ∧ 14 < (15 : Byte).toNat ∧
      floor.sequencer = none ∧ (floor.drives[(1 : DriveNo)]).state = .offline ∧ (floor.drives[(1 : DriveNo)]).writeProtect = false ∧
      ((floor.setWriteProtect 1 true).drives[(1 : DriveNo)]).writeProtect = true ∧ (floor.drives[(2 : DriveNo)]).state = .empty ∧
      still.anyOpenOn 0 = false ∧ (still.drives[(0 : DriveNo)]).state = .mounted ∧
      (∀ n : SlotNo, (quiet.slots[n]).holder = none) ∧ ∀ q : CatNo, quiet.writes[q] = .clean := by
  refine ⟨rfl, ?_⟩; unfold State.listensTo State.listens; decide +kernel
theorem witness_TallyReportsAndClears :
    floor.listensTo 0 ∧ 1 < (2 : Byte).toNat ∧ (3 : DriveNo).val = (3 : Byte).toNat ∧ (7 : Desk).val = (7 : Byte).toNat ∧
      3 < (4 : Byte).toNat ∧ 7 < (8 : Byte).toNat := by
  unfold State.listensTo State.listens; decide +kernel
theorem witness_RestartResetsDesksAndDrives :
    floor.listensTo 0 ∧ (floor.drives[(3 : DriveNo)]).state = .disabled ∧ (floor.drives[(0 : DriveNo)]).state ≠ .disabled ∧
      floor.passOf = none ∧
      (passing .read search).passOf = some (search, request .read) ∧ (request .read).operation ≠ .writeVerify ∧
      (passing .read search).channel.pass ≠ none := by
  unfold State.listensTo State.listens; decide +kernel
/-- A page is in a handle's table. -/
def keepsPage (p : PageNo) : Handle → Bool
  | .reading x => x.table.contains (.reading p) || x.table.contains (.present p)
  | .writing x => x.table.contains (.filling p) || x.table.contains (.writing p)
  | _ => false
theorem witness_RestartResetsDesksAndDrives_finishing :
    recording.listensTo 0 ∧ recording.channel.pass = some { search with phase := .transfer } ∧
      recording.scheds[(0 : DriveNo)].inHand = some ⟨{ request .writeVerify with page := 56, owner := .catalogue 5 }, .passing⟩ ∧
      (recording.drives[(0 : DriveNo)]).state ≠ .disabled ∧ (1 : DriveNo) ≠ 0 ∧
      (∀ e : DriveNo, (56 : PageNo) ∉ (recording.scheds[e].workList).map SectorRequest.page) ∧
      (∀ e : DriveNo, e ≠ 0 → recording.scheds[e].inHand = none) ∧
      (∀ (e : Desk) (h : HandleNo), keepsPage 56 (recording.handle e h) = false) ∧
      recording.pool.pages[(56 : PageNo)] = some ⟨.catalogueWrite 0 5, zeroSector, false⟩ := by
  unfold State.listensTo State.listens; decide +kernel
theorem witness_TeardownTakesTheDriveOutOfUse :
    (1 : DriveNo) ≠ 0 ∧ (passing .read search).channel.grant = some 0 ∧ (passing .read search).channel.pass = some search ∧
      search.drive = 0 ∧ (floor.handle 2 1).openOn 0 = false ∧ (SystemWaiter.ofDrive 1 (.mount 0) = false ∧ SystemWaiter.mount 0 ≠ .format) ∧
      SystemWaiter.mount 0 ∈ ((floor.joinSystem (.mount 0)).pool.sysWaiters) ∧
      (deskSay 7 (.unmount 0)).desks[(7 : Desk)].inProgress = some (.unmount 0) ∧
      floor.desks[(1 : Desk)].inProgress ≠ some (.unmount 0) := by decide +kernel
theorem witness_GapsBreaksAndSentReplies_reset :
    (floor.desks[(1 : Desk)].inProgress = none ∧ floor.desks[(5 : Desk)].inProgress = some (.get false 0 0 10) ∧
        (deskSay 2 (.put true 0 0 [1])).desks[(2 : Desk)].inProgress = some (.put true 0 0 [1]) ∧
        floor.desks[(3 : Desk)].inProgress = some (.file 0) ∧ floor.desks[(4 : Desk)].inProgress = some (.spike 0 30 false) ∧
        (deskSay 7 (.unmount 0)).desks[(7 : Desk)].inProgress = some (.unmount 0)) ∧
      ((floor.slot 0 30).carried = false ∧ ((floor.setSlot 0 30 { floor.slot 0 30 with carried := true }).slot 0 30).carried = true) ∧
      (floor.images[(0 : DriveNo)] = some volume ∧ floor.images[(1 : DriveNo)] = none) ∧
      (floor.handle 7 0 = .free ∧ floor.handle 2 1 = .lost lostOne ∧ floor.handle 1 0 = .reading reader ∧
        floor.handle 3 0 = .writing committer ∧ committer.state = .committing ∧ floor.handle 2 0 = .writing writer) ∧
      ((volume.slots[(14 : SlotNo)]).holder = some 2 ∧ (volume.slots[(9 : SlotNo)]).holder = none) := by decide +kernel
def receiving (r : Receive) : State := floor.setLine 1 { floor.lines[(1 : Desk)] with receive := r }
theorem witness_CharactersMakeFramesThatAreJudged :
    floor.powerGood = true ∧ (floor.lines[(1 : Desk)]).receive = .hunting ∧ ((receiving .length).lines[(1 : Desk)]).receive = .length ∧
      ((receiving (.body 2 [1])).lines[(1 : Desk)]).receive = .body 2 [1] ∧ ([1] : List Byte).length + 1 = 2 ∧
      ((receiving (.check 1 [1] none)).lines[(1 : Desk)]).receive = .check 1 [1] none ∧
      ((receiving (.check 1 [1] (some 9))).lines[(1 : Desk)]).receive = .check 1 [1] (some 9) ∧
      ((receiving .inBreak).lines[(1 : Desk)]).receive = .inBreak ∧ (200 : Byte).toNat ≤ 200 ∧ 200 < (201 : Byte).toNat ∧
      (floor.lines[(1 : Desk)]).replies.length < 4 ∧ Kind.idle.code = 0x01 := by decide +kernel
theorem witness_FrameOfBytesIsTakenAsItsCommand :
    floor.powerGood = true ∧ (floor.lines[(1 : Desk)]).receive = .hunting ∧ (floor.lines[(1 : Desk)]).replies.length < 4 ∧
      (List.replicate 199 (0 : Byte)).length ≤ 199 := by decide +kernel
theorem witness_GapsBreaksAndSentReplies :
    floor.powerGood = true ∧ ((receiving .length).lines[(1 : Desk)]).receive = .length ∧
      ((receiving .inBreak).lines[(1 : Desk)]).receive = .inBreak ∧ floor.handle 3 0 = .writing committer ∧
      (floor.lines[(1 : Desk)]).replies = [] ∧
      ((next (.idle 1 []) floor).lines[(1 : Desk)]).replies = [⟨0x01, .done, none, 0, noFlags, [], none⟩] ∧
      ((next (.deskSet 0 [3, 2, 99, 9]) floor).lines[(0 : Desk)]).replies =
        [⟨0x61, .done, none, 0, noFlags, [2, 56, 4], some (3, .r38400)⟩] ∧ (floor.lines[(3 : Desk)]).rate ≠ .r38400 ∧
      ((3 : Desk) ≠ 0 ∧ ((next (.idle 3 []) floor).lines[(3 : Desk)]).replies ≠ []) ∧ (cutShort.lines[(2 : Desk)]).cutOff ≠ none ∧
      ((cutShort.lines[(1 : Desk)]).cutRate = some (3, .r38400) ∧ (cutShort.lines[(2 : Desk)]).cutRate = none) ∧
      ((settingSent 1200000).lines[(0 : Desk)].cutOff = none ∧
        (settingSent 1200000).lines[(0 : Desk)].progress = 1200000 ∧
        (settingSent 1200000).lines[(0 : Desk)].replies.map (fun r => 100000 * r.frame.length) = [1200000]) ∧
      (settingSent 1200000).lines[(0 : Desk)].receive ≠ .inBreak ∧ (floor.lines[(1 : Desk)]).rate = .r9600 := by
  decide +kernel
theorem witness_EdgesMoveTheDrive :
    floor.powerGood = true ∧ (floor.drives[(3 : DriveNo)]).state = .disabled ∧ (floor.drives[(2 : DriveNo)]).state = .empty ∧
      (floor.drives[(0 : DriveNo)]).state = .mounted ∧ (floor.drives[(1 : DriveNo)]).state ≠ .mounted := by decide +kernel
theorem witness_IndexPulsesAreCaptured_faults :
    floor.powerGood = true ∧ (floor.drives[(0 : DriveNo)]).state = .mounted ∧ (floor.drives[(1 : DriveNo)]).state = .offline ∧
      (floor.drives[(0 : DriveNo)]).ready = true ∧ (floor.drives[(2 : DriveNo)]).ready = false := by decide +kernel
theorem witness_IndexPulsesAreCaptured :
    floor.powerGood = true ∧ (floor.drives[(2 : DriveNo)]).ready = false ∧ (floor.drives[(1 : DriveNo)]).reference = false ∧
      ((spinning 1500 1).drives[(1 : DriveNo)]).elapsed = 1500 ∧ ((spinning 1833 2).drives[(1 : DriveNo)]).validCount = 2 ∧
      ((spinning 1834 0).drives[(1 : DriveNo)]).badRun < 2 ∧ ({ DriveUnit.powerOn with badRun := 2 } : DriveUnit).badRun = 2 ∧
      (mountedDrive.state = .mounted ∧ mountedDrive.head = .loaded ∧ floor.scheds[(0 : DriveNo)].inHand = none) ∧
      (floor.settings[(0 : DriveNo)].headIdle = 10 ∧ ({ mountedDrive with idleCount := 9 } : DriveUnit).idleCount + 1 = 10) := by
  decide +kernel
theorem witness_ExpiriesMoveTheMechanism :
    floor.powerGood = true ∧ (seeking.drives[(0 : DriveNo)]).motion = .seekStep 13 150 60 5 ∧
      (seeking.drives[(0 : DriveNo)]).position = some 11 ∧ ((homing 80).drives[(0 : DriveNo)]).motion = .recalStep 80 150 60 5 ∧
      ((homing 79).drives[(0 : DriveNo)]).motion = .recalStep 79 150 60 5 ∧
      ({ mountedDrive with motion := .seekSettle 13 1 } : DriveUnit).motion = .seekSettle 13 1 ∧
      ({ mountedDrive with state := .mounting, motion := .recalSettle 0 } : DriveUnit).mount.labelAsked = false ∧
      (schedDrive 0 (.loading 0)).head = .loading 0 ∧ (floor.drives[(0 : DriveNo)]).motion = .still := by decide +kernel
theorem witness_ExpiriesMoveTheMechanism_seek : (76 : Nat) ≠ 0 ∧ 75 < (76 - 0) + (0 - 76) := by decide +kernel
theorem witness_FieldsMeetThePass :
    floor.passOf = none ∧ (passing .read search).powerGood = true ∧
      (passing .read search).passOf = some (search, request .read) ∧ (request .read).target = ⟨10, 1, 2⟩ ∧
      (passing .write { search with wrongCount := 1 }).passOf = some ({ search with wrongCount := 1 }, request .write) ∧
      (passing .writeVerify { search with phase := .readBack, matched := true }).passOf =
        some ({ search with phase := .readBack, matched := true }, request .writeVerify) ∧
      (passing .formatTrack { search with phase := .formatWait }).passOf =
        some ({ search with phase := .formatWait }, request .formatTrack) ∧
      checkOfTwo (idCheck 10 1 2).1 (idCheck 10 1 2).2 = checkOf [10, 1, 2] ∧ (passing .write search).drives[(0 : DriveNo)].writeProtect = false ∧
      ((passing .write search).setWriteProtect 0 true).drives[(0 : DriveNo)].writeProtect = true := by decide +kernel
theorem witness_FieldsMeetThePass_data :
    floor.passOf = none ∧
      (passing .read { search with phase := .transfer }).passOf = some ({ search with phase := .transfer }, request .read) ∧
      (passing .write { search with phase := .transfer }).passOf = some ({ search with phase := .transfer }, request .write) ∧
      (passing .writeVerify { search with phase := .readBack, matched := true }).passOf =
        some ({ search with phase := .readBack, matched := true }, request .writeVerify) := by decide +kernel
theorem witness_IndexPulsesMeetThePass :
    (passing .read { search with indexCount := 1 }).passOf = some ({ search with indexCount := 1 }, request .read) ∧
      (passing .read search).passOf = some (search, request .read) ∧ search.drive = 0 ∧ floor.passOf = none ∧ search.drive ≠ 1 ∧
      (passing .formatTrack { search with phase := .formatWait }).passOf =
        some ({ search with phase := .formatWait }, request .formatTrack) ∧
      (passing .formatTrack { search with phase := .formatWrite }).passOf =
        some ({ search with phase := .formatWrite }, request .formatTrack) := by decide +kernel
theorem witness_FailedAttemptsAreRetried :
    (floor.settings[(0 : DriveNo)].retries ≤ 5 + 1) ∧ (request .read).attempts + 1 < floor.settings[(0 : DriveNo)].retries ∧
      (2 + 1 < floor.settings[(0 : DriveNo)].retries ∧ (request .read).recalibrated = false) ∧
      PassCause.dataCheck ≠ .wrongCylinder := by decide +kernel
theorem witness_ChoiceTakesALeastCostCandidate_costs :
    Settings.powerOn.inRange ∧ 1500 ≤ mountedDrive.period ∧ mountedDrive.period ≤ 1833 ∧ (targetOfL 2279).cylinder ≤ 76 ∧
      ((floor.drives[(0 : DriveNo)]).state = .mounted ∧ floor.images[(0 : DriveNo)] = some volume ∧
        (floor.drives[(1 : DriveNo)]).state ≠ .mounted) := by
  unfold Settings.inRange; decide +kernel
/-- Drive 0 with one request to choose from. -/
def oneToDo : State := floor.setSched 0 { Scheduler.idle with workList := [request .read] }
def working : State := floor.setSched 0 { Scheduler.idle with workList := [request .read, { request .read with cls := .urgent, page := 2 }] }
theorem witness_ChoiceTakesALeastCostCandidate :
    (working.drives[(0 : DriveNo)]).position = some 10 ∧ working.scheds[(0 : DriveNo)].workList ≠ [] ∧
      working.chosen 0 = some { request .read with cls := .urgent, page := 2 } ∧
      (∀ x ∈ oneToDo.scheds[(0 : DriveNo)].workList, (x.seq - 0).toNat < 2147483648 ∧ x.cls = .routine) := by decide +kernel
theorem witness_SectorNumberingIsOneToOne :
    (2279 : Nat) < 2280 ∧ (⟨76, 1, 14⟩ : Target).cylinder ≤ 76 ∧ 1 ≤ (⟨1, 0, 0⟩ : Target).cylinder ∧ (14 : Nat) < 15 := by decide +kernel
theorem witness_ReservationGivesTheLowestFreeRuns :
    volume.mapSound ∧ given volume 2 = some [⟨6, 1⟩, ⟨8, 1⟩] := by
  unfold Image.mapSound; decide +kernel
/-- Desk 2's handle with its first sector on its way to the diskette and its second being filled. -/
def onItsWay : WriteHandle := { writer with mark := 512, table := [.writing 3, .filling 4] }
def sending : State := floor.setHandle 2 0 (.writing onItsWay)
/-- Eight extents of one sector, two apart. -/
def scattered : List Extent := (List.range 8).map (fun i => ⟨40 + 2 * i, 1⟩)
theorem witness_WritesEndAndAreRelocated :
    (sending.handle 2 0 = .writing onItsWay ∧ onItsWay.table.getD 1 .unstarted = .filling 4 ∧
        sectorAt onItsWay.reservation 1 = some 21 ∧ onItsWay.mark < min (512 * (1 + 1)) onItsWay.length ∧
        min (512 * (0 + 1)) onItsWay.length ≤ onItsWay.mark) ∧
      (onItsWay.table.getD 0 .unstarted = .writing 3 ∧ writer.table.getD 0 .unstarted ≠ .writing 3) ∧
      (sending.images[(0 : DriveNo)] = some volume ∧ sectorAt onItsWay.reservation 0 = some 20 ∧ volume.lowestFree = some 6 ∧
        (joined (splitAt onItsWay.reservation 0 6)).length ≤ 8 ∧ 8 < (joined (splitAt (scattered ++ [⟨90, 3⟩]) 0 6)).length ∧
        ({ volume with allocated := List.range 2280 } : Image).lowestFree = none) ∧
      volume.mapSound ∧ (onItsWay.orphan = false ∧ ({ onItsWay with orphan := true } : WriteHandle).orphan = true) ∧
      (committer.state = .committing ∧ committer.placed = false ∧ ∀ e ∈ committer.table, e = .written) := by
  unfold Image.mapSound; decide +kernel
theorem witness_WritesEndAndAreRelocated_places : 7 < totalCount [⟨120, 5⟩, ⟨300, 3⟩] := by decide +kernel
theorem witness_RecordedFormsReadBackAsWritten :
    ∀ n ∈ slotsOf 1, (volume.slots[n]).carried = false ∧ ((volume.slots[n]).state = .filed → (volume.slots[n]).recordable) := by
  unfold Slot.recordable; decide +kernel
theorem witness_RecordedFormsReadBackAsWritten_label :
    1 ≤ news.length ∧ news.length ≤ 12 ∧ (∀ b ∈ news, slugChar b = true) ∧ 14 ≤ 14 ∧ (List.range 16).length ≤ 16 ∧
      ∀ l ∈ List.range 16, l < 2280 := by decide +kernel
/-- A volume with one catalogue sector in a write state. -/
def written (w : WriteState) : Image := { volume with writes := (Vector.replicate 29 .clean).set 3 w }
theorem witness_CatalogueWritesCarryTheirChanges :
    floor.images[(0 : DriveNo)] = some volume ∧ (30 : SlotNo).val / 8 = (3 : CatNo).val ∧
      (volume.writes[(2 : CatNo)] = .clean ∧ volume.writes[(3 : CatNo)] = .dirty ∧ (written .writing).writes[(3 : CatNo)] = .writing ∧
        (written .writingDirty).writes[(3 : CatNo)] = .writingDirty) ∧
      (∀ m : SlotNo, m.val / 8 = 3 → m ≠ 30 → (volume.slots[m]).pending = none) ∧
      (working.scheds[(0 : DriveNo)].workList.find? (fun r => r.owner = .catalogue 3) = none ∧
        (passing .read search).scheds[(0 : DriveNo)].inHand = some ⟨request .read, .passing⟩) ∧
      ((volume.slots[(30 : SlotNo)]).carried = false ∧ (volume.slots[(30 : SlotNo)]).pending = some (.removal 4)) ∧
      (volume.slots[(9 : SlotNo)]).state = .filed ∧ (volume.slots[(20 : SlotNo)]).state ≠ .filed := by decide +kernel
/-- The new version that desk 3's FILE of slot 20 places. -/
def version : NewVersion := committer.newVersion 3 0 true
/-- Slot 20 with that change carried, and slot 30 with its removal carried. -/
def carrying : Image :=
  let creating := { volume.slots[(20 : SlotNo)] with pending := some (.newVersion version), carried := true }
  let leaving := { volume.slots[(30 : SlotNo)] with carried := true }
  { volume with slots := (volume.slots.set 20 creating).set 30 leaving }
/-- Desk 3 has been reset since its FILE and holds slot 20 again. -/
def retaken : State :=
  ((floor.setImage 0 (some carrying)).setHandle 3 0 (.writing { committer with orphan := true })).setDesk 3
    { DeskContext.clear with holds := 1, filingsSet := 1 }
/-- R107, R145, R182: that hold is kept at the commit, and the FILED event has the released attribute clear. -/
theorem test_hold_retaken_is_kept :
    (let t := retaken.commitSlot 0 20
     ((t.slot 0 20).state, (t.slot 0 20).holder, t.desks[(3 : Desk)].holds, t.desks[(3 : Desk)].notices, t.handle 3 0)) =
      (.filed, some 3, 1, [.filed 0 news 3 1 true false], .free) := by decide +kernel
theorem witness_CatalogueWritesCommitOrFailWhole :
    (floor.setImage 0 (some carrying)).images[(0 : DriveNo)] = some carrying ∧
      ({ request .writeVerify with owner := .catalogue 3 } : SectorRequest).owner = .catalogue 3 ∧ (request .writeVerify).drive = 0 ∧
      (volume.slots[(9 : SlotNo)]).carried = false ∧
      ((carrying.slots[(20 : SlotNo)]).carried = true ∧ (carrying.slots[(20 : SlotNo)]).pending = some (.newVersion version) ∧
        (carrying.slots[(20 : SlotNo)]).state = .creating ∧ (carrying.slots[(20 : SlotNo)]).holder = some 3 ∧
        version.keepHold = false ∧ version.desk = 3 ∧ floor.handle 3 0 = .writing committer ∧ committer.orphan = false) ∧
      (retaken.handle 3 0 = .writing { committer with orphan := true } ∧ retaken.images[(0 : DriveNo)] = some carrying) ∧
      ((carrying.slots[(30 : SlotNo)]).carried = true ∧ (carrying.slots[(30 : SlotNo)]).pending = some (.removal 4) ∧
        (carrying.slots[(30 : SlotNo)]).holder = none) ∧
      (floor.desks[(3 : Desk)].inProgress = some (.file 0) ∧ Waiting.isFile 0 (.file 0) = true ∧
        floor.desks[(1 : Desk)].inProgress = none) ∧
      ((written .writing).writes[(3 : CatNo)] = .writing ∧ (written .writingDirty).writes[(3 : CatNo)] = .writingDirty ∧
        volume.writes[(2 : CatNo)] = .clean) := by decide +kernel
/-- A volume with two retired versions, of one reader and of two. -/
def retiredTwo : Image := { volume with retired := [⟨0, [⟨40, 1⟩], 1⟩, ⟨1, [⟨50, 1⟩], 2⟩], nextRetired := 2 }
theorem witness_LossesAndVersionsBoundToReaders :
    floor.images[(0 : DriveNo)] = some volume ∧ ((volume.slots[(9 : SlotNo)]).readers = 1 ∧ (volume.slots[(14 : SlotNo)]).readers = 0) ∧
      (∀ x ∈ retiredTwo.retired, x.id ≠ 2) ∧ retiredTwo.retired = [⟨0, [⟨40, 1⟩], 1⟩] ++ ⟨1, [⟨50, 1⟩], 2⟩ :: [] ∧
      (floor.handle 1 0 = .reading reader ∧ floor.handle 2 0 = .writing writer ∧ writer.orphan = false ∧ floor.handle 7 0 = .free ∧
        floor.handle 2 1 = .lost lostOne ∧
        (floor.setHandle 2 0 (.writing { writer with orphan := true })).handle 2 0 = .writing { writer with orphan := true }) ∧
      (floor.desks[(5 : Desk)].inProgress = some (.get false 0 0 10) ∧ (Waiting.get false 0 0 10).handle = some 0) ∧
      floor.desks[(3 : Desk)].inProgress = some (.file 0) ∧ floor.images[(1 : DriveNo)] = none ∧
      (floor.desks[(4 : Desk)].inProgress = some (.spike 0 30 false) ∧ (volume.slots[(30 : SlotNo)]).pending = some (.removal 4)) := by
  decide +kernel
def inHandAt (phase : HandPhase) : State := floor.setSched 0 { Scheduler.idle with inHand := some ⟨request .read, phase⟩ }
theorem witness_DrivesActAsSoonAsTheyCan :
    ((inHandAt .positioning).scheds[(0 : DriveNo)].inHand = some ⟨request .read, .positioning⟩ ∧
        (floor.drives[(0 : DriveNo)]).motion = .still ∧ (floor.drives[(0 : DriveNo)]).head = .loaded ∧
        (seeking.drives[(0 : DriveNo)]).motion ≠ .still) ∧
      ((inHandAt .waiting).scheds[(0 : DriveNo)].inHand = some ⟨request .read, .waiting⟩ ∧ HandPhase.waiting ≠ .positioning) ∧
      (oneToDo.scheds[(0 : DriveNo)].inHand = none ∧ (oneToDo.drives[(0 : DriveNo)]).state = .mounted ∧
        oneToDo.scheds[(0 : DriveNo)].workList ≠ [] ∧ (oneToDo.drives[(0 : DriveNo)]).pendingRecal = false ∧
        oneToDo.chosen 0 = some (request .read) ∧ (floor.scheds[(0 : DriveNo)]).workList = []) ∧
      ((floor.drives[(0 : DriveNo)]).position = some 10 ∧ (request .read).target.cylinder = 10) ∧
      (request .read).page = 1 ∧ (oneToDo.channel.grant ≠ some 0 ∧ (passing .read search).channel.grant = some 0) ∧
      (floor.runDrives = floor ∧ floor.scheds[(0 : DriveNo)].inHand = none ∧ (floor.drives[(0 : DriveNo)]).state = .mounted ∧
        (floor.drives[(0 : DriveNo)]).pendingRecal = false) ∧
      (passing .read search).scheds[(0 : DriveNo)].inHand = some ⟨request .read, .passing⟩ := by decide +kernel
def waitFor (l : List (DriveNo × Machine.Class)) (g : Option DriveNo) : Channel := { Channel.idle with waitList := l, grant := g }
theorem witness_ChannelGoesToTheEarliestUrgentDrive :
    ((waitFor [(1, .routine), (0, .urgent)] none).next = some 0 ∧ (waitFor [(1, .routine), (0, .routine)] none).next = some 1 ∧
        (waitFor [] none).next = none) ∧
      ((floor.setChannel (waitFor [(0, .urgent)] none)).channel.grant = none ∧
        (inHandAt .waiting).scheds[(0 : DriveNo)].inHand = some ⟨request .read, .waiting⟩ ∧ floor.scheds[(0 : DriveNo)].inHand = none) ∧
      ((oneToDo.setChannel (waitFor [] (some 0))).channel.grant = some 0 ∧ floor.channel.grant ≠ some 0 ∧
        (oneToDo.setChannel (waitFor [] (some 0))).chosen 0 = some (request .read) ∧
        (oneToDo.drives[(0 : DriveNo)]).position = some (request .read).target.cylinder ∧
        oneToDo.scheds[(0 : DriveNo)].runLength < 15 ∧
        (positioningCost (oneToDo.settings[(0 : DriveNo)]) (schedDrive 775 .loaded) 10 2 (request .read).target).2 ≥ 1667 / 15 ∧
        (positioningCost (oneToDo.settings[(0 : DriveNo)]) (schedDrive 700 .loaded) 10 2 (request .read).target).2 < 1667 / 15) := by
  decide +kernel
theorem witness_PassesStartAndEnd :
    ((request .read).owner = .handleSector 1 0 1 ∧ ∀ q : CatNo, (request .read).owner ≠ .catalogue q) ∧
      ({ request .writeVerify with owner := .catalogue 3 } : SectorRequest).owner = .catalogue 3 ∧
      (search.finishing = false ∧ ({ search with finishing := true } : Pass).finishing = true ∧ search.withdrawn = false) ∧
      ((request .read).operation = .read ∧ (request .write).operation ≠ .read) ∧
      ({ request .read with owner := .mountLabel } : SectorRequest).owner = .mountLabel ∧
      ({ request .read with owner := .mountCatalogue 28 } : SectorRequest).owner = .mountCatalogue 28 ∧
      ({ request .formatTrack with owner := .formatTrack 153 } : SectorRequest).owner = .formatTrack 153 ∧
      ((floor.drives[(0 : DriveNo)]).state = .mounted ∧ (floor.drives[(1 : DriveNo)]).state = .offline ∧
        (floor.drives[(0 : DriveNo)]).trackZero = false ∧ ((floor.setTrackZero 0 true).drives[(0 : DriveNo)]).trackZero = true ∧
        (floor.drives[(1 : DriveNo)]).trackZero = false ∧ ((floor.setTrackZero 1 true).drives[(1 : DriveNo)]).trackZero = true) := by
  decide +kernel
theorem witness_AcceptedRecordsShareNothing :
    let kept := [((9 : SlotNo), (volume.slots[(9 : SlotNo)]).record), (14, (volume.slots[(14 : SlotNo)]).record),
      (15, (volume.slots[(14 : SlotNo)]).record)]
    (crossExamine [7] kept).records = kept.take 2 ∧ (crossExamine [7] kept).discarded = true ∧
      (crossExamine [7] (kept.take 2)).discarded = false ∧ (kept.map Prod.fst).Nodup := by decide +kernel
theorem witness_EveryStepKeepsLegalSettings :
    floor.legalSettings := by
  unfold State.legalSettings State.someSupervisor State.quotasInRange State.settingsInRange Settings.inRange; decide +kernel
theorem witness_EveryStepKeepsNoticeQueuesSound : floor.queuesSound := by
  unfold State.queuesSound queueSound
  intro desk
  have h : floor.desks[desk].notices = [] := by revert desk; decide +kernel
  rw [h]; exact ⟨by decide, by decide, fun n hn => absurd hn List.not_mem_nil⟩
theorem witness_EveryStepKeepsAllocationMapsSound : volume.mapSound ∧ MountRecord.clear.sound := by
  refine ⟨by unfold Image.mapSound; decide +kernel, ?_, ?_⟩
  · intro l h; cases h
  · intro p h; cases h
theorem witness_SettlingAnswersOnlyWaitingDesks : floor.desks[(1 : Desk)].inProgress = none := by decide +kernel
theorem witness_RequestsLeaveOtherIdleDesksAlone :
    Kind.hold ≠ .restart ∧ (1 : Desk) ≠ 7 ∧ floor.desks[(1 : Desk)].inProgress = none ∧
      exec (Kind.hold.command 7 (0 :: flood)) floor = .next (next (.hold 7 (0 :: flood)) floor) :=
  ⟨by decide, by decide, by decide +kernel, rfl⟩

end Sys2Proof.Tests
end

section
namespace Sys2Proof.Machine

/-! ### The check register (R3) -/

/-- A bit that agrees with the register's highest one is shifted out without the polynomial. -/
theorem checkBit_of_eq {c : Check} {b : Bool} (h : c.getLsbD 15 = b) : checkBit c b = c <<< 1 := by
  rw [checkBit, h, if_pos (beq_self_eq_true b)]

/-- A byte that agrees with the register's high byte is shifted out. -/
theorem checkByte_of_highByte {c : Check} {b : Byte} (h : ∀ i < 8, b.getLsbD i = c.getLsbD (8 + i)) :
    checkByte c b = c <<< 8 := by
  have shiftOut : ∀ k < 8, checkBit (c <<< k) (b.getLsbD (7 - k)) = c <<< (k + 1) := by
    intro k hk
    have agrees : (c <<< k).getLsbD 15 = b.getLsbD (7 - k) := by
      rw [h _ (by omega), BitVec.getLsbD_shiftLeft, show 15 - k = 8 + (7 - k) by omega]
      simp; omega
    rw [checkBit_of_eq agrees, ← BitVec.shiftLeft_add]
  have start := shiftOut 0 (by omega)
  rw [BitVec.shiftLeft_zero] at start
  simp only [checkByte, List.foldl_cons, List.foldl_nil]
  rw [start, shiftOut 1 (by omega), shiftOut 2 (by omega), shiftOut 3 (by omega), shiftOut 4 (by omega),
    shiftOut 5 (by omega), shiftOut 6 (by omega), shiftOut 7 (by omega)]

/-- The high byte of a check goes first (R2). -/
theorem highByte_getLsbD (c : Check) (i : Nat) (hi : i < 8) : (byteOf (c.toNat / 256)).getLsbD i = c.getLsbD (8 + i) := by
  rw [byteOf, BitVec.getLsbD_ofNat, show 256 = 2 ^ 8 from rfl, Nat.testBit_div_two_pow, Nat.add_comm]
  simp [hi, BitVec.getLsbD]

theorem lowByte_getLsbD (c : Check) (i : Nat) (hi : i < 8) : (byteOf (c.toNat % 256)).getLsbD i = c.getLsbD i := by
  rw [byteOf, BitVec.getLsbD_ofNat, show 256 = 2 ^ 8 from rfl, Nat.testBit_mod_two_pow]
  simp [hi, BitVec.getLsbD]

theorem checkFrom_append (c : Check) (xs ys : List Byte) : checkFrom c (xs ++ ys) = checkFrom (checkFrom c xs) ys :=
  List.foldl_append

/-- The register fed with its own two bytes, high byte first, shifts itself out. -/
theorem checkFrom_checkBytes (c : Check) : checkFrom c (checkBytes c) = 0 := by
  have low : ∀ i < 8, (byteOf (c.toNat % 256)).getLsbD i = (c <<< 8).getLsbD (8 + i) := by
    intro i hi
    rw [lowByte_getLsbD c i hi, BitVec.getLsbD_shiftLeft]
    simp; omega
  calc checkFrom c (checkBytes c)
      = checkByte (checkByte c (byteOf (c.toNat / 256))) (byteOf (c.toNat % 256)) := rfl
    _ = checkByte (c <<< 8) (byteOf (c.toNat % 256)) := by rw [checkByte_of_highByte (highByte_getLsbD c)]
    _ = c <<< 8 <<< 8 := checkByte_of_highByte low
    _ = 0 := by rw [← BitVec.shiftLeft_add]; exact BitVec.shiftLeft_eq_zero (by omega)

/-- The same whatever the register took before. -/
theorem checkFrom_append_checkBytes (c : Check) (data : List Byte) :
    checkFrom c (data ++ checkBytes (checkFrom c data)) = 0 := by
  rw [checkFrom_append, checkFrom_checkBytes]

/-- Settles O52: the two bytes of the check shift the register out bit by bit, whatever it held. -/
theorem checkOverItsOwnCheckIsZero : Obligations.CheckOverItsOwnCheckIsZero := by
  refine ⟨rfl, checkFrom_append_checkBytes, fun r => ⟨rfl, ?_, ?_⟩⟩
  · exact checkFrom_append_checkBytes checkStart (byteOf r.body.length :: r.body)
  · simp [Reply.frame, checkBytes, twoBytes]

end Sys2Proof.Machine
end

section
namespace Sys2Proof.Machine

/-! ### The tick on an empty queue (R46, R160, R166, R184, log 1) -/

theorem step_of_no_pending {s : State} (h : s.pending = []) : step s = .next s.idles := by
  simp [step, h]

theorem idles_of_powerGood {s : State} (hp : s.powerGood = true) : s.idles = s.ticked := if_pos hp

theorem idles_of_no_power {s : State} (hp : s.powerGood = false) : s.idles = s :=
  if_neg (by simp [hp])

/-- The part one tick later, before a rate change that is due is taken. -/
def State.counted (s : State) : State :=
  { s with tick := s.tick + 1, drives := s.drives.map DriveUnit.ticked, lines := s.lines.map LineUnit.ticked }

theorem ticked_eq_foldl_counted (s : State) :
    s.ticked = ([0, 1, 2, 3, 4, 5, 6, 7] : List Desk).foldl (fun v desk => v.rateDue desk) s.counted := rfl

theorem counted_drive (s : State) (d : DriveNo) : s.counted.drives[d] = (s.drives[d]).ticked := Vector.getElem_map ..

theorem counted_line (s : State) (desk : Desk) : s.counted.lines[desk] = (s.lines[desk]).ticked := Vector.getElem_map ..

/-! #### A rate change that is due (R161, R166) -/

theorem LineUnit.sending_iff (l : LineUnit) : l.sending = true ↔ l.replies ≠ [] ∨ l.cutOff ≠ none := by
  simp [LineUnit.sending, Option.isSome_iff_ne_none]

/-- Whether the line of another desk is sending does not hang on what this desk's line has just become. -/
theorem sending_setLine_other (s : State) (desk target : Desk) (l : LineUnit) :
    (target != desk && (s.setLine desk l).lines[target].sending) =
      decide (target ≠ desk ∧ (s.lines[target].replies ≠ [] ∨ s.lines[target].cutOff ≠ none)) := by
  by_cases h : target = desk
  · simp [h]
  · have hval : (desk : Nat) ≠ target := fun e => h (Fin.ext e.symm)
    rw [Bool.eq_iff_iff]
    simp [h, hval, LineUnit.sending_iff]

theorem rateDue_of_due {s : State} {desk target : Desk} {rate : Rate} (hcut : s.lines[desk].cutOff = none)
    (hrate : s.lines[desk].cutRate = some (target, rate)) :
    s.rateDue desk =
      (s.setLine desk { s.lines[desk] with cutRate := none, oldRate := none }).takeRate target
        (decide (target ≠ desk ∧ (s.lines[target].replies ≠ [] ∨ s.lines[target].cutOff ≠ none))) rate := by
  have hline : { s.lines[desk] with cutOff := none, cutRate := none, oldRate := none } =
      { s.lines[desk] with cutRate := none, oldRate := none } := by rw [LineUnit.mk.injEq]; simp only [hcut, and_self]
  rw [State.rateDue, if_pos (by rw [hcut, hrate]; rfl), State.cutEnds, hline, hrate, State.takeReplyRate, sending_setLine_other]

theorem rateDue_of_cutting {s : State} {desk : Desk} {n : Nat} (hcut : s.lines[desk].cutOff = some n) : s.rateDue desk = s :=
  if_neg (by rw [hcut]; exact Bool.false_ne_true)

theorem rateDue_of_no_rate {s : State} {desk : Desk} (hrate : s.lines[desk].cutRate = none) : s.rateDue desk = s :=
  if_neg (by rw [hrate, Option.isSome_none, Bool.and_false]; exact Bool.false_ne_true)

/-! #### Drives and lines -/

theorem DriveUnit.turns_iff (u : DriveUnit) : u.turns = true ↔ u.ready = true ∧ u.state ≠ .disabled := by
  simp [DriveUnit.turns]

theorem DriveUnit.ticked_elapsed (u : DriveUnit) :
    u.ticked.elapsed = if u.ready = true ∧ u.state ≠ .disabled then min (u.elapsed + 1) 65535 else u.elapsed := by
  simp only [DriveUnit.ticked, DriveUnit.turns_iff, Config.maxElapsed]

theorem HeadState.ticked_of_not_loading {h : HeadState} (hl : ∀ n, h ≠ .loading n) : h.ticked = h := by
  cases h with
  | loading n => exact absurd rfl (hl n)
  | unloaded | loaded => rfl

theorem LineUnit.sent_of_no_cut {l : LineUnit} (h : l.cutOff = none) :
    l.sent = { l with progress := min (l.progress + l.sendRate.baud) (replyBits l.replies) } := by
  simp [LineUnit.sent, h]

theorem LineUnit.sent_of_cut_goes_on {l : LineUnit} {n : Nat} (h : l.cutOff = some n) (hlt : l.sendRate.baud < n) :
    l.sent = { l with cutOff := some (n - l.sendRate.baud) } := by
  simp [LineUnit.sent, h, hlt]

theorem LineUnit.sent_of_cut_ends {l : LineUnit} {n : Nat} (h : l.cutOff = some n) (hle : n ≤ l.sendRate.baud) :
    l.sent = { l with cutOff := none, oldRate := none } := by
  simp [LineUnit.sent, h, Nat.not_lt.mpr hle]

theorem LineUnit.sent_frame (l : LineUnit) :
    l.sent = { l with progress := l.sent.progress, oldRate := l.sent.oldRate, cutOff := l.sent.cutOff } := by
  cases h : l.cutOff with
  | none => simp only [sent_of_no_cut h]
  | some n =>
    rcases Nat.lt_or_ge l.sendRate.baud n with hlt | hle
    · simp only [sent_of_cut_goes_on h hlt]
    · simp only [sent_of_cut_ends h hle]

theorem LineUnit.ticked_frame (l : LineUnit) :
    l.ticked = { l with gap := l.ticked.gap, breakTimer := l.ticked.breakTimer, progress := l.ticked.progress,
                        oldRate := l.ticked.oldRate, cutOff := l.ticked.cutOff } :=
  congrArg (fun m : LineUnit => { m with gap := l.ticked.gap, breakTimer := l.ticked.breakTimer }) (LineUnit.sent_frame l)

/-- What is being sent after a tick, with the baud of the rate it goes at (R160, R166, R184, log 10). -/
theorem LineUnit.ticked_of_no_cut {l : LineUnit} (h : l.cutOff = none) :
    l.ticked.cutOff = none ∧ l.ticked.oldRate = l.oldRate ∧
      l.ticked.progress = min (l.progress + l.sendRate.baud) (replyBits l.replies) := by
  simp only [LineUnit.ticked, LineUnit.sent_of_no_cut h, h, and_self]

theorem LineUnit.ticked_of_cut {l : LineUnit} {n : Nat} (h : l.cutOff = some n) :
    l.ticked.progress = l.progress ∧
      (l.sendRate.baud < n → l.ticked.cutOff = some (n - l.sendRate.baud) ∧ l.ticked.oldRate = l.oldRate) ∧
      (n ≤ l.sendRate.baud → l.ticked.cutOff = none ∧ l.ticked.oldRate = none) := by
  rcases Nat.lt_or_ge l.sendRate.baud n with hlt | hle
  · simp [LineUnit.ticked, LineUnit.sent_of_cut_goes_on h hlt, hlt, Nat.not_le.mpr hlt]
  · simp [LineUnit.ticked, LineUnit.sent_of_cut_ends h hle, hle, Nat.not_lt.mpr hle]

/-- The bits a second of each rate (R160), in ten-thousandths of a bit for each tick. -/
theorem Rate.baud_of_mem {rate : Rate} {baud : Nat}
    (h : (rate, baud) ∈ [(Rate.r2400, 2400), (.r4800, 4800), (.r9600, 9600), (.r19200, 19200), (.r38400, 38400)]) :
    rate.baud = baud := by
  cases rate <;> simp at h <;> exact h.symm

/-- Settles O2: the counts of a tick are taken drive by drive and line by line, and after them the rate changes that are due. -/
theorem emptyQueueIsOneTick : Obligations.EmptyQueueIsOneTick := by
  intro s hq
  refine ⟨fun hp => by rw [step_of_no_pending hq, idles_of_no_power hp], fun hp => ⟨s.counted, ?_, rfl, rfl, ?_, ?_⟩⟩
  · rw [step_of_no_pending hq, idles_of_powerGood hp, ticked_eq_foldl_counted]
    congr 2
    funext v desk
    split
    next hcut hrate => exact rateDue_of_due hcut hrate
    next hnot =>
      cases hcut : v.lines[desk].cutOff with
      | some n => exact rateDue_of_cutting hcut
      | none =>
        cases hrate : v.lines[desk].cutRate with
        | none => exact rateDue_of_no_rate hrate
        | some change => exact (hnot change.1 change.2 hcut hrate).elim
  · intro d
    rw [counted_drive]
    refine ⟨rfl, DriveUnit.ticked_elapsed _, ?_, HeadState.ticked_of_not_loading, ?_, ?_, ?_, ?_, ?_⟩
    · exact fun n h => congrArg HeadState.ticked h
    · exact fun x i b n h => congrArg Motion.ticked h
    · exact fun x n h => congrArg Motion.ticked h
    · exact fun k i b n h => congrArg Motion.ticked h
    · exact fun n h => congrArg Motion.ticked h
    · exact fun h => congrArg Motion.ticked h
  · intro desk
    rw [counted_line]
    refine ⟨LineUnit.ticked_frame _, rfl, rfl, fun baud hbaud => ?_⟩
    obtain rfl : (s.lines[desk]).sendRate.baud = baud := Rate.baud_of_mem hbaud
    refine ⟨fun hcut => ?_, fun left hcut => LineUnit.ticked_of_cut hcut⟩
    obtain ⟨hcutOff, holdRate, hprogress⟩ := LineUnit.ticked_of_no_cut hcut
    refine ⟨hcutOff, holdRate, fun hidle => ?_, fun r rest hreplies => ?_⟩
    · rw [hprogress, hidle, replyBits, Nat.min_zero]
    · rw [hprogress, hreplies]; rfl

end Sys2Proof.Machine
end

section
namespace Sys2Proof.Machine

/-! ### What passes under the head meets the pass (R67 to R73) -/

/-- The number in a recorded check, high byte first (R2), is the check it stands for. -/
theorem checkOfTwo_eq_iff (hi lo : Byte) (c : Check) : c = checkOfTwo hi lo ↔ hi.toNat * 256 + lo.toNat = c.toNat := by
  have hhi := hi.isLt
  have hlo := lo.isLt
  have hmod : (hi.toNat * 256 + lo.toNat) % 2 ^ 16 = hi.toNat * 256 + lo.toNat := Nat.mod_eq_of_lt (by omega)
  rw [checkOfTwo, ofTwo, ← BitVec.toNat_inj, BitVec.toNat_ofNat, hmod, eq_comm]

theorem powered_of_powerGood {s : State} (hp : s.powerGood = true) (f : State → State) : s.powered f = f s := if_pos hp

theorem exec_idFieldRead {s : State} (hp : s.powerGood = true) (cylinder head sector : Byte) (check : Byte × Byte) :
    exec (.idFieldRead cylinder head sector check) s =
      .next (s.takeId cylinder head sector (checkOfTwo check.1 check.2)).settle :=
  congrArg Host.Outcome.next (powered_of_powerGood hp _)

theorem exec_dataFieldRead {s : State} (hp : s.powerGood = true) (data : Vector Byte 512) (check : Byte × Byte) :
    exec (.dataFieldRead data check) s = .next (s.takeData data.toList (checkOfTwo check.1 check.2)).settle :=
  congrArg Host.Outcome.next (powered_of_powerGood hp _)

theorem exec_dataFieldWritten {s : State} (hp : s.powerGood = true) : exec .dataFieldWritten s = .next s.fieldWritten.settle :=
  congrArg Host.Outcome.next (powered_of_powerGood hp _)

/-! #### No pass -/

theorem takeId_of_no_pass {s : State} (h : s.passOf = none) (cylinder head sector : Byte) (check : Check) :
    s.takeId cylinder head sector check = s := by
  simp [State.takeId, h]

theorem takeData_of_no_pass {s : State} (h : s.passOf = none) (data : List Byte) (check : Check) : s.takeData data check = s := by
  simp [State.takeData, h]

theorem fieldWritten_of_no_pass {s : State} (h : s.passOf = none) : s.fieldWritten = s := by
  simp [State.fieldWritten, h]

theorem passPulse_of_no_pass {s : State} (h : s.passOf = none) (d : DriveNo) : s.passPulse d = s := by
  simp [State.passPulse, h]

/-! #### The ID of a search (R67, R68, R70 to R72) -/

section Search
variable (s : State) (p : Pass) (r : SectorRequest)

theorem idMatched_of_readBack (h : p.phase = .readBack) : s.idMatched p r = s.setPass { p with matched := true } := if_pos h

theorem idMatched_of_read (h : p.phase = .search) (ho : r.operation = .read) :
    s.idMatched p r = s.setPass { p with phase := .transfer } := by
  simp [State.idMatched, h, ho]

theorem idMatched_of_protected (h : p.phase = .search) (ho : r.operation ≠ .read) (hw : s.drives[p.drive].writeProtect = true) :
    s.idMatched p r = s.endPass p r .isProtected := by
  simp only [State.idMatched, h, ho, hw, reduceCtorEq, if_true, if_false]

theorem idMatched_of_write (h : p.phase = .search) (ho : r.operation ≠ .read) (hw : s.drives[p.drive].writeProtect = false) :
    s.idMatched p r = s.setChannel { s.channel with pass := some { p with phase := .transfer }, writeGate := true,
                                                    writeData := .dataField (recorded (s.pageBytes r.page)) } := by
  simp only [State.idMatched, h, ho, hw, reduceCtorEq, Bool.false_eq_true, if_false]

theorem wrongCylinder_of_first (h : p.wrongCount ≠ 1) :
    s.wrongCylinder p r = s.setPass { p with wrongCount := p.wrongCount + 1 } :=
  if_neg (by omega)

theorem wrongCylinder_of_second (h : p.wrongCount = 1) :
    s.wrongCylinder p r = s.endPass p r (.failed (searchCause p .wrongCylinder)) :=
  if_pos (by omega)

variable (cylinder head sector : Byte) (check : Check)

theorem searchId_of_bad_check (h : checkOf [cylinder, head, sector] ≠ check) : s.searchId p r cylinder head sector check = s :=
  if_pos h

theorem searchId_of_other_cylinder (h : checkOf [cylinder, head, sector] = check) (hc : cylinder.toNat ≠ r.target.cylinder) :
    s.searchId p r cylinder head sector check = s.wrongCylinder p r := by
  rw [State.searchId, if_neg (not_not_intro h), if_pos hc]

theorem searchId_of_other_sector (h : checkOf [cylinder, head, sector] = check) (hc : cylinder.toNat = r.target.cylinder)
    (hm : ¬(head.toNat = r.target.head ∧ sector.toNat = r.target.sector)) :
    s.searchId p r cylinder head sector check = s := by
  rw [State.searchId, if_neg (not_not_intro h), if_neg (not_not_intro hc), if_neg hm]

theorem searchId_of_match (h : checkOf [cylinder, head, sector] = check) (hc : cylinder.toNat = r.target.cylinder)
    (hm : head.toNat = r.target.head ∧ sector.toNat = r.target.sector) :
    s.searchId p r cylinder head sector check = s.idMatched p r := by
  rw [State.searchId, if_neg (not_not_intro h), if_neg (not_not_intro hc), if_pos hm]

end Search

/-! #### The pass of each phase -/

section Phases
variable {s : State} {p : Pass} {r : SectorRequest} (hpass : s.passOf = some (p, r))
include hpass

section Id
variable (cylinder head sector : Byte) (check : Check)

theorem takeId_of_searching (h : p.phase = .search ∨ (p.phase = .readBack ∧ p.matched = false)) :
    s.takeId cylinder head sector check = s.searchId p r cylinder head sector check := by
  rcases h with h | ⟨h, hm⟩
  · simp [State.takeId, hpass, h]
  · simp [State.takeId, hpass, h, hm]

theorem takeId_of_read_transfer (h : p.phase = .transfer) (ho : r.operation = .read) :
    s.takeId cylinder head sector check = s.endPass p r (.failed .dataCheck) := by
  simp [State.takeId, hpass, h, ho]

theorem takeId_of_write_transfer (h : p.phase = .transfer) (ho : r.operation ≠ .read) :
    s.takeId cylinder head sector check = s := by
  simp [State.takeId, hpass, h, ho]

theorem takeId_of_matched (h : p.phase = .readBack) (hm : p.matched = true) :
    s.takeId cylinder head sector check = s.endPass p r (.failed .verifyMismatch) := by
  simp [State.takeId, hpass, h, hm]

theorem takeId_of_format (h : p.phase = .formatWait ∨ p.phase = .formatWrite) : s.takeId cylinder head sector check = s := by
  rcases h with h | h <;> simp [State.takeId, hpass, h]

end Id

section Data
variable (data : List Byte) (check : Check)

theorem takeData_of_read_transfer (h : p.phase = .transfer) (ho : r.operation = .read) :
    s.takeData data check =
      (s.fillPage r.page data).endPass p r (if checkOf data = check then .done else .failed .dataCheck) := by
  simp [State.takeData, hpass, h, ho]

theorem takeData_of_matched (h : p.phase = .readBack) (hm : p.matched = true) :
    s.takeData data check =
      s.endPass p r (if data = s.pageBytes r.page ∧ checkOf data = check then .done else .failed .verifyMismatch) := by
  simp [State.takeData, hpass, h, hm]

theorem takeData_of_not_awaited (h : p.phase = .search ∨ p.phase = .formatWait ∨ p.phase = .formatWrite ∨
      (p.phase = .readBack ∧ p.matched = false) ∨ (p.phase = .transfer ∧ r.operation ≠ .read)) :
    s.takeData data check = s := by
  rcases h with h | h | h | ⟨h, hm⟩ | ⟨h, ho⟩
  · simp [State.takeData, hpass, h]
  · simp [State.takeData, hpass, h]
  · simp [State.takeData, hpass, h]
  · simp [State.takeData, hpass, h, hm]
  · simp [State.takeData, hpass, h, ho]

end Data

theorem fieldWritten_of_write (h : p.phase = .transfer) (ho : r.operation = .write) : s.fieldWritten = s.endPass p r .done := by
  simp [State.fieldWritten, hpass, h, ho]

theorem fieldWritten_of_writeVerify (h : p.phase = .transfer) (ho : r.operation = .writeVerify) :
    s.fieldWritten = s.setChannel { s.channel with
      pass := some { p with phase := .readBack, indexCount := 0, wrongCount := 0, matched := false }, writeGate := false,
      writeData := .none } := by
  simp [State.fieldWritten, hpass, h, ho]

theorem fieldWritten_of_no_field (h : p.phase ≠ .transfer ∨ r.operation = .read ∨ r.operation = .formatTrack) :
    s.fieldWritten = s := by
  rcases h with h | h | h
  · cases hph : p.phase with
    | transfer => exact absurd hph h
    | search | readBack | formatWait | formatWrite => simp [State.fieldWritten, hpass, hph]
  · cases hph : p.phase <;> simp [State.fieldWritten, hpass, hph, h]
  · cases hph : p.phase <;> simp [State.fieldWritten, hpass, hph, h]

theorem passPulse_of_own (d : DriveNo) (hd : p.drive = d) : s.passPulse d = s.indexInPass p r := by
  simp [State.passPulse, hpass, hd]

theorem passPulse_of_other (d : DriveNo) (hd : p.drive ≠ d) : s.passPulse d = s := by
  simp [State.passPulse, hpass, hd]

end Phases

/-! #### An index pulse in each phase (R67, R69, R70, R72, R73) -/

section Index
variable (s : State) (p : Pass) (r : SectorRequest)

theorem indexInPass_of_search_first (h : p.phase = .search) (hi : p.indexCount ≠ 1) :
    s.indexInPass p r = s.setPass { p with indexCount := p.indexCount + 1 } := by
  simp [State.indexInPass, h, hi]

theorem indexInPass_of_search_second (h : p.phase = .search) (hi : p.indexCount = 1) :
    s.indexInPass p r = s.endPass p r (.failed .idNotFound) := by
  simp [State.indexInPass, h, hi]

theorem indexInPass_of_read_transfer (h : p.phase = .transfer) (ho : r.operation = .read) :
    s.indexInPass p r = s.endPass p r (.failed .dataCheck) := by
  simp [State.indexInPass, h, ho]

theorem indexInPass_of_write_transfer (h : p.phase = .transfer) (ho : r.operation ≠ .read) : s.indexInPass p r = s := by
  simp [State.indexInPass, h, ho]

theorem indexInPass_of_readBack_first (h : p.phase = .readBack) (hm : p.matched = false) (hi : p.indexCount ≠ 1) :
    s.indexInPass p r = s.setPass { p with indexCount := p.indexCount + 1 } := by
  simp [State.indexInPass, h, hm, hi]

theorem indexInPass_of_readBack_ends (h : p.phase = .readBack) (hm : p.matched = true ∨ p.indexCount = 1) :
    s.indexInPass p r = s.endPass p r (.failed .verifyMismatch) := by
  simp [State.indexInPass, h, hm]

theorem indexInPass_of_formatWait_protected (h : p.phase = .formatWait) (hw : s.drives[p.drive].writeProtect = true) :
    s.indexInPass p r = s.endPass p r .isProtected := by
  simp only [State.indexInPass, h, hw, if_true]

theorem indexInPass_of_formatWait (h : p.phase = .formatWait) (hw : s.drives[p.drive].writeProtect = false) :
    s.indexInPass p r =
      s.setChannel { s.channel with pass := some { p with phase := .formatWrite }, writeGate := true,
                                    writeData := .track (((s.pageBytes r.page).take 15).map
                                      (formattedSector r.target.cylinder r.target.head)) } := by
  simp only [State.indexInPass, h, hw, Bool.false_eq_true, if_false]

theorem indexInPass_of_formatWrite (h : p.phase = .formatWrite) : s.indexInPass p r = s.endPass p r .done := by
  simp [State.indexInPass, h]

end Index

/-- Settles O47: the step of each field is the one of its phase, the search's by what its ID field says. -/
theorem fieldsMeetThePass : Obligations.FieldsMeetThePass := by
  refine ⟨?_, ?_⟩
  · intro cylinder head sector check s hp run
    have hrun : run = .next (s.takeId cylinder head sector (checkOfTwo check.1 check.2)).settle := exec_idFieldRead hp ..
    refine ⟨fun hn => by rw [hrun, takeId_of_no_pass hn], ?_⟩
    intro p r hpass ends searches sound here match' becomes
    have hsound : sound ↔ checkOf [cylinder, head, sector] = checkOfTwo check.1 check.2 := (checkOfTwo_eq_iff ..).symm
    have hsearch : searches → run = .next (s.searchId p r cylinder head sector (checkOfTwo check.1 check.2)).settle :=
      fun h => by rw [hrun, takeId_of_searching hpass _ _ _ _ h]
    have hother : searches → sound → ¬here → run = .next (s.wrongCylinder p r).settle :=
      fun h hs hc => by rw [hsearch h, searchId_of_other_cylinder _ _ _ _ _ _ _ (hsound.mp hs) hc]
    have hmatch : searches → sound → match' → run = .next (s.idMatched p r).settle :=
      fun h hs hm => by rw [hsearch h, searchId_of_match _ _ _ _ _ _ _ (hsound.mp hs) hm.1 hm.2]
    refine ⟨?_, ?_, ?_, ?_, ?_, ?_, ?_, ?_, ?_, ?_, ?_⟩
    · intro h hs
      rw [hsearch h, searchId_of_bad_check _ _ _ _ _ _ _ (mt hsound.mpr hs)]
    · intro h hs hc hm
      rw [hsearch h, searchId_of_other_sector _ _ _ _ _ _ _ (hsound.mp hs) hc (fun hhs => hm ⟨hc, hhs⟩)]
    · intro h hs hc hw
      exact (hother h hs hc).trans (by rw [wrongCylinder_of_first _ _ _ hw]; rfl)
    · intro h hs hc hw
      exact (hother (.inl h) hs hc).trans (by rw [wrongCylinder_of_second _ _ _ hw]; simp [searchCause, h])
    · intro h hm hs hc hw
      exact (hother (.inr ⟨h, hm⟩) hs hc).trans (by rw [wrongCylinder_of_second _ _ _ hw]; simp [searchCause, h])
    · intro h hs hm
      have hid := hmatch (.inl h) hs hm
      refine ⟨fun ho => ?_, fun ho hw => ?_, fun ho hw => ?_⟩
      · exact hid.trans (by rw [idMatched_of_read _ _ _ h ho]; rfl)
      · exact hid.trans (by rw [idMatched_of_protected _ _ _ h ho hw])
      · exact hid.trans (by rw [idMatched_of_write _ _ _ h ho hw]; rfl)
    · intro h hm hs hm'
      exact (hmatch (.inr ⟨h, hm⟩) hs hm').trans (by rw [idMatched_of_readBack _ _ _ h]; rfl)
    · intro h hm
      exact hrun.trans (by rw [takeId_of_matched hpass _ _ _ _ h hm])
    · intro h ho
      exact hrun.trans (by rw [takeId_of_read_transfer hpass _ _ _ _ h ho])
    · intro h ho
      rw [hrun, takeId_of_write_transfer hpass _ _ _ _ h ho]
    · intro h
      rw [hrun, takeId_of_format hpass _ _ _ _ h]
  · intro data check s hp read written bytes sound
    have hread : read = .next (s.takeData bytes (checkOfTwo check.1 check.2)).settle := exec_dataFieldRead hp ..
    have hwritten : written = .next s.fieldWritten.settle := exec_dataFieldWritten hp
    have hsound : sound ↔ checkOf bytes = checkOfTwo check.1 check.2 := (checkOfTwo_eq_iff ..).symm
    refine ⟨fun hn => ⟨by rw [hread, takeData_of_no_pass hn], by rw [hwritten, fieldWritten_of_no_pass hn]⟩, ?_⟩
    intro p r hpass
    refine ⟨?_, ?_, ?_, ?_, ?_, ?_⟩
    · intro h ho
      refine ⟨by rw [hwritten, fieldWritten_of_no_field hpass (.inr (.inl ho))], fun hs => ?_, fun hs => ?_⟩
      · rw [hread, takeData_of_read_transfer hpass _ _ h ho, if_pos (hsound.mp hs)]
      · rw [hread, takeData_of_read_transfer hpass _ _ h ho, if_neg (mt hsound.mpr hs)]
    · intro h hm
      refine ⟨fun hs => ?_, fun hs => ?_⟩
      · rw [hread, takeData_of_matched hpass _ _ h hm, if_pos ⟨hs.1, hsound.mp hs.2⟩]
      · rw [hread, takeData_of_matched hpass _ _ h hm, if_neg (fun hh => hs ⟨hh.1, hsound.mpr hh.2⟩)]
    · intro h
      rw [hread, takeData_of_not_awaited hpass _ _ h]
    · intro h ho
      rw [hwritten, fieldWritten_of_write hpass h ho]
    · intro h ho
      rw [hwritten, fieldWritten_of_writeVerify hpass h ho]
    · intro h
      rw [hwritten, fieldWritten_of_no_field hpass (h.imp id .inr)]

/-- Settles O48: a pulse reaches the pass of its own drive only, and there it is the step of the phase. -/
theorem indexPulsesMeetThePass : Obligations.IndexPulsesMeetThePass := by
  refine ⟨fun s d h => passPulse_of_no_pass h d, fun s d p r hpass hd => passPulse_of_other hpass d hd, ?_⟩
  intro s d p r hpass hd becomes
  subst hd
  have hown := passPulse_of_own hpass p.drive rfl
  refine ⟨?_, ?_, ?_, ?_, ?_, ?_, ?_, ?_, ?_⟩
  · exact fun h hi => hown.trans (indexInPass_of_search_first s p r h hi)
  · exact fun h hi => hown.trans (indexInPass_of_search_second s p r h hi)
  · exact fun h ho => hown.trans (indexInPass_of_read_transfer s p r h ho)
  · exact fun h ho => hown.trans (indexInPass_of_write_transfer s p r h ho)
  · exact fun h hm hi => hown.trans (indexInPass_of_readBack_first s p r h hm hi)
  · exact fun h hm => hown.trans (indexInPass_of_readBack_ends s p r h hm)
  · exact fun h hw => hown.trans (indexInPass_of_formatWait_protected s p r h hw)
  · exact fun h hw => hown.trans (indexInPass_of_formatWait s p r h hw)
  · exact fun h => hown.trans (indexInPass_of_formatWrite s p r h)

end Sys2Proof.Machine
end

section
namespace Sys2Proof.Machine

/-! ### Every command is steady (R12, R14, R100): its own tests and effects, over the operations of the Laws -/

variable {P : Desk → Prop} {T : Prop} {s₀ s : State}

theorem steady_settle (h : Steady P T s₀ s) : Steady P T s₀ s.settle := steady_runDrives (steady_servePools h)

theorem steady_powered (f : State → State) (hf : Steady P T s₀ (f s)) (h : Steady P T s₀ s) : Steady P T s₀ (s.powered f) := by
  unfold State.powered
  split
  · exact hf
  · exact h

theorem steady_ite {c : Prop} [Decidable c] {t u : State} (ht : Steady P T s₀ t) (hu : Steady P T s₀ u) :
    Steady P T s₀ (if c then t else u) := by
  split
  · exact ht
  · exact hu

/-! #### Events of the drives (R22 to R34, R67 to R73) -/

theorem DriveUnit.timerStopped_mount (u : DriveUnit) : u.timerStopped.mount = u.mount := rfl

theorem steady_takeEdge (h : Steady P T s₀ s) (d : DriveNo) (e : Edge) : Steady P T s₀ (s.takeEdge d e) := by
  unfold State.takeEdge
  split
  · exact steady_setDrive_mount (steady_leaveUse h ..) d _ (DriveUnit.timerStopped_mount _)
  · split
    · exact steady_setDrive_mount h d _ (by rfl)
    · exact h
  · split
    · exact steady_setDrive_mount h d _ (by rfl)
    · exact h

theorem steady_takeEdges (h : Steady P T s₀ s) (d : DriveNo) : Steady P T s₀ (s.takeEdges d) :=
  steady_foldl _ _ (fun _ e h => steady_takeEdge h d e) (steady_setDrive_mount h d _ (by rfl))

theorem steady_edge (h : Steady P T s₀ s) (d : DriveNo) (e : Edge) : Steady P T s₀ (s.edge d e) := by
  unfold State.edge
  split
  · exact h
  · exact steady_settle (steady_takeEdges (steady_setDrive_mount h d _ (by rfl)) d)

theorem steady_capture (h : Steady P T s₀ s) (d : DriveNo) : Steady P T s₀ (s.capture d) := by
  unfold State.capture
  dsimp only
  split
  · exact steady_setDrive_mount h d _ (by rfl)
  · split
    · have hc : Steady P T s₀ (s.setDrive d s.drives[d].captured) := steady_setDrive_mount h d _ (by rfl)
      split
      · exact steady_enterMounting hc d
      · exact hc
    · have hm : Steady P T s₀ (s.setDrive d s.drives[d].missed) := steady_setDrive_mount h d _ (by rfl)
      split
      · exact steady_speedFault hm d
      · exact hm

theorem DriveUnit.idles_mount (u : DriveUnit) (n : Nat) : (u.idles n).mount = u.mount := by
  unfold DriveUnit.idles
  dsimp only
  split <;> rfl

theorem steady_idleRevolution (h : Steady P T s₀ s) (d : DriveNo) : Steady P T s₀ (s.idleRevolution d) := by
  unfold State.idleRevolution
  dsimp only
  split
  · exact steady_setDrive_mount h d _ (DriveUnit.idles_mount ..)
  · exact h

theorem steady_setPass (h : Steady P T s₀ s) (p : Pass) : Steady P T s₀ (s.setPass p) := steady_setChannel h _

theorem steady_indexInPass (h : Steady P T s₀ s) (p : Pass) (r : SectorRequest) : Steady P T s₀ (s.indexInPass p r) := by
  unfold State.indexInPass
  split
  · split
    · exact steady_endPass h ..
    · exact steady_setPass h _
  · split
    · exact steady_endPass h ..
    · exact h
  · split
    · exact steady_endPass h ..
    · exact steady_setPass h _
  · split
    · exact steady_endPass h ..
    · exact steady_setChannel h _
  · exact steady_endPass h ..

theorem steady_passPulse (h : Steady P T s₀ s) (d : DriveNo) : Steady P T s₀ (s.passPulse d) := by
  unfold State.passPulse
  split
  · split
    · exact steady_indexInPass h _ _
    · exact h
  · exact h

theorem steady_pulse (h : Steady P T s₀ s) (d : DriveNo) : Steady P T s₀ (s.pulse d) := by
  unfold State.pulse
  split
  · exact steady_settle (steady_passPulse (steady_idleRevolution (steady_capture h d) d) d)
  · exact h

theorem steady_noIndex (h : Steady P T s₀ s) (d : DriveNo) : Steady P T s₀ (s.noIndex d) := by
  unfold State.noIndex
  split
  · exact steady_settle (steady_speedFault h d)
  · exact h

theorem DriveUnit.seekExpires_mount (u : DriveUnit) : u.seekExpires.mount = u.mount := by
  unfold DriveUnit.seekExpires
  split
  · split <;> rfl
  · rfl

theorem steady_recalExpires (h : Steady P T s₀ s) (d : DriveNo) : Steady P T s₀ (s.recalExpires d) := by
  unfold State.recalExpires
  dsimp only
  split
  · split
    · exact steady_setDrive_mount h d _ (by rfl)
    · split
      · exact steady_trackZeroFault h d
      · exact steady_setDrive_mount h d _ (by rfl)
  · exact h

theorem steady_settles (h : Steady P T s₀ s) (d : DriveNo) : Steady P T s₀ (s.settles d) := by
  unfold State.settles
  dsimp only
  split
  · exact steady_setDrive_mount h d _ (by rfl)
  · exact steady_afterRecal (steady_setDrive_mount h d _ (by rfl)) d
  · exact h

theorem DriveUnit.headLoads_mount (u : DriveUnit) : u.headLoads.mount = u.mount := by
  unfold DriveUnit.headLoads
  split <;> rfl

theorem steady_idMatched (h : Steady P T s₀ s) (p : Pass) (r : SectorRequest) : Steady P T s₀ (s.idMatched p r) := by
  unfold State.idMatched
  split
  · exact steady_setPass h _
  · split
    · exact steady_setPass h _
    · split
      · exact steady_endPass h ..
      · exact steady_setChannel h _

theorem steady_wrongCylinder (h : Steady P T s₀ s) (p : Pass) (r : SectorRequest) : Steady P T s₀ (s.wrongCylinder p r) := by
  unfold State.wrongCylinder
  split
  · exact steady_endPass h ..
  · exact steady_setPass h _

theorem steady_searchId (h : Steady P T s₀ s) (p : Pass) (r : SectorRequest) (cylinder head sector : Byte) (check : Check) :
    Steady P T s₀ (s.searchId p r cylinder head sector check) := by
  unfold State.searchId
  split
  · exact h
  · split
    · exact steady_wrongCylinder h p r
    · split
      · exact steady_idMatched h p r
      · exact h

theorem steady_takeId (h : Steady P T s₀ s) (cylinder head sector : Byte) (check : Check) :
    Steady P T s₀ (s.takeId cylinder head sector check) := by
  unfold State.takeId
  split
  · exact h
  · split
    · exact steady_searchId h ..
    · split
      · exact steady_endPass h ..
      · exact h
    · split
      · exact steady_endPass h ..
      · exact steady_searchId h ..
    · exact h
    · exact h

theorem steady_takeData (h : Steady P T s₀ s) (data : List Byte) (check : Check) : Steady P T s₀ (s.takeData data check) := by
  unfold State.takeData
  split
  · exact h
  · split
    · split
      · exact steady_endPass (steady_fillPage h _ _) ..
      · exact h
    · split
      · exact steady_endPass h ..
      · exact h
    · exact h

theorem steady_fieldWritten (h : Steady P T s₀ s) : Steady P T s₀ s.fieldWritten := by
  unfold State.fieldWritten
  split
  · exact h
  · split
    · exact steady_endPass h ..
    · exact steady_setChannel h _
    · exact h

theorem queueSound_nil : queueSound [] := ⟨Nat.zero_le _, nofun, nofun⟩

/-! #### Requests of a desk that may be answered (R171) -/

section Requests
variable (h : Steady P False s₀ s) {desk : Desk} (ho : MayAnswer P s₀ desk)
include h ho

theorem steady_refuseKind (k : Kind) (r : Reason) : Steady P False s₀ (s.refuseKind desk k r) := steady_refuse h ho ..

theorem steady_doneKind (k : Kind) (fields : List Byte) : Steady P False s₀ (s.doneKind desk k fields) := steady_done h ho ..

theorem steady_taking (k : Kind) (fields : List Byte) {own : State → State} (hown : Steady P False s₀ (own s)) :
    Steady P False s₀ (s.taking desk k fields own) := by
  unfold State.taking
  split
  · exact steady_refuse h ho ..
  · exact hown

/-! ##### CANCEL and the desk reset (R172, R181) -/

omit ho in
theorem steady_cancelEffect (w : Waiting) : Steady P False s₀ (s.cancelEffect desk w) := by
  cases w with
  | get | put => exact steady_leaveWaiters h _
  | file n =>
    show Steady P False s₀ (s.reopen desk n)
    unfold State.reopen
    split
    · exact steady_setHandle h ..
    · exact h
  | spike => exact steady_takeBackRemoval h _ _
  | unmount => exact steady_setUnmounting h _ _

omit ho in
theorem steady_afterCancelled (w : Waiting) : Steady P False s₀ (s.afterCancelled desk w) := by
  cases w with
  | get => exact steady_readAhead h _ _
  | put | file | spike | unmount => exact h

theorem steady_cancel : Steady P False s₀ (s.cancel desk) := by
  unfold State.cancel
  split
  · exact steady_done h ho ..
  · rename_i w _
    split
    · have he := steady_setInProgress (steady_cancelEffect h (desk := desk) w) ho none
      exact steady_settle (steady_done (steady_afterCancelled (steady_refuse he ho ..) w) ho ..)
    · exact steady_refuseKind h ho ..

omit ho in
theorem steady_dropEffect (w : Waiting) : Steady P False s₀ (s.dropEffect desk w) := by
  cases w with
  | get | put => exact steady_leaveWaiters h _
  | file => exact h
  | spike =>
    unfold State.dropEffect
    dsimp only
    split
    · exact h
    · exact steady_takeBackRemoval h _ _
  | unmount => exact steady_setUnmounting h _ _

theorem steady_dropInProgress : Steady P False s₀ (s.dropInProgress desk) := by
  unfold State.dropInProgress
  split
  · exact h
  · exact steady_setInProgress (steady_dropEffect h _) ho _

omit ho in
theorem steady_endHandle (n : HandleNo) : Steady P False s₀ (s.endHandle desk n) := by
  unfold State.endHandle
  split
  · exact h
  · exact steady_closeRead h ..
  · split
    · exact steady_setHandle h ..
    · exact steady_dropWrite h ..
  · exact steady_setHandle h ..

omit ho in
theorem steady_releaseHolds : Steady P False s₀ (s.releaseHolds desk) :=
  steady_foldl _ _ (fun _ d h => steady_foldl _ _ (fun _ n h => steady_releaseWithEvent h d n) h) h

theorem steady_deskReset : Steady P False s₀ (s.deskReset desk) :=
  steady_setDesk (steady_releaseHolds (steady_endHandle (steady_endHandle (steady_dropInProgress h ho) 0) 1)) desk _
    (fun _ => queueSound_nil) (.inl ho)

/-! ##### News and listings (R107, R108, R117 to R119, R154 to R159) -/

/-- A change of a desk that may be answered which leaves its notices. -/
theorem steady_setDesk_notices (x : DeskContext) (hx : x.notices = s.desks[desk].notices) : Steady P False s₀ (s.setDesk desk x) :=
  steady_setDesk h desk x (fun hq => hx ▸ hq desk) (.inl ho)

theorem steady_setWatch (i : WatchNo) (w : Option Watch) : Steady P False s₀ (s.setWatch desk i w) :=
  steady_setDesk_notices h ho _ rfl

theorem steady_watchOwn (fields : List Byte) : Steady P False s₀ (s.watchOwn desk fields) := by
  unfold State.watchOwn
  split
  · split
    · exact steady_refuseKind h ho ..
    · split
      · exact steady_refuseKind h ho ..
      · split
        · exact steady_refuseKind h ho ..
        · exact steady_doneKind (steady_setWatch h ho ..) ho ..
  · exact steady_refuseKind h ho ..

theorem steady_unwatchOwn (fields : List Byte) : Steady P False s₀ (s.unwatchOwn desk fields) := by
  unfold State.unwatchOwn
  split
  · split
    · exact steady_refuseKind h ho ..
    · exact steady_doneKind (steady_setWatch h ho ..) ho ..
  · exact steady_refuseKind h ho ..

theorem steady_subscribeOwn (fields : List Byte) : Steady P False s₀ (s.subscribeOwn desk fields) := by
  unfold State.subscribeOwn
  split
  · split
    · exact steady_doneKind (steady_setDesk_notices h ho _ (by rfl)) ho ..
    · exact steady_refuseKind h ho ..
  · exact steady_refuseKind h ho ..

omit h ho in
/-- The oldest notice taken leaves the queue sound (R158, R159). -/
theorem queueSound_tail {n : Notice} {ns : List Notice} (hq : queueSound (n :: ns)) : queueSound ns := by
  obtain ⟨hlen, hlast, hcount⟩ := hq
  refine ⟨Nat.le_of_succ_le hlen, fun m hm => hlast m ?_, fun m hm => hcount m (List.mem_cons_of_mem _ hm)⟩
  cases ns with
  | nil => exact absurd hm List.not_mem_nil
  | cons k ks => exact List.mem_cons_of_mem _ hm

theorem steady_takeNoticeOwn : Steady P False s₀ (s.takeNoticeOwn desk) := by
  unfold State.takeNoticeOwn
  split
  · exact steady_done h ho ..
  · rename_i heq
    exact steady_done (steady_setDesk h desk _ (fun hq => queueSound_tail (heq ▸ hq desk)) (.inl ho)) ho ..

theorem steady_listOwn (fields : List Byte) : Steady P False s₀ (s.listOwn desk fields) := by
  unfold State.listOwn
  split
  · split
    · exact steady_refuseKind h ho ..
    · split
      · exact steady_refuseKind h ho ..
      · exact steady_done h ho ..
  · exact steady_refuseKind h ho ..

theorem steady_listOnOwn : Steady P False s₀ (s.listOnOwn desk) := by
  unfold State.listOnOwn
  split
  · split
    · exact steady_refuseKind h ho ..
    · split
      · exact steady_done h ho ..
      · exact steady_refuseKind h ho ..
  · exact steady_refuseKind h ho ..

omit ho in
theorem steady_takeHoldWithEvent (d : DriveNo) (n : SlotNo) : Steady P False s₀ (s.takeHoldWithEvent d n desk) :=
  steady_raise (steady_takeHold h d n desk) _

theorem steady_holdOwn (fields : List Byte) : Steady P False s₀ (s.holdOwn desk fields) := by
  unfold State.holdOwn
  split
  · split
    · exact steady_refuseKind h ho ..
    · unfold State.holdStory
      dsimp only
      split
      · exact steady_refuseKind h ho ..
      · split
        · exact steady_refuseKind h ho ..
        · split
          · exact steady_refuseKind h ho ..
          · split
            · exact steady_doneKind h ho ..
            · exact steady_doneKind (steady_takeHoldWithEvent h _ _) ho ..
  · exact steady_refuseKind h ho ..

theorem steady_releaseOwn (fields : List Byte) : Steady P False s₀ (s.releaseOwn desk fields) := by
  unfold State.releaseOwn
  split
  · split
    · exact steady_refuseKind h ho ..
    · unfold State.releaseStory
      split
      · exact steady_refuseKind h ho ..
      · split
        · exact steady_refuseKind h ho ..
        · exact steady_doneKind (steady_releaseWithEvent h _ _) ho ..
  · exact steady_refuseKind h ho ..

theorem steady_spikeOwn (fields : List Byte) : Steady P False s₀ (s.spikeOwn desk fields) := by
  unfold State.spikeOwn
  split
  · dsimp only
    split
    · exact steady_refuse h ho ..
    · split
      · exact steady_refuse h ho ..
      · exact steady_settle (steady_setInProgress (steady_placeChange h _ _ _) ho _)
  · exact steady_refuseKind h ho ..

/-! ##### Stories (R122 to R143) -/

theorem steady_openReadOwn (fields : List Byte) : Steady P False s₀ (s.openReadOwn desk fields) := by
  unfold State.openReadOwn
  split
  · dsimp only
    split
    · exact steady_refuse h ho ..
    · split
      · exact steady_refuse h ho ..
      · exact steady_settle (steady_readAhead (steady_done (steady_setHandle (steady_setSlot h ..) ..) ho ..) ..)
  · exact steady_refuseKind h ho ..

theorem steady_getOpen (n : HandleNo) (r : ReadHandle) (on : Bool) (offset count : Nat) :
    Steady P False s₀ (s.getOpen desk n r on offset count) := by
  unfold State.getOpen
  split
  · exact steady_refuseKind h ho ..
  · split
    · exact steady_settle (steady_answerGet h ho ..)
    · dsimp only
      split
      · exact steady_settle (steady_answerGet h ho ..)
      · exact steady_settle (steady_askForGet (steady_setInProgress h ho _) ..)

theorem steady_getOf (on : Bool) (n : HandleNo) (offset count : Nat) : Steady P False s₀ (s.getOf desk on n offset count) := by
  unfold State.getOf
  dsimp only
  split
  · exact steady_getOpen h ho ..
  · exact steady_fail h ho ..
  · exact steady_refuseKind h ho ..
  · exact steady_refuseKind h ho ..

theorem steady_getOwn (fields : List Byte) : Steady P False s₀ (s.getOwn desk fields) := by
  unfold State.getOwn
  split
  · split
    · exact steady_refuseKind h ho ..
    · exact steady_getOf h ho ..
  · exact steady_refuseKind h ho ..

theorem steady_getOnOwn (fields : List Byte) : Steady P False s₀ (s.getOnOwn desk fields) := by
  unfold State.getOnOwn
  split
  · exact steady_getOf h ho ..
  · exact steady_refuseKind h ho ..
  · exact steady_refuseKind h ho ..

theorem steady_closeOwn (fields : List Byte) : Steady P False s₀ (s.closeOwn desk fields) := by
  unfold State.closeOwn
  split
  · split
    · exact steady_refuseKind h ho ..
    · unfold State.closeOf
      split
      · exact steady_settle (steady_doneKind (steady_closeRead h ..) ho ..)
      · exact steady_doneKind (steady_setHandle h ..) ho ..
      · exact steady_refuseKind h ho ..
      · exact steady_refuseKind h ho ..
  · exact steady_refuseKind h ho ..

omit ho in
theorem steady_takeStory (d : DriveNo) (n : SlotNo) (o : WriteOrder) : Steady P False s₀ (s.takeStory desk d n o) := by
  unfold State.takeStory
  split
  · exact steady_takeHold (steady_setSlot h ..) ..
  · split
    · exact h
    · exact steady_takeHoldWithEvent h _ _

/-- A reservation granted on the drive's image marks data sectors only (R101). -/
theorem steady_openWrite {d : DriveNo} {img : Image} (hi : s.images[d] = some img) (n : SlotNo) (o : WriteOrder) {es : List Extent}
    (hes : img.reserve (sectorsFor o.length) = .ok es) (lowered : Bool) (k : HandleNo) :
    Steady P False s₀ (s.openWrite desk d img n o es lowered k) := by
  have hmap : Steady P False s₀ (s.setImage d (some (img.markAllocated (sectorsOf es)))) :=
    steady_setImage_of h hi (fun hm => Image.markAllocated_sound hm _ (fun _ hl => sectorsOf_lt (Image.reserve_within hm hes) hl))
  exact steady_done (steady_setHandle (steady_takeStory hmap ..) ..) ho ..

omit h ho in
theorem imageOf_eq_some {b : Byte} {d : DriveNo} {img : Image} (hi : s.imageOf b = some (d, img)) :
    driveOf b = some d ∧ s.images[d] = some img := by
  unfold State.imageOf at hi
  split at hi
  · cases hi
  · rename_i e hd
    obtain ⟨i, himg, heq⟩ := Option.map_eq_some_iff.1 hi
    cases heq
    exact ⟨hd, himg⟩

theorem steady_openWriteOn {d : DriveNo} {img : Image} (hi : s.images[d] = some img) (o : WriteOrder) (lowered : Bool) :
    Steady P False s₀ (s.openWriteOn desk d img o lowered) := by
  unfold State.openWriteOn
  dsimp only
  split
  · exact steady_refuse h ho ..
  · split
    · exact steady_refuse h ho ..
    · split
      · exact steady_refuse h ho ..
      · split
        · exact steady_refuse h ho ..
        · split
          · exact steady_refuse h ho ..
          · rename_i hes
            exact steady_openWrite h ho hi _ _ hes ..

theorem steady_openWriteOwn (fields : List Byte) : Steady P False s₀ (s.openWriteOwn desk fields) := by
  unfold State.openWriteOwn
  split
  · dsimp only
    split
    · exact steady_refuse h ho ..
    · split
      · exact steady_refuse h ho ..
      · split
        · exact steady_refuse h ho ..
        · split
          · exact steady_refuse h ho ..
          · rename_i hi
            exact steady_openWriteOn h ho (imageOf_eq_some hi).2 ..
  · exact steady_refuseKind h ho ..

theorem steady_putNew (n : HandleNo) (w : WriteHandle) (on : Bool) (offset : Nat) (data : List Byte) :
    Steady P False s₀ (s.putNew desk n w on offset data) := by
  unfold State.putNew
  split
  · exact steady_storePut h ho ..
  · split
    · exact steady_storePut (steady_holdPage h _ _) ho ..
    · exact steady_setPool (steady_setInProgress h ho _) _

theorem steady_putOf (on : Bool) (n : HandleNo) (offset : Nat) (data : List Byte) :
    Steady P False s₀ (s.putOf desk on n offset data) := by
  unfold State.putOf
  dsimp only
  split
  · split
    · unfold State.putOpen
      dsimp only
      split
      · exact steady_refuseKind h ho ..
      · split
        · exact steady_refuseKind h ho ..
        · split
          · exact steady_done h ho ..
          · exact steady_settle (steady_putNew h ho ..)
    · exact steady_refuseKind h ho ..
    · exact steady_fail h ho ..
  · exact steady_fail h ho ..
  · exact steady_refuseKind h ho ..
  · exact steady_refuseKind h ho ..

theorem steady_putOwn (fields : List Byte) : Steady P False s₀ (s.putOwn desk fields) := by
  unfold State.putOwn
  split
  · split
    · exact steady_refuseKind h ho ..
    · exact steady_putOf h ho ..
  · exact steady_refuseKind h ho ..

theorem steady_putOnOwn (fields : List Byte) : Steady P False s₀ (s.putOnOwn desk fields) := by
  unfold State.putOnOwn
  split
  · exact steady_putOf h ho ..
  · exact steady_refuseKind h ho ..

theorem steady_fileOpen (n : HandleNo) (w : WriteHandle) (check : Check) (keep : Byte) :
    Steady P False s₀ (s.fileOpen desk n w check keep) := by
  unfold State.fileOpen
  split
  · exact steady_refuseKind h ho ..
  · exact steady_settle (steady_placeVersion (steady_setInProgress (steady_setHandle h ..) ho _) ..)

theorem steady_fileOwn (fields : List Byte) : Steady P False s₀ (s.fileOwn desk fields) := by
  unfold State.fileOwn
  split
  · split
    · exact steady_refuseKind h ho ..
    · unfold State.fileOf
      split
      · split
        · exact steady_fileOpen h ho ..
        · exact steady_refuseKind h ho ..
        · exact steady_fail h ho ..
      · exact steady_fail h ho ..
      · exact steady_refuseKind h ho ..
      · exact steady_refuseKind h ho ..
  · exact steady_refuseKind h ho ..

theorem steady_dropOwn (fields : List Byte) : Steady P False s₀ (s.dropOwn desk fields) := by
  unfold State.dropOwn
  split
  · split
    · exact steady_refuseKind h ho ..
    · unfold State.dropOf
      split
      · split
        · exact steady_refuseKind h ho ..
        · exact steady_settle (steady_doneKind (steady_dropWrite h ..) ho ..)
        · exact steady_settle (steady_doneKind (steady_dropWrite h ..) ho ..)
      · exact steady_doneKind (steady_setHandle h ..) ho ..
      · exact steady_refuseKind h ho ..
      · exact steady_refuseKind h ho ..
  · exact steady_refuseKind h ho ..

/-! ##### Supervision (R183 to R193) -/

omit h ho in
theorem le_clamp {lo hi : Nat} (hle : lo ≤ hi) (n : Nat) : lo ≤ clamp lo hi n := by
  unfold clamp
  split
  · exact Nat.le_refl lo
  · split <;> omega

omit h ho in
theorem clamp_le {lo hi : Nat} (hle : lo ≤ hi) (n : Nat) : clamp lo hi n ≤ hi := by
  unfold clamp
  split
  · exact hle
  · split <;> omega

omit h ho in
/-- What a DRIVE-SET stores is in the ranges of R41. -/
theorem settingsOf_inRange {body : List Byte} {t : Settings} (ht : settingsOf body = some t) : t.inRange := by
  unfold settingsOf at ht
  split at ht
  · cases ht
    refine ⟨⟨le_clamp ?_ _, clamp_le ?_ _⟩, clamp_le (lo := 0) ?_ _, clamp_le (lo := 0) ?_ _, clamp_le (lo := 0) ?_ _,
      ⟨le_clamp ?_ _, clamp_le ?_ _⟩, ⟨le_clamp ?_ _, clamp_le ?_ _⟩⟩
    all_goals decide
  · cases ht

omit ho in
theorem steady_setSettings (d : DriveNo) {t : Settings} (ht : t.inRange) : Steady P False s₀ (s.setSettings d t) :=
  h.trans ⟨rfl, rfl, rfl, nofun,
    fun ⟨hsup, hquota, hset⟩ => ⟨hsup, hquota, forall_set s.settings d t (fun _ x => x.inRange) ht hset⟩, id, id,
    fun _ _ _ => ⟨rfl, rfl, rfl, rfl, rfl, rfl⟩⟩

omit h ho in
theorem DriveUnit.disabled_mount (u : DriveUnit) : u.disabled.mount = u.mount := rfl

omit ho in
theorem steady_applyEnabled (d : DriveNo) (t : Settings) : Steady P False s₀ (s.applyEnabled d t) := by
  unfold State.applyEnabled
  split
  · split
    · refine steady_setDrive_mount h d _ ?_
      unfold DriveUnit.enabled
      dsimp only
      split <;> rfl
    · exact h
  · split
    · exact h
    · exact steady_setDrive_mount (steady_leaveUse h ..) d _ (DriveUnit.disabled_mount _)

theorem steady_driveSetOwn (fields : List Byte) : Steady P False s₀ (s.driveSetOwn desk fields) := by
  unfold State.driveSetOwn
  split
  · split
    · exact steady_refuseKind h ho ..
    · rename_i ht
      exact steady_settle (steady_doneKind (steady_applyEnabled (steady_setSettings h _ (settingsOf_inRange ht)) ..) ho ..)
    · exact steady_refuseKind h ho ..
  · exact steady_refuseKind h ho ..

omit h ho in
/-- Rights and a quota that a DESK-SET stores, with a supervisor left, keep the settings legal (R175, R184). -/
theorem legalSettings_setDeskSettings {target : Desk} {t : DeskSettings} (hquota : 1 ≤ t.quota ∧ t.quota ≤ 56)
    (hkeeps : keepsSupervisor s.deskSettings target t = true) (hl : s.legalSettings) :
    (s.setDeskSettings target t).legalSettings := by
  obtain ⟨_, hquotas, hset⟩ := hl
  obtain ⟨desk, _, hsup⟩ := List.any_eq_true.1 hkeeps
  exact ⟨⟨desk, hsup⟩, forall_set s.deskSettings target t (fun _ x => 1 ≤ x.quota ∧ x.quota ≤ 56) hquota hquotas, hset⟩

theorem steady_deskSetOwn (fields : List Byte) : Steady P False s₀ (s.deskSetOwn desk fields) := by
  unfold State.deskSetOwn
  split
  · split
    · exact steady_refuseKind h ho ..
    · rename_i rights quota rate _ target _
      dsimp only
      split
      · rename_i hkeeps
        have hset : Steady P False s₀ (s.setDeskSettings target (deskSettingsOf rights quota rate)) :=
          h.trans ⟨rfl, rfl, rfl, nofun, legalSettings_setDeskSettings ⟨le_clamp (by decide) _, clamp_le (by decide) _⟩ hkeeps, id, id,
            fun _ _ _ => ⟨rfl, rfl, rfl, rfl, rfl, rfl⟩⟩
        exact steady_settle (steady_continueDesk (steady_queueReply hset ho _) ho _)
      · exact steady_refuseKind h ho ..
  · exact steady_refuseKind h ho ..

theorem steady_mountOwn (fields : List Byte) : Steady P False s₀ (s.mountOwn desk fields) := by
  unfold State.mountOwn
  split
  · split
    · exact steady_refuseKind h ho ..
    · split
      · exact steady_doneKind (steady_setDrive_mount h _ _ (by rfl)) ho ..
      · exact steady_refuseKind h ho ..
  · exact steady_refuseKind h ho ..

omit ho in
theorem steady_forceOff (d : DriveNo) : Steady P False s₀ (s.forceOff d) := by
  refine steady_foldl _ _ (fun s p hs => ?_) h
  split
  · exact steady_loseHandle hs ..
  · exact hs

theorem steady_startUnmount (d : DriveNo) (force : Bool) : Steady P False s₀ (s.startUnmount desk d force) := by
  unfold State.startUnmount
  dsimp only
  refine steady_settle (steady_setInProgress ?_ ho _)
  split
  · exact steady_forceOff (steady_setUnmounting h d true) d
  · exact steady_setUnmounting h d true

theorem steady_unmountOwn (fields : List Byte) : Steady P False s₀ (s.unmountOwn desk fields) := by
  unfold State.unmountOwn
  split
  · split
    · exact steady_refuseKind h ho ..
    · split
      · exact steady_refuseKind h ho ..
      · split
        · exact steady_refuseKind h ho ..
        · split
          · exact steady_refuseKind h ho ..
          · exact steady_startUnmount h ho ..
  · exact steady_refuseKind h ho ..

omit ho in
theorem steady_loseWriter (holder : Desk) (d : DriveNo) (n : SlotNo) : Steady P False s₀ (s.loseWriter holder d n) := by
  refine steady_foldl _ _ (fun s k hs => ?_) h
  split
  · exact steady_loseHandle hs ..
  · exact hs

theorem steady_breakHold (holder : Desk) (d : DriveNo) (n : SlotNo) : Steady P False s₀ (s.breakHold desk holder d n) :=
  steady_settle (steady_doneKind (steady_raise (steady_loseWriter
    (steady_post (steady_dropHold h d n) holder (by rfl) (by trivial)) holder d n) _) ho ..)

theorem steady_breakHoldOwn (fields : List Byte) : Steady P False s₀ (s.breakHoldOwn desk fields) := by
  unfold State.breakHoldOwn
  split
  · split
    · exact steady_refuseKind h ho ..
    · split
      · exact steady_refuseKind h ho ..
      · split
        · exact steady_refuseKind h ho ..
        · exact steady_breakHold h ho ..
  · exact steady_refuseKind h ho ..

omit ho in
theorem steady_startFormat (d : DriveNo) (name : Chars) (skew : Nat) (verify : Bool) :
    Steady P False s₀ (s.startFormat d name skew verify) := by
  refine steady_formatAsks ?_ _
  unfold State.enterFormatting
  dsimp only
  have hd := steady_setDrive_clear (steady_discardImage h d) d
    { (s.discardImage d).drives[d].enters .formatting none with isProtected := false, damaged := false, mount := .clear } rfl
  split
  · exact steady_startRecal hd d
  · exact hd

theorem steady_formatOwn (fields : List Byte) : Steady P False s₀ (s.formatOwn desk fields) := by
  unfold State.formatOwn
  split
  · split
    · exact steady_refuseKind h ho ..
    · split
      · exact steady_refuseKind h ho ..
      · split
        · exact steady_refuseKind h ho ..
        · split
          · exact steady_refuseKind h ho ..
          · split
            · exact steady_refuseKind h ho ..
            · exact steady_settle (steady_doneKind (steady_startFormat h ..) ho ..)
  · exact steady_refuseKind h ho ..

theorem steady_tallyDrive (d : DriveNo) (clear : Bool) : Steady P False s₀ (s.tallyDrive desk d clear) := by
  refine steady_doneKind ?_ ho ..
  split
  · exact steady_setDriveTally h ..
  · exact h

theorem steady_tallyDesk (target : Desk) (clear : Bool) : Steady P False s₀ (s.tallyDesk desk target clear) := by
  refine steady_doneKind ?_ ho ..
  split
  · exact steady_setDeskTally h ..
  · exact h

theorem steady_tallyOwn (fields : List Byte) : Steady P False s₀ (s.tallyOwn desk fields) := by
  unfold State.tallyOwn
  split
  · split
    · exact steady_refuseKind h ho ..
    · split
      · split
        · exact steady_refuseKind h ho ..
        · exact steady_tallyDrive h ho ..
      · split
        · exact steady_refuseKind h ho ..
        · exact steady_tallyDesk h ho ..
  · exact steady_refuseKind h ho ..

omit ho in
theorem steady_restartDrive (d : DriveNo) : Steady P False s₀ (s.restartDrive d) := by
  unfold State.restartDrive
  split
  · exact steady_setDrive_clear (steady_setSched (steady_abortPass h d) ..) d _ (by rfl)
  · split
    · refine steady_tearAround (steady_setDrive_clear (steady_setPage ?_ ..) d _ (by rfl)) d
      exact steady_clearWorkList (steady_leaveWaitList (steady_setPass h _) d) d
    · exact steady_setDrive_clear (steady_tearDown h ..) d _ (by rfl)

omit h ho in
/-- RESTART resets every desk, so each may be answered (R193). -/
theorem steady_restartParts (h : Steady P False s₀ s) (hall : ∀ e, MayAnswer P s₀ e) : Steady P False s₀ s.restartParts := by
  have hdesks := steady_foldl allDesks (fun s desk => State.deskReset s desk) (fun _ e hs => steady_deskReset hs (hall e)) h
  exact steady_setSequencer (steady_setPool
    (steady_foldl allDrives (fun s d => State.restartDrive s d) (fun _ d hs => steady_restartDrive hs d) hdesks) _) _

/-! ##### A request by its kind (R168, R169) -/

/-- What a request of a kind does once it has passed the tests before the kind's own (R171). -/
def Kind.own (k : Kind) (desk : Desk) (fields : List Byte) (s : State) : State :=
  match k with
  | .idle => s.done desk Kind.idle.code noFlags [] .keep
  | .status => s.done desk Kind.status.code noFlags (s.statusBytes desk) .keep
  | .cancel => s.cancel desk
  | .list => s.listOwn desk fields
  | .listOn => s.listOnOwn desk
  | .openRead => s.openReadOwn desk fields
  | .openWrite => s.openWriteOwn desk fields
  | .put => s.putOwn desk fields
  | .putOn => s.putOnOwn desk fields
  | .get => s.getOwn desk fields
  | .getOn => s.getOnOwn desk fields
  | .file => s.fileOwn desk fields
  | .drop => s.dropOwn desk fields
  | .close => s.closeOwn desk fields
  | .hold => s.holdOwn desk fields
  | .release => s.releaseOwn desk fields
  | .spike => s.spikeOwn desk fields
  | .watch => s.watchOwn desk fields
  | .unwatch => s.unwatchOwn desk fields
  | .subscribe => s.subscribeOwn desk fields
  | .takeNotice => s.takeNoticeOwn desk
  | .driveSet => s.driveSetOwn desk fields
  | .deskSet => s.deskSetOwn desk fields
  | .mount => s.mountOwn desk fields
  | .unmount => s.unmountOwn desk fields
  | .format => s.formatOwn desk fields
  | .breakHold => s.breakHoldOwn desk fields
  | .tally => s.tallyOwn desk fields
  | .restart => (s.doneKind desk .restart []).restartParts

omit h ho in
theorem takeKind_eq_taking (k : Kind) (desk : Desk) (fields : List Byte) (s : State) :
    takeKind k desk fields s = s.taking desk k fields (k.own desk fields) := by
  cases k <;> rfl

/-- The own effect of a request of any kind is steady; RESTART's where every desk may be answered. -/
theorem steady_own (k : Kind) (fields : List Byte) (hall : k = .restart → ∀ e, MayAnswer P s₀ e) :
    Steady P False s₀ (k.own desk fields s) := by
  cases k
  all_goals dsimp only [Kind.own]
  case idle => exact steady_done h ho ..
  case status => exact steady_done h ho ..
  case cancel => exact steady_cancel h ho
  case list => exact steady_listOwn h ho fields
  case listOn => exact steady_listOnOwn h ho
  case openRead => exact steady_openReadOwn h ho fields
  case openWrite => exact steady_openWriteOwn h ho fields
  case put => exact steady_putOwn h ho fields
  case putOn => exact steady_putOnOwn h ho fields
  case get => exact steady_getOwn h ho fields
  case getOn => exact steady_getOnOwn h ho fields
  case file => exact steady_fileOwn h ho fields
  case drop => exact steady_dropOwn h ho fields
  case close => exact steady_closeOwn h ho fields
  case hold => exact steady_holdOwn h ho fields
  case release => exact steady_releaseOwn h ho fields
  case spike => exact steady_spikeOwn h ho fields
  case watch => exact steady_watchOwn h ho fields
  case unwatch => exact steady_unwatchOwn h ho fields
  case subscribe => exact steady_subscribeOwn h ho fields
  case takeNotice => exact steady_takeNoticeOwn h ho
  case driveSet => exact steady_driveSetOwn h ho fields
  case deskSet => exact steady_deskSetOwn h ho fields
  case mount => exact steady_mountOwn h ho fields
  case unmount => exact steady_unmountOwn h ho fields
  case format => exact steady_formatOwn h ho fields
  case breakHold => exact steady_breakHoldOwn h ho fields
  case tally => exact steady_tallyOwn h ho fields
  case restart => exact steady_restartParts (steady_doneKind h ho ..) (hall rfl)

theorem steady_takeKind (k : Kind) (fields : List Byte) (hall : k = .restart → ∀ e, MayAnswer P s₀ e) :
    Steady P False s₀ (takeKind k desk fields s) := by
  rw [takeKind_eq_taking]
  exact steady_taking h ho k fields (steady_own h ho k fields hall)

theorem steady_takeKindByte (b : Byte) (fields : List Byte) (hall : ∀ e, MayAnswer P s₀ e) :
    Steady P False s₀ (takeKindByte b desk fields s) := by
  unfold takeKindByte
  split
  · exact steady_takeKind h ho _ _ (fun _ => hall)
  · exact steady_refuse h ho ..

end Requests

/-! #### Lines (R160 to R167) -/

section Lines
variable (h : Steady P False s₀ s) (hall : ∀ e, MayAnswer P s₀ e)
include h hall

theorem steady_onLines {t : State} (ht : s.OnLines t) : Steady P False s₀ t := by
  have hparts : t = { s with lines := t.lines, deskTallies := t.deskTallies } := ht
  rw [hparts]
  exact {
    powerGood := h.powerGood, tick := h.tick, pending := h.pending, standing := nofun, legal := h.legal, queues := h.queues
    maps := h.maps, idle := fun e he hn => absurd hn (hall e he) }

theorem steady_takeBody (desk : Desk) (body : List Byte) : Steady P False s₀ (takeBody desk body s) := by
  cases body with
  | nil => exact h
  | cons b fields => exact steady_takeKindByte h (hall desk) b fields hall

theorem steady_judge (desk : Desk) (len : Nat) (bytes : List Byte) (check : Check) :
    Steady P False s₀ (s.judge desk len bytes check) := by
  unfold State.judge
  split
  · exact steady_onLines h hall (discard_onLines ..)
  · split
    · exact steady_onLines h hall (discard_onLines ..)
    · exact steady_takeBody (steady_onLines h hall (setLine_onLines ..)) hall ..

theorem steady_takeByte (desk : Desk) (b : Byte) : Steady P False s₀ (s.takeByte desk b) := by
  unfold State.takeByte
  dsimp only
  split
  · exact h
  · split
    · exact steady_onLines h hall (setLine_onLines ..)
    · exact h
  · split
    · exact steady_onLines h hall (setLine_onLines ..)
    · exact steady_onLines h hall (discard_onLines ..)
  · exact steady_onLines h hall (setLine_onLines ..)
  · exact steady_onLines h hall (setLine_onLines ..)
  · exact steady_judge h hall ..

theorem steady_receiveByte (desk : Desk) (b : Byte) : Steady P False s₀ (s.receiveByte desk b) := by
  unfold State.receiveByte
  split
  · exact h
  · exact steady_takeByte (steady_onLines h hall (setLine_onLines ..)) hall ..

omit h hall in
theorem receiveError_onLines (desk : Desk) : s.OnLines (s.receiveError desk) := by
  unfold State.receiveError
  split
  · exact .refl s
  · dsimp only
    split
    · exact (setLine_onLines ..).trans (discard_onLines ..)
    · exact setLine_onLines ..

omit h hall in
theorem gapExpires_onLines (desk : Desk) : s.OnLines (s.gapExpires desk) := by
  unfold State.gapExpires
  split
  · exact discard_onLines ..
  · exact .refl s

theorem steady_breaks (desk : Desk) : Steady P False s₀ (s.breaks desk) := by
  unfold State.breaks
  split
  · exact h
  · dsimp only
    have hsent : Steady P False s₀ (if s.lines[desk].sentWhole = true then s.sent desk else s) :=
      steady_ite (steady_onLines h hall (sent_onLines ..)) h
    exact steady_settle (steady_deskReset
      (steady_onLines (steady_ite (steady_countDiscard hsent desk) hsent) hall (setLine_onLines ..)) (hall desk))

end Lines

/-! #### A command, a tick, a step (R12, R14, R100) -/

/-- Where every desk may be answered, no desk is looked at. -/
theorem mayAnswer_none (s : State) (desk : Desk) : MayAnswer (fun _ => False) s desk := nofun

/-- Every command but the two of POWER-GOOD is steady. -/
theorem exec_steady (c : Instr) (hrise : ∀ a b z, c ≠ .powerGoodRise a b z) (hfall : c ≠ .powerGoodFall) (s : State) :
    ∃ t, exec c s = .next t ∧ Steady (fun _ => False) False s t := by
  have start := Steady.refl (fun _ => False) False s
  have all := mayAnswer_none s
  have request (k : Kind) (desk : Desk) (fields : List Byte) :
      ∃ t, exec (k.command desk fields) s = .next t ∧ Steady (fun _ => False) False s t :=
    ⟨s.powered (takeKind k desk fields), by cases k <;> rfl,
      steady_powered _ (steady_takeKind start (all desk) k fields fun _ => all) start⟩
  have level (d : DriveNo) (x : DriveUnit) (hx : x.mount = s.drives[d].mount) := steady_setDrive_mount start d x hx
  cases c with
  | idle desk fields => exact request .idle desk fields
  | status desk fields => exact request .status desk fields
  | cancel desk fields => exact request .cancel desk fields
  | list desk fields => exact request .list desk fields
  | listOn desk fields => exact request .listOn desk fields
  | openRead desk fields => exact request .openRead desk fields
  | openWrite desk fields => exact request .openWrite desk fields
  | put desk fields => exact request .put desk fields
  | putOn desk fields => exact request .putOn desk fields
  | get desk fields => exact request .get desk fields
  | getOn desk fields => exact request .getOn desk fields
  | file desk fields => exact request .file desk fields
  | drop desk fields => exact request .drop desk fields
  | close desk fields => exact request .close desk fields
  | hold desk fields => exact request .hold desk fields
  | release desk fields => exact request .release desk fields
  | spike desk fields => exact request .spike desk fields
  | watch desk fields => exact request .watch desk fields
  | unwatch desk fields => exact request .unwatch desk fields
  | subscribe desk fields => exact request .subscribe desk fields
  | takeNotice desk fields => exact request .takeNotice desk fields
  | driveSet desk fields => exact request .driveSet desk fields
  | deskSet desk fields => exact request .deskSet desk fields
  | mount desk fields => exact request .mount desk fields
  | unmount desk fields => exact request .unmount desk fields
  | format desk fields => exact request .format desk fields
  | breakHold desk fields => exact request .breakHold desk fields
  | tally desk fields => exact request .tally desk fields
  | restart desk fields => exact request .restart desk fields
  | illegalKind desk b fields => exact ⟨_, rfl, steady_powered _ (steady_takeKindByte start (all desk) b fields all) start⟩
  | byteReceived desk b => exact ⟨_, rfl, steady_powered _ (steady_receiveByte start all desk b) start⟩
  | framingError desk => exact ⟨_, rfl, steady_powered _ (steady_onLines start all (receiveError_onLines desk)) start⟩
  | interByteTimeout desk => exact ⟨_, rfl, steady_powered _ (steady_onLines start all (gapExpires_onLines desk)) start⟩
  | lineBreak desk => exact ⟨_, rfl, steady_powered _ (steady_breaks start all desk) start⟩
  | lineBreakEnd desk => exact ⟨_, rfl, steady_powered _ (steady_onLines start all (setLine_onLines s desk _)) start⟩
  | replySent desk => exact ⟨_, rfl, steady_powered _ (steady_onLines start all (sent_onLines s desk)) start⟩
  | readyFalling d =>
    have hl : Steady _ False s (s.setReady d false) := level d _ rfl
    exact ⟨_, rfl, steady_powered _ (steady_edge hl ..) hl⟩
  | readyRising d =>
    have hl : Steady _ False s (s.setReady d true) := level d _ rfl
    exact ⟨_, rfl, steady_powered _ (steady_edge hl ..) hl⟩
  | writeProtectChange d active =>
    have hl : Steady _ False s (s.setWriteProtect d active) := level d _ rfl
    exact ⟨_, rfl, steady_powered _ (steady_edge hl ..) hl⟩
  | indexPulse d => exact ⟨_, rfl, steady_powered _ (steady_pulse start d) start⟩
  | noIndexTimeout d => exact ⟨_, rfl, steady_powered _ (steady_noIndex start d) start⟩
  | stepIntervalExpiry d trackZero =>
    have hl : Steady _ False s (s.setTrackZero d trackZero) := level d _ rfl
    exact ⟨_, rfl, steady_powered _ (steady_settle (steady_setDrive_mount hl d _ (DriveUnit.seekExpires_mount _))) hl⟩
  | recalibrationStepExpiry d trackZero =>
    have hl : Steady _ False s (s.setTrackZero d trackZero) := level d _ rfl
    exact ⟨_, rfl, steady_powered _ (steady_settle (steady_recalExpires hl d)) hl⟩
  | settleExpiry d => exact ⟨_, rfl, steady_powered _ (steady_settle (steady_settles start d)) start⟩
  | headLoadExpiry d =>
    exact ⟨_, rfl, steady_powered _ (steady_settle (steady_setDrive_mount start d _ (DriveUnit.headLoads_mount _))) start⟩
  | idFieldRead cylinder head sector check => exact ⟨_, rfl, steady_powered _ (steady_settle (steady_takeId start ..)) start⟩
  | dataFieldRead data check => exact ⟨_, rfl, steady_powered _ (steady_settle (steady_takeData start ..)) start⟩
  | dataFieldWritten => exact ⟨_, rfl, steady_powered _ (steady_settle (steady_fieldWritten start)) start⟩
  | powerGoodRise a b z => exact absurd rfl (hrise a b z)
  | powerGoodFall => exact absurd rfl hfall

/-- A state with the same images, whose drives have the mount records of another's, has sound maps with it. -/
theorem mapsSound_of_mounts {t : State} (hi : t.images = s.images) (hm : ∀ d : DriveNo, (t.drives[d]).mount = (s.drives[d]).mount)
    (hs : s.mapsSound) : t.mapsSound :=
  ⟨by rw [hi]; exact hs.1, fun d => hm d ▸ hs.2 d⟩

theorem mapsSound_poweredOn (ready writeProtect trackZero : BitVec 4) : (s.poweredOn ready writeProtect trackZero).mapsSound := by
  refine ⟨fun d img hi => ?_, fun d => ?_⟩
  · have hnone : (s.poweredOn ready writeProtect trackZero).images[d] = none := Vector.getElem_replicate _
    rw [hnone] at hi
    cases hi
  · fin_cases d <;> exact MountRecord.clear_sound

theorem mapsSound_poweredOff (hs : s.mapsSound) : s.poweredOff.mapsSound := by
  have hdrive (d : DriveNo) : s.poweredOff.drives[d] = (s.drives[d]).powerOff := Vector.getElem_map ..
  exact mapsSound_of_mounts (s := s) rfl (fun d => by rw [hdrive]; rfl) hs

theorem mapsSound_idles (hs : s.mapsSound) : s.idles.mapsSound := by
  unfold State.idles State.powered
  split
  · have hframe := ticked_frame s
    have hdrive (d : DriveNo) : s.ticked.drives[d] = (s.drives[d]).ticked := by
      rw [hframe]
      exact Vector.getElem_map ..
    exact mapsSound_of_mounts (by rw [hframe]) (fun d => by rw [hdrive]; rfl) hs
  · exact hs

theorem exec_mapsSound {c : Instr} {t : State} (he : exec c s = .next t) (hs : s.mapsSound) : t.mapsSound := by
  by_cases hrise : ∃ a b z, c = .powerGoodRise a b z
  · obtain ⟨a, b, z, rfl⟩ := hrise
    cases he
    exact mapsSound_poweredOn a b z
  · by_cases hfall : c = .powerGoodFall
    · subst hfall
      cases he
      exact mapsSound_poweredOff hs
    · obtain ⟨u, hu, hsteady⟩ := exec_steady c (fun a b z hc => hrise ⟨a, b, z, hc⟩) hfall s
      obtain rfl : u = t := by rw [hu] at he; exact Host.Outcome.next.inj he
      exact hsteady.maps hs

/-- Settles O57: a tick changes no image and no mount record, a POWER-GOOD edge clears or keeps them, and every other command is
steady. -/
theorem everyStepKeepsAllocationMapsSound : Obligations.EveryStepKeepsAllocationMapsSound := by
  intro s t hstep hs
  unfold step at hstep
  split at hstep
  · cases hstep
    exact mapsSound_idles hs
  · exact exec_mapsSound hstep hs

end Sys2Proof.Machine
end

section
namespace Sys2Proof.Machine

/-! ### Places of sectors and rotational slots (R7, R9) -/

theorem lOfTarget_targetOfL (l : Nat) : lOfTarget (targetOfL l) = l := by
  simp only [lOfTarget, targetOfL]
  omega

/-- A place of the data cylinders is the place of its logical sector (R9). -/
theorem targetOfL_lOfTarget {t : Target} (hc : 1 ≤ t.cylinder) (hh : t.head ≤ 1) (hs : t.sector ≤ 14) :
    targetOfL (lOfTarget t) = t := by
  obtain ⟨cylinder, head, sector⟩ := t
  simp only [targetOfL, lOfTarget, Target.mk.injEq] at *
  omega

theorem lOfTarget_lt {t : Target} (hc : t.cylinder ≤ 76) (hc1 : 1 ≤ t.cylinder) (hh : t.head ≤ 1) (hs : t.sector ≤ 14) :
    lOfTarget t < 2280 := by
  unfold lOfTarget
  omega

theorem sectorInSlot_lt (skew c k : Nat) : sectorInSlot skew c k < 15 := Nat.mod_lt _ (by decide)

/-- The sector recorded in a slot is the one whose slot it is (R7). -/
theorem rotationalSlot_sectorInSlot (skew c : Nat) {k : Nat} (hk : k < 15) : rotationalSlot skew c (sectorInSlot skew c k) = k := by
  unfold rotationalSlot sectorInSlot
  generalize skew * c = shift
  omega

theorem sectorInSlot_rotationalSlot (skew c : Nat) {s : Nat} (hs : s < 15) : sectorInSlot skew c (rotationalSlot skew c s) = s := by
  unfold rotationalSlot sectorInSlot
  generalize skew * c = shift
  omega

/-- Settles O50: division with remainder by 30 and 15, and the shift by the skew undone. -/
theorem sectorNumberingIsOneToOne : Obligations.SectorNumberingIsOneToOne := by
  refine ⟨fun l hl => ⟨rfl, ?_, ?_, ?_, lOfTarget_targetOfL l⟩, fun t hc1 hc hh hs => ?_, fun skew c k hk => ?_⟩
  · simp only [targetOfL]; omega
  · simp only [targetOfL]; omega
  · simp only [targetOfL]; omega
  · exact ⟨rfl, lOfTarget_lt hc hc1 hh hs, targetOfL_lOfTarget hc1 hh hs⟩
  · refine ⟨rotationalSlot_sectorInSlot skew c hk, sectorInSlot_rotationalSlot skew c hk, sectorInSlot_lt skew c k, ?_⟩
    simp only [rotationalSlot]; omega

end Sys2Proof.Machine
end

section
namespace Sys2Proof.Machine

/-! ### The cross-record examination (R15) -/

/-- Sectors are claimed exactly when they are distinct and none is claimed already. -/
theorem claimAll_ne_none_iff (ls claimed : List Nat) : claimAll ls claimed ≠ none ↔ ls.Nodup ∧ ∀ l ∈ ls, l ∉ claimed := by
  induction ls generalizing claimed with
  | nil => simp [claimAll]
  | cons l ls ih =>
    unfold claimAll
    split
    · rename_i hl
      simp at hl
      simp [hl]
    · rename_i hl
      simp at hl
      rw [ih]
      simp only [List.nodup_cons, List.mem_cons, forall_eq_or_imp, not_or, forall_and]
      constructor
      · rintro ⟨hnodup, hne, hfree⟩
        exact ⟨⟨fun hmem => hne l hmem rfl, hnodup⟩, hl, hfree⟩
      · rintro ⟨⟨hmem, hnodup⟩, -, hfree⟩
        exact ⟨hnodup, fun m hm heq => hmem (heq ▸ hm), hfree⟩

/-- What R15 asks of a record that is accepted: a slug that none accepted has, distinct sectors, none of them claimed. -/
def Accepted.admits (a : Accepted) (r : StoryRecord) : Prop :=
  (∀ x ∈ a.records, x.2.slug ≠ r.slug) ∧ (sectorsOf r.extents).Nodup ∧ ∀ l ∈ sectorsOf r.extents, l ∉ a.claimed

theorem acceptRecord_of_admits {a : Accepted} {r : StoryRecord} (h : a.admits r) (n : SlotNo) :
    ∃ claimed, acceptRecord a n r = { a with records := a.records ++ [(n, r)], claimed := claimed } ∧
      ∀ l, l ∈ claimed ↔ l ∈ sectorsOf r.extents ∨ l ∈ a.claimed := by
  obtain ⟨hslug, hsectors⟩ := h
  obtain ⟨claimed, hclaimed⟩ := Option.ne_none_iff_exists'.1 ((claimAll_ne_none_iff _ _).2 hsectors)
  refine ⟨claimed, ?_, claimAll_mem hclaimed⟩
  unfold acceptRecord
  rw [if_neg (by simpa using hslug), hclaimed]

theorem acceptRecord_of_not_admits {a : Accepted} {r : StoryRecord} (h : ¬a.admits r) (n : SlotNo) :
    acceptRecord a n r = { a with discarded := true } := by
  unfold acceptRecord
  split
  · rfl
  · rename_i hslug
    split
    · rfl
    · rename_i hclaimed
      have hsectors := (claimAll_ne_none_iff _ _).1 (Option.ne_none_iff_exists'.2 ⟨_, hclaimed⟩)
      exact absurd ⟨by simpa using hslug, hsectors⟩ h

/-- One slot of the cross-record examination. -/
def examineSlot (kept : List (SlotNo × StoryRecord)) (a : Accepted) (n : SlotNo) : Accepted :=
  match kept.find? (fun p => p.1 == n) with
  | none => a
  | some p => acceptRecord a n p.2

theorem crossExamine_eq_foldl (bad : List Nat) (kept : List (SlotNo × StoryRecord)) :
    crossExamine bad kept =
      (List.finRange 232).foldl (examineSlot kept) { records := [], claimed := bad.eraseDups, discarded := false } := rfl

theorem examineSlot_of_none {kept : List (SlotNo × StoryRecord)} {n : SlotNo} (h : ∀ x ∈ kept, x.1 ≠ n) (a : Accepted) :
    examineSlot kept a n = a := by
  have hfind : kept.find? (fun p => p.1 == n) = none := List.find?_eq_none.2 (by simpa using h)
  rw [examineSlot, hfind]

/-- The first record kept for a slot is the one examined. -/
theorem examineSlot_of_kept {kept : List (SlotNo × StoryRecord)} {n : SlotNo} (h : ∃ x ∈ kept, x.1 = n) (a : Accepted) :
    ∃ r, (n, r) ∈ kept ∧ examineSlot kept a n = acceptRecord a n r := by
  obtain ⟨x, hx, hn⟩ := h
  obtain ⟨p, hp⟩ := Option.isSome_iff_exists.1 (List.find?_isSome.2 ⟨x, hx, by simpa using hn⟩ :
    (kept.find? (fun p => p.1 == n)).isSome)
  have hpn : p.1 = n := by simpa using List.find?_some hp
  refine ⟨p.2, ?_, by rw [examineSlot, hp]⟩
  rw [← hpn]
  exact List.mem_of_find?_eq_some hp

/-- No clash of a record with the bad list or with a record of a lower slot accepted (R15). -/
def Unclashing (bad : List Nat) (accepted : List (SlotNo × StoryRecord)) (x : SlotNo × StoryRecord) : Prop :=
  (∀ y ∈ accepted, y.1 < x.1 → y.2.slug ≠ x.2.slug) ∧ (sectorsOf x.2.extents).Nodup ∧ (∀ l ∈ sectorsOf x.2.extents, l ∉ bad) ∧
    ∀ y ∈ accepted, y.1 < x.1 → ∀ l ∈ sectorsOf x.2.extents, l ∉ sectorsOf y.2.extents

/-- The record is the only one kept for its slot. -/
def OnlyOfSlot (kept : List (SlotNo × StoryRecord)) (x : SlotNo × StoryRecord) : Prop := ∀ y ∈ kept, y.1 = x.1 → y = x

/-- What holds of the examination while the slots `rest` are still to come. -/
structure Examination (bad : List Nat) (kept : List (SlotNo × StoryRecord)) (rest : List SlotNo) (a : Accepted) : Prop where
  below : ∀ x ∈ a.records, ∀ m ∈ rest, x.1 < m
  ascending : (a.records.map Prod.fst).Pairwise (fun n m => n < m)
  fromKept : ∀ x ∈ a.records, x ∈ kept
  slugs : (a.records.map (fun x => x.2.slug)).Nodup
  sectors : (a.records.flatMap (fun x => sectorsOf x.2.extents)).Nodup
  claimed : ∀ l, l ∈ a.claimed ↔ l ∈ bad ∨ ∃ x ∈ a.records, l ∈ sectorsOf x.2.extents
  sound : ∀ x ∈ a.records, ∀ l ∈ sectorsOf x.2.extents, l ∉ bad
  complete : ∀ x ∈ kept, x.1 ∉ rest → OnlyOfSlot kept x → Unclashing bad a.records x → x ∈ a.records
  unmarked : a.discarded = false → ∀ x ∈ kept, x.1 ∉ rest → OnlyOfSlot kept x → x ∈ a.records
  marked : a.discarded = true → ∃ x ∈ kept, x.1 ∉ rest ∧ x ∉ a.records

section
variable {bad : List Nat} {kept : List (SlotNo × StoryRecord)} {n : SlotNo} {rest : List SlotNo} {a : Accepted}

theorem Examination.start (bad : List Nat) (kept : List (SlotNo × StoryRecord)) :
    Examination bad kept (List.finRange 232) { records := [], claimed := bad.eraseDups, discarded := false } where
  below := nofun
  ascending := .nil
  fromKept := nofun
  slugs := .nil
  sectors := .nil
  claimed l := by simp
  sound := nofun
  complete x _ hx := absurd (List.mem_finRange x.1) hx
  unmarked _ x _ hx := absurd (List.mem_finRange x.1) hx
  marked := nofun

/-- A slot that no record is kept for is passed over. -/
theorem Examination.passOver (h : Examination bad kept (n :: rest) a) (hn : ∀ x ∈ kept, x.1 ≠ n) : Examination bad kept rest a := by
  have hout {x : SlotNo × StoryRecord} (hx : x ∈ kept) (hr : x.1 ∉ rest) : x.1 ∉ n :: rest := by simp [hn x hx, hr]
  exact { h with
    below := fun x hx m hm => h.below x hx m (List.mem_cons_of_mem _ hm)
    complete := fun x hx hr => h.complete x hx (hout hx hr)
    unmarked := fun hd x hx hr => h.unmarked hd x hx (hout hx hr)
    marked := fun hd => by
      obtain ⟨x, hx, hr, hnot⟩ := h.marked hd
      exact ⟨x, hx, fun hm => hr (List.mem_cons_of_mem _ hm), hnot⟩ }

/-- A record of the slot examined that clashes with none accepted is admitted. -/
theorem Examination.admits_of_unclashing (h : Examination bad kept (n :: rest) a) {r : StoryRecord}
    (hu : Unclashing bad a.records (n, r)) : a.admits r := by
  obtain ⟨hslug, hnodup, hbad, hfree⟩ := hu
  have hlow {x : SlotNo × StoryRecord} (hx : x ∈ a.records) : x.1 < n := h.below x hx n List.mem_cons_self
  refine ⟨fun x hx => hslug x hx (hlow hx), hnodup, fun l hl hclaimed => ?_⟩
  rcases (h.claimed l).1 hclaimed with hb | ⟨x, hx, hlx⟩
  · exact hbad l hl hb
  · exact hfree x hx (hlow hx) l hl hlx

/-- A record that is not admitted sets the discarded mark. -/
theorem Examination.discard (h : Examination bad kept (n :: rest) a) (hrest : n ∉ rest) {r : StoryRecord} (hr : (n, r) ∈ kept)
    (hno : ¬a.admits r) : Examination bad kept rest { a with discarded := true } := by
  exact { h with
    below := fun x hx m hm => h.below x hx m (List.mem_cons_of_mem _ hm)
    complete := fun x hx hout honly hu => by
      by_cases hxn : x.1 = n
      · obtain rfl : (n, r) = x := honly _ hr hxn.symm
        exact absurd (h.admits_of_unclashing hu) hno
      · exact h.complete x hx (by simp [hxn, hout]) honly hu
    unmarked := nofun
    marked := fun _ => ⟨(n, r), hr, hrest, fun hmem => absurd (h.below _ hmem n List.mem_cons_self) (lt_irrefl n)⟩ }

/-- A record that is admitted joins those accepted. -/
theorem Examination.accept (h : Examination bad kept (n :: rest) a) (hrest : ∀ m ∈ rest, n < m) {r : StoryRecord}
    (hr : (n, r) ∈ kept) (hyes : a.admits r) {claimed : List Nat}
    (hclaimed : ∀ l, l ∈ claimed ↔ l ∈ sectorsOf r.extents ∨ l ∈ a.claimed) :
    Examination bad kept rest { a with records := a.records ++ [(n, r)], claimed := claimed } := by
  obtain ⟨hslug, hnodup, hfree⟩ := hyes
  have hlow {x : SlotNo × StoryRecord} (hx : x ∈ a.records) : x.1 < n := h.below x hx n List.mem_cons_self
  have hcases {x : SlotNo × StoryRecord} (hx : x ∈ a.records ++ [(n, r)]) : x ∈ a.records ∨ x = (n, r) := by simpa using hx
  have hunclaimed {l : Nat} (hl : l ∈ sectorsOf r.extents) : l ∉ bad ∧ ∀ x ∈ a.records, l ∉ sectorsOf x.2.extents := by
    have := mt (h.claimed l).2 (hfree l hl)
    exact ⟨fun hb => this (.inl hb), fun x hx hlx => this (.inr ⟨x, hx, hlx⟩)⟩
  have hbecause {x : SlotNo × StoryRecord} (hx : x ∈ kept) (hout : x.1 ∉ rest) (honly : OnlyOfSlot kept x)
      (hold : x.1 ∉ n :: rest → x ∈ a.records) : x ∈ a.records ++ [(n, r)] := by
    by_cases hxn : x.1 = n
    · obtain rfl : (n, r) = x := honly _ hr hxn.symm
      simp
    · exact List.mem_append_left _ (hold (by simp [hxn, hout]))
  exact {
    below := fun x hx m hm => by
      rcases hcases hx with hx | rfl
      · exact h.below x hx m (List.mem_cons_of_mem _ hm)
      · exact hrest m hm
    ascending := by
      rw [List.map_append, List.pairwise_append]
      refine ⟨h.ascending, List.pairwise_singleton .., fun m hm k hk => ?_⟩
      obtain ⟨x, hx, rfl⟩ := List.mem_map.1 hm
      obtain rfl : k = n := by simpa using hk
      exact hlow hx
    fromKept := fun x hx => by
      rcases hcases hx with hx | rfl
      · exact h.fromKept x hx
      · exact hr
    slugs := by
      rw [List.map_append, List.nodup_append]
      refine ⟨h.slugs, List.nodup_singleton _, fun m hm k hk => ?_⟩
      obtain ⟨x, hx, rfl⟩ := List.mem_map.1 hm
      obtain rfl : k = r.slug := by simpa using hk
      exact hslug x hx
    sectors := by
      rw [List.flatMap_append, List.nodup_append]
      refine ⟨h.sectors, by simpa using hnodup, fun l hl m hm => ?_⟩
      obtain ⟨x, hx, hlx⟩ := List.mem_flatMap.1 hl
      rintro rfl
      exact (hunclaimed (by simpa using hm)).2 x hx hlx
    claimed := fun l => by
      rw [hclaimed, h.claimed]
      simp only [List.mem_append, List.mem_singleton, or_and_right, exists_or, exists_eq_left]
      exact or_comm.trans or_assoc
    sound := fun x hx l hl => by
      rcases hcases hx with hx | rfl
      · exact h.sound x hx l hl
      · exact (hunclaimed hl).1
    complete := fun x hx hout honly hu => hbecause hx hout honly fun hold =>
      h.complete x hx hold honly ⟨fun y hy => hu.1 y (List.mem_append_left _ hy), hu.2.1, hu.2.2.1,
        fun y hy => hu.2.2.2 y (List.mem_append_left _ hy)⟩
    unmarked := fun hd x hx hout honly => hbecause hx hout honly fun hold => h.unmarked hd x hx hold honly
    marked := fun hd => by
      obtain ⟨x, hx, hout, hnot⟩ := h.marked hd
      obtain ⟨hne, hout⟩ := not_or.1 (mt List.mem_cons.2 hout)
      exact ⟨x, hx, hout, fun hmem => (hcases hmem).elim hnot (fun heq => hne (congrArg Prod.fst heq))⟩ }

theorem Examination.step (h : Examination bad kept (n :: rest) a) (hrest : ∀ m ∈ rest, n < m) :
    Examination bad kept rest (examineSlot kept a n) := by
  by_cases hn : ∃ x ∈ kept, x.1 = n
  · obtain ⟨r, hr, heq⟩ := examineSlot_of_kept hn a
    rw [heq]
    by_cases hyes : a.admits r
    · obtain ⟨claimed, hrec, hclaimed⟩ := acceptRecord_of_admits hyes n
      rw [hrec]
      exact h.accept hrest hr hyes hclaimed
    · rw [acceptRecord_of_not_admits hyes]
      exact h.discard (fun hm => lt_irrefl n (hrest n hm)) hr hyes
  · have hnone : ∀ x ∈ kept, x.1 ≠ n := fun x hx heq => hn ⟨x, hx, heq⟩
    rw [examineSlot_of_none hnone]
    exact h.passOver hnone

theorem Examination.foldl (h : Examination bad kept rest a) (hasc : rest.Pairwise (fun m k => m < k)) :
    Examination bad kept [] (rest.foldl (examineSlot kept) a) := by
  induction rest generalizing a with
  | nil => exact h
  | cons n rest ih =>
    obtain ⟨hn, hasc⟩ := List.pairwise_cons.1 hasc
    exact ih (h.step hn) hasc

end

theorem crossExamine_examination (bad : List Nat) (kept : List (SlotNo × StoryRecord)) :
    Examination bad kept [] (crossExamine bad kept) :=
  (Examination.start bad kept).foldl (List.pairwise_lt_finRange 232)

/-- Settles O54, by the invariant of the examination over the slots still to come. -/
theorem acceptedRecordsShareNothing : Obligations.AcceptedRecordsShareNothing := by
  intro bad kept a
  have h := crossExamine_examination bad kept
  refine ⟨h.ascending, h.fromKept, h.slugs, h.sectors, h.sound, ?_, ?_, ?_⟩
  · exact fun x hx honly hslug hnodup hbad hfree => h.complete x hx List.not_mem_nil honly ⟨hslug, hnodup, hbad, hfree⟩
  · exact fun hd x hx honly => h.unmarked hd x hx List.not_mem_nil honly
  · intro hd
    obtain ⟨x, hx, -, hnot⟩ := h.marked hd
    exact ⟨x, hx, hnot⟩

end Sys2Proof.Machine
end

section
namespace Sys2Proof.Machine

/-! ### The choice of a request and its cost (R46, R52 to R54) -/

/-! #### The better of two candidates -/

/-- Among seqs that lie within half the range of the counter above a base, the earlier one is the lower (R46). -/
theorem earlier_iff_of_base {a b base : BitVec 32} (ha : (a - base).toNat < 2147483648) (hb : (b - base).toNat < 2147483648) :
    earlier a b = true ↔ (a - base).toNat < (b - base).toNat := by
  unfold earlier
  rw [Bool.and_eq_true, decide_eq_true_iff, decide_eq_true_iff]
  bv_omega

/-- One request is no worse than another: it costs no more, and of equal costs its seq is not the later above any base that both
lie near (R54). -/
def NoWorse (cost : SectorRequest → Nat) (r x : SectorRequest) : Prop :=
  cost r ≤ cost x ∧ (cost x = cost r → ∀ base : BitVec 32, (r.seq - base).toNat < 2147483648 → (x.seq - base).toNat < 2147483648 →
    (r.seq - base).toNat ≤ (x.seq - base).toNat)

theorem NoWorse.refl (cost : SectorRequest → Nat) (r : SectorRequest) : NoWorse cost r r :=
  ⟨Nat.le_refl _, fun _ _ _ _ => Nat.le_refl _⟩

/-- The better of two candidates is one of them and no worse than both (R54). -/
theorem better_noWorse (cost : SectorRequest → Nat) (x y : SectorRequest) :
    ∃ w, (w = x ∨ w = y) ∧ better (cost y, y) (some (cost x, x)) = some (cost w, w) ∧ NoWorse cost w x ∧ NoWorse cost w y := by
  unfold better
  dsimp only
  split
  · rename_i h
    refine ⟨y, .inr rfl, rfl, ⟨by omega, fun hc base hy hx => ?_⟩, .refl ..⟩
    rcases h with h | ⟨_, h⟩
    · omega
    · exact Nat.le_of_lt ((earlier_iff_of_base hy hx).1 h)
  · rename_i h
    refine ⟨x, .inl rfl, rfl, .refl .., ⟨by omega, fun hc base hx hy => ?_⟩⟩
    have hlater : ¬earlier y.seq x.seq = true := fun he => h (.inr ⟨hc, he⟩)
    exact Nat.le_of_not_lt (mt (earlier_iff_of_base hy hx).2 hlater)

/-- What the choice makes of some candidates. -/
def bestOf (cost : SectorRequest → Nat) (best : Option (Nat × SectorRequest)) (rs : List SectorRequest) :
    Option (Nat × SectorRequest) :=
  rs.foldl (fun best r => better (cost r, r) best) best

/-- The candidate chosen is one of them; none costs less, and of those of its cost it has the lowest seq, where all the seqs lie
within half the range of the counter (R46, R54). -/
theorem bestOf_cons (cost : SectorRequest → Nat) (x : SectorRequest) (rs : List SectorRequest) :
    ∃ r ∈ x :: rs, bestOf cost (some (cost x, x)) rs = some (cost r, r) ∧ (∀ y ∈ x :: rs, cost r ≤ cost y) ∧
      ∀ base : BitVec 32, (∀ y ∈ x :: rs, (y.seq - base).toNat < 2147483648) →
        ∀ y ∈ x :: rs, cost y = cost r → (r.seq - base).toNat ≤ (y.seq - base).toNat := by
  induction rs generalizing x with
  | nil =>
    refine ⟨x, List.mem_cons_self, rfl, ?_, ?_⟩
    · simp
    · simp
  | cons y rs ih =>
    obtain ⟨w, hw, hbetter, ⟨hwx, hsx⟩, hwy, hsy⟩ := better_noWorse cost x y
    obtain ⟨r, hr, hbest, hcost, hseq⟩ := ih w
    have hmem {z : SectorRequest} (hz : z ∈ w :: rs) : z ∈ x :: y :: rs := by
      rcases List.mem_cons.1 hz with rfl | hz
      · rcases hw with rfl | rfl <;> simp
      · simp [hz]
    have hrw : cost r ≤ cost w := hcost w List.mem_cons_self
    refine ⟨r, hmem hr, ?_, fun z hz => ?_, fun base hbase z hz hzr => ?_⟩
    · rw [← hbest, ← hbetter]; rfl
    · rcases List.mem_cons.1 hz with rfl | hz
      · omega
      rcases List.mem_cons.1 hz with rfl | hz
      · omega
      · exact hcost z (List.mem_cons_of_mem _ hz)
    · have hrest := hseq base (fun z hz => hbase z (hmem hz))
      have hwbase := hbase w (hmem List.mem_cons_self)
      have through (hzw : cost w ≤ cost z) (hs : cost z = cost w → (w.seq - base).toNat ≤ (z.seq - base).toNat) :
          (r.seq - base).toNat ≤ (z.seq - base).toNat :=
        Nat.le_trans (hrest w List.mem_cons_self (by omega)) (hs (by omega))
      have hzbase := hbase z hz
      rcases List.mem_cons.1 hz with rfl | hz
      · exact through hwx (fun hc => hsx hc base hwbase hzbase)
      rcases List.mem_cons.1 hz with rfl | hz
      · exact through hwy (fun hc => hsy hc base hwbase hzbase)
      · exact hrest z (List.mem_cons_of_mem _ hz) hzr

/-! #### The candidates -/

/-- URGENT by class or by age (R52). -/
def State.isUrgent (s : State) (d : DriveNo) (x : SectorRequest) : Prop :=
  x.cls = .urgent ∨ s.settings[d].aging ≤ (s.tick - x.entry).toNat

theorem counts_urgent_iff (s : State) (d : DriveNo) (x : SectorRequest) : s.counts d x = .urgent ↔ s.isUrgent d x := by
  simp only [State.counts, State.aged, State.isUrgent, Bool.or_eq_true, beq_iff_eq, decide_eq_true_eq, ite_eq_left_iff, reduceCtorEq,
    imp_false, not_not]

/-- The candidates are the URGENT requests of the work list if there is one, else all (R52). -/
theorem mem_candidates_iff (s : State) (d : DriveNo) (x : SectorRequest) :
    x ∈ s.candidates d ↔
      x ∈ s.scheds[d].workList ∧ (s.isUrgent d x ∨ ∀ y ∈ s.scheds[d].workList, ¬s.isUrgent d y) := by
  unfold State.candidates
  dsimp only
  split
  · rename_i h
    have hnone : ∀ y ∈ s.scheds[d].workList, ¬s.isUrgent d y := by
      simpa [List.filter_eq_nil_iff, counts_urgent_iff] using h
    exact ⟨fun hx => ⟨hx, .inr hnone⟩, And.left⟩
  · rename_i h
    have hsome : ∃ y ∈ s.scheds[d].workList, s.isUrgent d y := by
      simpa [List.filter_eq_nil_iff, counts_urgent_iff] using h
    obtain ⟨y, hy, hurgent⟩ := hsome
    rw [List.mem_filter, beq_iff_eq, counts_urgent_iff]
    exact ⟨fun hx => ⟨hx.1, .inl hx.2⟩, fun hx => ⟨hx.1, hx.2.resolve_right fun hno => hno y hy hurgent⟩⟩

theorem candidates_ne_nil {s : State} {d : DriveNo} (h : s.scheds[d].workList ≠ []) : s.candidates d ≠ [] := by
  unfold State.candidates
  dsimp only
  split
  · exact h
  · rename_i hne
    exact fun heq => hne (by rw [heq]; rfl)

/-- A drive with a known position chooses the best of its candidates (R54). -/
theorem chosen_eq_bestOf {s : State} {d : DriveNo} {position : Nat} (h : s.drives[d].position = some position) :
    s.chosen d = (bestOf (fun x => (positioningCost s.settings[d] s.drives[d] position (s.costSkew d) x.target).1) none
      (s.candidates d)).map Prod.snd := by
  unfold State.chosen
  rw [h]
  rfl

/-! #### The arithmetic of the cost (R53) -/

theorem cylindersApart_eq_natAbs (a b : Nat) : cylindersApart a b = ((a : Int) - b).natAbs := by
  unfold cylindersApart
  omega

/-- The wait for a slot that begins at `o` from the angle `a` on (R53). -/
theorem slotWait_eq_emod {o a period : Nat} (ha : a < period) :
    (o + (period - a)) % period = (((o : Int) - a) % period).toNat := by
  have hcast : ((o + (period - a) : Nat) : Int) = (o : Int) - a + period := by omega
  rw [← Int.add_emod_right, ← hcast, ← Int.natCast_emod, Int.toNat_natCast]

/-- The slot of a target is unskewed on cylinder 0 (R8). -/
theorem rotationalSlot_eq (skew c k : Nat) : rotationalSlot skew c k = if c = 0 then k % 15 else (k + skew * c) % 15 := by
  split
  · rename_i hc; simp [rotationalSlot, hc]
  · rfl

/-- The wait with its guard is 3 ticks to two more than a period (R53). -/
theorem guardedWait_bounds {w period : Nat} (hw : w < period) (hp : 3 ≤ period) :
    3 ≤ (if w < Config.guardTicks then w + period else w) ∧ (if w < Config.guardTicks then w + period else w) ≤ period + 2 := by
  have hguard : Config.guardTicks = 3 := rfl
  by_cases h : w < Config.guardTicks
  · rw [if_pos h]; omega
  · rw [if_neg h]; omega

theorem positioningCost_eq (st : Settings) (u : DriveUnit) (position skew : Nat) (t : Target) :
    positioningCost st u position skew t =
      (let apart := cylindersApart t.cylinder position
       let time := max (apart * st.stepInterval + if 0 < apart then st.settle else 0) (if u.head = .loaded then 0 else st.headLoad)
       let a := (u.elapsed % u.period + time) % u.period
       let w := (slotStart u.period (rotationalSlot skew t.cylinder t.sector) + (u.period - a)) % u.period
       let guarded := if w < Config.guardTicks then w + u.period else w
       (time + guarded, guarded)) := rfl

/-- The time of positioning is at most 76 step intervals of 160 ticks and a settle of 500 (R41, R53). -/
theorem positioningTime_le {st : Settings} (hst : st.inRange) {apart : Nat} (ha : apart ≤ 76) (loaded : Prop) [Decidable loaded] :
    max (apart * st.stepInterval + if 0 < apart then st.settle else 0) (if loaded then 0 else st.headLoad) ≤ 12660 := by
  obtain ⟨⟨_, hstep⟩, hsettle, hload, _⟩ := hst
  have hseek : apart * st.stepInterval ≤ 76 * 160 := Nat.mul_le_mul ha hstep
  have hsettle' : (if 0 < apart then st.settle else 0) ≤ 500 := by split <;> omega
  have hload' : (if loaded then 0 else st.headLoad) ≤ 1000 := by split <;> omega
  omega

theorem positioningCost_bounds {st : Settings} {u : DriveUnit} {position : Nat} (skew : Nat) {t : Target} (hst : st.inRange)
    (hmin : 1500 ≤ u.period) (hmax : u.period ≤ 1833) (hpos : position ≤ 76) (hcyl : t.cylinder ≤ 76) :
    let c := positioningCost st u position skew t
    3 ≤ c.2 ∧ c.2 ≤ u.period + 2 ∧ c.2 ≤ c.1 ∧ c.1 ≤ 14495 := by
  rw [positioningCost_eq]
  dsimp only
  have htime := positioningTime_le hst (apart := cylindersApart t.cylinder position) (by unfold cylindersApart; omega)
    (u.head = .loaded)
  generalize max (cylindersApart t.cylinder position * st.stepInterval + _) _ = time at htime ⊢
  have hwait := guardedWait_bounds (Nat.mod_lt (slotStart u.period (rotationalSlot skew t.cylinder t.sector) +
    (u.period - (u.elapsed % u.period + time) % u.period)) (by omega : 0 < u.period)) (by omega)
  generalize (if _ < Config.guardTicks then _ else _) = guarded at hwait ⊢
  omega

/-- Settles O43: the fold over the candidates keeps the best so far, and the cost is its arithmetic unfolded. -/
theorem choiceTakesALeastCostCandidate : Obligations.ChoiceTakesALeastCostCandidate := by
  refine ⟨?_, fun st u position skew t hst hmin hmax hp hc => positioningCost_bounds skew hst hmin hmax hp hc, ?_, ?_⟩
  · intro s d position hpos urgent cost
    have hcand := mem_candidates_iff s d
    have hchosen := chosen_eq_bestOf hpos
    cases hlist : s.candidates d with
    | nil =>
      have hnone : s.chosen d = none := by rw [hchosen, hlist]; rfl
      exact ⟨fun hne => absurd hlist (candidates_ne_nil hne), fun r hr => by rw [hnone] at hr; cases hr⟩
    | cons x rs =>
      obtain ⟨r, hr, hbest, hcost, hseq⟩ := bestOf_cons cost x rs
      have hsome : s.chosen d = some r := by
        rw [hchosen, hlist]
        exact congrArg (Option.map Prod.snd) hbest
      rw [← hlist] at hr hcost hseq
      refine ⟨fun _ => ⟨r, hsome⟩, fun r' hr' => ?_⟩
      obtain rfl : r = r' := Option.some.inj (hsome.symm.trans hr')
      obtain ⟨hmem, hurgent⟩ := (hcand r).1 hr
      refine ⟨hmem, fun ⟨y, hy, huy⟩ => hurgent.resolve_right (fun hno => hno y hy huy), fun y hy hc => hcost y ((hcand y).2 ⟨hy, hc⟩),
        fun base hbase y hy hc heq => hseq base (fun z hz => hbase z ((hcand z).1 hz).1) y ((hcand y).2 ⟨hy, hc⟩) heq⟩
  · intro st u position skew t hperiod e apart seek load time angle slot begins wait guarded
    have hseek : (apart * st.stepInterval + if 0 < apart then st.settle else 0) = seek := by
      by_cases h : apart = 0
      · simp [seek, h]
      · simp [seek, h, Nat.pos_of_ne_zero h]
    have htime : max seek load = time := by
      rcases Nat.le_total seek load with h | h
      · simp [time, h]
      · simp only [time]; split <;> omega
    have hangle : angle < u.period := Nat.mod_lt _ (by omega)
    have hwait := slotWait_eq_emod (o := begins) hangle
    have hslot : rotationalSlot skew t.cylinder t.sector = slot := rotationalSlot_eq ..
    rw [positioningCost_eq, cylindersApart_eq_natAbs]
    show ((max (apart * st.stepInterval + if 0 < apart then st.settle else 0) load) + _, _) = _
    rw [hseek, htime, hslot, show slotStart u.period slot = begins from rfl, hwait]
    rfl
  · intro s d
    refine ⟨fun img hstate himg => ?_, fun h => ?_⟩
    · simp only [State.costSkew, hstate, himg, if_true]
    · unfold State.costSkew
      rcases h with h | h
      · rw [if_neg h]
      · rw [h, ite_self]

end Sys2Proof.Machine
end

section
namespace Sys2Proof.Machine

/-! ### Recorded forms are examined back (R11 to R14, R18, R37) -/

/-! #### Bytes and fields -/

theorem byteAt_append_right {xs : List Byte} {n : Nat} (hn : xs.length = n) (ys : List Byte) (i : Nat) :
    byteAt (xs ++ ys) (n + i) = byteAt ys i := by
  rw [byteAt, List.getD_append_right _ _ _ _ (by omega), hn, Nat.add_sub_cancel_left, byteAt]

theorem byteAt_append_left {xs : List Byte} {i : Nat} (hi : i < xs.length) (ys : List Byte) : byteAt (xs ++ ys) i = byteAt xs i :=
  List.getD_append _ _ _ _ hi

theorem fieldAt_append_right {xs : List Byte} {n : Nat} (hn : xs.length = n) (ys : List Byte) (i : Nat) :
    fieldAt (xs ++ ys) (n + i) = fieldAt ys i := by
  rw [fieldAt, byteAt_append_right hn, Nat.add_assoc, byteAt_append_right hn, fieldAt]

theorem fieldAt_append_left {xs : List Byte} {i : Nat} (hi : i + 1 < xs.length) (ys : List Byte) :
    fieldAt (xs ++ ys) i = fieldAt xs i := by
  rw [fieldAt, byteAt_append_left (by omega), byteAt_append_left hi, fieldAt]

theorem toNat_byteOf {n : Nat} (h : n < 256) : (byteOf n).toNat = n := by
  rw [byteOf, BitVec.toNat_ofNat, Nat.mod_eq_of_lt h]

/-- A number of two bytes is read back (R2). -/
theorem ofTwo_byteOf {n : Nat} (h : n < 65536) : ofTwo (byteOf (n / 256)) (byteOf (n % 256)) = n := by
  rw [ofTwo, toNat_byteOf (by omega), toNat_byteOf (by omega)]
  omega

theorem checkOfTwo_byteOf (c : Check) : checkOfTwo (byteOf (c.toNat / 256)) (byteOf (c.toNat % 256)) = c := by
  rw [checkOfTwo, ofTwo_byteOf c.isLt, BitVec.ofNat_toNat, BitVec.setWidth_eq]

theorem deskOf_byteOf (desk : Desk) : deskOf (byteOf desk.val) = some desk := by
  have hd := desk.isLt
  have hval := toNat_byteOf (n := desk.val) (by omega)
  rw [deskOf, dif_pos (by omega)]
  exact congrArg some (Fin.ext hval)

/-! #### Pieces of one length -/

section Pieces
variable {α : Type} {f : α → List Byte} {m : Nat} {xs : List α} (hm : ∀ x ∈ xs, (f x).length = m)
include hm

theorem length_flatMap_pieces : (xs.flatMap f).length = m * xs.length := by
  induction xs with
  | nil => rfl
  | cons x xs ih =>
    obtain ⟨hx, hxs⟩ := List.forall_mem_cons.1 hm
    rw [List.flatMap_cons, List.length_append, hx, ih hxs, List.length_cons, Nat.mul_succ, Nat.add_comm]

/-- The piece at a place of a row of pieces. -/
theorem drop_flatMap_pieces {i : Nat} (hi : i < xs.length) (rest : List Byte) :
    ∃ more, (xs.flatMap f ++ rest).drop (m * i) = f xs[i] ++ more := by
  induction xs generalizing i with
  | nil => exact absurd hi (Nat.not_lt_zero i)
  | cons x xs ih =>
    obtain ⟨hx, hxs⟩ := List.forall_mem_cons.1 hm
    rw [List.flatMap_cons, List.append_assoc]
    cases i with
    | zero => exact ⟨xs.flatMap f ++ rest, rfl⟩
    | succ i =>
      rw [Nat.mul_succ, List.drop_append, hx, Nat.add_sub_cancel, List.drop_eq_nil_of_le (by omega), List.nil_append]
      exact ih hxs (Nat.lt_of_succ_lt_succ hi)

theorem take_drop_flatMap_pieces {i : Nat} (hi : i < xs.length) (rest : List Byte) :
    ((xs.flatMap f ++ rest).drop (m * i)).take m = f xs[i] := by
  obtain ⟨more, hmore⟩ := drop_flatMap_pieces hm hi rest
  rw [hmore, List.take_left' (hm _ (List.getElem_mem hi))]

theorem byteAt_flatMap_pieces {i k : Nat} (hi : i < xs.length) (hk : k < m) (rest : List Byte) :
    byteAt (xs.flatMap f ++ rest) (m * i + k) = byteAt (f xs[i]) k := by
  obtain ⟨more, hmore⟩ := drop_flatMap_pieces hm hi rest
  have hdrop : byteAt (xs.flatMap f ++ rest) (m * i + k) = byteAt ((xs.flatMap f ++ rest).drop (m * i)) k := by
    simp only [byteAt, List.getD_eq_getElem?_getD, List.getElem?_drop]
  rw [hdrop, hmore, byteAt_append_left (by rw [hm _ (List.getElem_mem hi)]; exact hk)]

theorem fieldAt_flatMap_pieces {i k : Nat} (hi : i < xs.length) (hk : k + 1 < m) (rest : List Byte) :
    fieldAt (xs.flatMap f ++ rest) (m * i + k) = fieldAt (f xs[i]) k := by
  rw [fieldAt, byteAt_flatMap_pieces hm hi (by omega), Nat.add_assoc, byteAt_flatMap_pieces hm hi hk, fieldAt]

end Pieces

/-! #### Padded characters (R4, R12, R14) -/

theorem ne_space_of_slugChar {b : Byte} (h : slugChar b = true) : b ≠ space := by
  rintro rfl
  exact absurd h (by decide)

theorem length_padded {n : Nat} {cs : Chars} (h : cs.length ≤ n) : (padded n cs).length = n := by
  rw [padded, List.length_append, List.length_replicate]
  omega

/-- Characters of the slug set are read back from their padded field. -/
theorem storedChars_padded (n : Nat) {cs : Chars} (hne : 1 ≤ cs.length) (hcs : ∀ b ∈ cs, slugChar b = true) :
    storedChars (padded n cs) = some cs := by
  have htake : (padded n cs).takeWhile (fun b => b != space) = cs := by
    rw [padded, List.takeWhile_append_of_pos (fun b hb => bne_iff_ne.2 (ne_space_of_slugChar (hcs b hb)))]
    cases n - cs.length with
    | zero => exact List.append_nil cs
    | succ k => exact List.append_nil cs
  have hrest : (padded n cs).drop cs.length = List.replicate (n - cs.length) space := List.drop_left
  have hcs' : cs ≠ [] := List.ne_nil_of_length_pos hne
  unfold storedChars
  dsimp only
  rw [htake, hrest, if_pos]
  simpa [hcs', List.all_replicate] using hcs

/-! #### A story record (R13, R14, R18) -/

theorem length_extentBytes (e : Extent) : (extentBytes e).length = 4 := rfl

/-- The fields of a record between its slug and its extents (R13). -/
def recordFields (r : StoryRecord) : List Byte :=
  [1, byteOf r.origin.val, byteOf r.edition, byteOf r.extents.length] ++ twoBytes r.version ++ twoBytes r.length ++ checkBytes r.check

theorem length_extents (es : List Extent) : (es.flatMap extentBytes).length = 4 * es.length :=
  length_flatMap_pieces (fun e _ => length_extentBytes e)

theorem recordBytes_eq (r : StoryRecord) :
    recordBytes r = padded 16 r.slug ++ (recordFields r ++ (r.extents.flatMap extentBytes ++
      List.replicate (64 - (padded 16 r.slug ++ recordFields r ++ r.extents.flatMap extentBytes).length) 0)) := by
  simp [recordBytes, recordFields, List.append_assoc]

theorem length_recordBytes {r : StoryRecord} (hslug : r.slug.length ≤ 16) (hext : r.extents.length ≤ 8) :
    (recordBytes r).length = 64 := by
  have hfields : (recordFields r).length = 10 := rfl
  rw [recordBytes_eq]
  simp only [List.length_append, List.length_replicate, length_padded hslug, hfields, length_extents]
  omega

/-- The extents in use are read back (R13). -/
theorem extentsAt_of_fields {rec : List Byte} {es : List Extent}
    (h : ∀ (i : Nat) (hi : i < es.length), fieldAt rec (26 + 4 * i) = es[i].start ∧ fieldAt rec (28 + 4 * i) = es[i].count) :
    extentsAt rec es.length = es := by
  apply List.ext_getElem
  · simp [extentsAt]
  · intro i _ hi
    simp only [extentsAt, List.getElem_map, List.getElem_range]
    rw [(h i hi).1, (h i hi).2]

/-- What R14 asks of a record, in the terms of its fields. -/
def StoryRecord.wellFormed (r : StoryRecord) : Prop :=
  (1 ≤ r.slug.length ∧ r.slug.length ≤ 16 ∧ ∀ b ∈ r.slug, slugChar b = true) ∧ r.edition ≤ 15 ∧
    (1 ≤ r.version ∧ r.version ≤ 65535) ∧ r.length ≤ 61440 ∧ r.extents.length ≤ 8 ∧
    (∀ e ∈ r.extents, 1 ≤ e.count ∧ e.count ≤ 120 ∧ e.start + e.count ≤ 2280) ∧ totalCount r.extents = (r.length + 511) / 512

section Record
variable {r : StoryRecord} (hslug : r.slug.length ≤ 16)
include hslug

theorem take_recordBytes : (recordBytes r).take 16 = padded 16 r.slug := by
  rw [recordBytes_eq, List.take_left' (length_padded hslug)]

theorem byteAt_recordBytes {i : Nat} (hi : i < 10) : byteAt (recordBytes r) (16 + i) = byteAt (recordFields r) i := by
  rw [recordBytes_eq, byteAt_append_right (length_padded hslug), byteAt_append_left hi]

theorem fieldAt_recordBytes {i : Nat} (hi : i + 1 < 10) : fieldAt (recordBytes r) (16 + i) = fieldAt (recordFields r) i := by
  rw [recordBytes_eq, fieldAt_append_right (length_padded hslug), fieldAt_append_left hi]

theorem fieldAt_recordBytes_extent {i k : Nat} (hi : i < r.extents.length) (hk : k + 1 < 4) :
    fieldAt (recordBytes r) (26 + (4 * i + k)) = fieldAt (extentBytes r.extents[i]) k := by
  have hfront : (padded 16 r.slug ++ recordFields r).length = 26 := by rw [List.length_append, length_padded hslug]; rfl
  rw [recordBytes_eq, ← List.append_assoc, fieldAt_append_right hfront, fieldAt_flatMap_pieces (fun e _ => length_extentBytes e) hi hk]

theorem extentsAt_recordBytes (hsound : ∀ e ∈ r.extents, 1 ≤ e.count ∧ e.count ≤ 120 ∧ e.start + e.count ≤ 2280) :
    extentsAt (recordBytes r) r.extents.length = r.extents := by
  refine extentsAt_of_fields (fun i hi => ?_)
  obtain ⟨hcount, hcount', hend⟩ := hsound _ (List.getElem_mem hi)
  refine ⟨(fieldAt_recordBytes_extent hslug hi (by omega : 0 + 1 < 4)).trans (ofTwo_byteOf (by omega)), ?_⟩
  rw [show 28 + 4 * i = 26 + (4 * i + 2) by omega]
  exact (fieldAt_recordBytes_extent hslug hi (by omega : 2 + 1 < 4)).trans (ofTwo_byteOf (by omega))

theorem checkOfTwo_recordBytes : checkOfTwo (byteAt (recordBytes r) 24) (byteAt (recordBytes r) 25) = r.check := by
  have hhi : byteAt (recordBytes r) 24 = byteOf (r.check.toNat / 256) := byteAt_recordBytes hslug (by omega : 8 < 10)
  have hlo : byteAt (recordBytes r) 25 = byteOf (r.check.toNat % 256) := byteAt_recordBytes hslug (by omega : 9 < 10)
  rw [hhi, hlo, checkOfTwo_byteOf]

end Record

/-- A well-formed record is kept as it was recorded. -/
theorem examine_recordBytes {r : StoryRecord} (h : r.wellFormed) : examine (recordBytes r) = .kept r := by
  obtain ⟨⟨hne, hslug, hchars⟩, hedition, ⟨hversion, hversion'⟩, hlength, hext, hsound, htotal⟩ := h
  have hstate : byteAt (recordBytes r) 16 = 1 := byteAt_recordBytes hslug (by omega : 0 < 10)
  have horigin : deskOf (byteAt (recordBytes r) 17) = some r.origin :=
    (congrArg deskOf (byteAt_recordBytes hslug (by omega : 1 < 10))).trans (deskOf_byteOf r.origin)
  have hed : (byteAt (recordBytes r) 18).toNat = r.edition :=
    (congrArg BitVec.toNat (byteAt_recordBytes hslug (by omega : 2 < 10))).trans (toNat_byteOf (by omega))
  have hn : (byteAt (recordBytes r) 19).toNat = r.extents.length :=
    (congrArg BitVec.toNat (byteAt_recordBytes hslug (by omega : 3 < 10))).trans (toNat_byteOf (by omega))
  have hver : fieldAt (recordBytes r) 20 = r.version :=
    (fieldAt_recordBytes hslug (by omega : 4 + 1 < 10)).trans (ofTwo_byteOf (by omega))
  have hlen : fieldAt (recordBytes r) 22 = r.length :=
    (fieldAt_recordBytes hslug (by omega : 6 + 1 < 10)).trans (ofTwo_byteOf (by omega))
  unfold examine
  rw [hstate, take_recordBytes hslug, storedChars_padded 16 hne hchars, horigin, hn, hed, hver, hlen, checkOfTwo_recordBytes hslug]
  dsimp only
  rw [extentsAt_recordBytes hslug hsound, if_neg (by decide), if_neg (by decide), if_pos]
  simp only [Bool.and_eq_true, decide_eq_true_eq, List.all_eq_true, extentSound]
  refine ⟨⟨⟨⟨⟨hedition, hversion⟩, hlength⟩, hext⟩, fun e he => ?_⟩, htotal⟩
  obtain ⟨hcount, hcount', hend⟩ := hsound e he
  exact ⟨⟨hcount, hcount'⟩, hend⟩

theorem examine_freeRecordBytes : examine freeRecordBytes = .free := rfl

/-! #### A catalogue sector (R18, R37) -/

theorem slotsOf_eq_map (q : CatNo) : slotsOf q = (List.finRange 8).map (slotAt q) := rfl

/-- A slot without a carried change, FILED only with a record the mount accepts. -/
def Slot.plain (t : Slot) : Prop := t.carried = false ∧ (t.state = .filed → t.recordable)

theorem recorded_of_filed {t : Slot} (hc : t.carried = false) (hs : t.state = .filed) : t.recorded = recordBytes t.record := by
  simp [Slot.recorded, hc, hs]

theorem recorded_of_not_filed {t : Slot} (hc : t.carried = false) (hs : t.state ≠ .filed) : t.recorded = freeRecordBytes := by
  simp [Slot.recorded, hc, hs]

theorem length_recorded {t : Slot} (h : t.plain) : t.recorded.length = 64 := by
  obtain ⟨hc, hrec⟩ := h
  by_cases hs : t.state = .filed
  · obtain ⟨⟨_, hslug, _⟩, _, _, _, hext, _⟩ := hrec hs
    rw [recorded_of_filed hc hs, length_recordBytes hslug hext]
  · rw [recorded_of_not_filed hc hs]; rfl

/-- A plain slot is examined back: its record when it is FILED, a free slot otherwise. -/
theorem examine_recorded {t : Slot} (h : t.plain) :
    examine t.recorded = if t.state == .filed then .kept t.record else .free := by
  obtain ⟨hc, hrec⟩ := h
  by_cases hs : t.state = .filed
  · rw [recorded_of_filed hc hs, if_pos (by simp [hs])]
    exact examine_recordBytes (hrec hs)
  · rw [recorded_of_not_filed hc hs, if_neg (by simpa using hs)]
    exact examine_freeRecordBytes

theorem length_sectorImage {slots : Vector Slot 232} {q : CatNo} (h : ∀ n ∈ slotsOf q, (slots[n]).plain) :
    (sectorImage slots q).length = 512 :=
  length_flatMap_pieces (m := 64) (fun n hn => length_recorded (h n hn))

/-- The 64 bytes of a slot in the image of its catalogue sector (R10). -/
theorem record_of_sectorImage {slots : Vector Slot 232} {q : CatNo} (h : ∀ n ∈ slotsOf q, (slots[n]).plain) (i : Fin 8) :
    ((sectorImage slots q).drop (64 * i.val)).take 64 = (slots[slotAt q i]).recorded := by
  have hpiece := take_drop_flatMap_pieces (f := fun n => (slots[n]).recorded) (m := 64) (fun n hn => length_recorded (h n hn))
    (show i.val < (slotsOf q).length from i.isLt) []
  rw [List.append_nil] at hpiece
  refine hpiece.trans (congrArg (fun n : SlotNo => (slots[n]).recorded) ?_)
  simp only [slotsOf_eq_map, List.getElem_map, List.getElem_finRange, Fin.cast_mk, Fin.eta]

/-- What the examination of one record adds to those of its sector (R37). -/
def keepExamined (q : CatNo) (acc : List (SlotNo × StoryRecord) × Bool) (i : Fin 8) : Examined → List (SlotNo × StoryRecord) × Bool
  | .free => acc
  | .discarded => (acc.1, true)
  | .kept r => (acc.1 ++ [(slotAt q i, r)], acc.2)

theorem examineSector_eq_foldl (q : CatNo) (bytes : List Byte) :
    examineSector q bytes =
      (List.finRange 8).foldl (fun acc i => keepExamined q acc i (examine ((bytes.drop (64 * i.val)).take 64))) ([], false) := rfl

/-- Slots that are examined back one by one are kept in their order, and nothing is discarded. -/
theorem foldl_keepExamined (q : CatNo) (slots : Vector Slot 232) (found : Fin 8 → Examined)
    (h : ∀ i, found i = if (slots[slotAt q i]).state == .filed then .kept (slots[slotAt q i]).record else .free)
    (is : List (Fin 8)) (acc : List (SlotNo × StoryRecord)) :
    is.foldl (fun acc i => keepExamined q acc i (found i)) (acc, false) =
      (acc ++ ((is.map (slotAt q)).filter (fun n => (slots[n]).state == .filed)).map (fun n => (n, (slots[n]).record)), false) := by
  induction is generalizing acc with
  | nil => simp
  | cons i is ih =>
    rw [List.foldl_cons, h i, List.map_cons, List.filter_cons]
    by_cases hf : (slots[slotAt q i]).state == .filed
    · rw [if_pos hf, if_pos hf, keepExamined, ih, List.map_cons, List.append_assoc, List.singleton_append]
    · rw [if_neg hf, if_neg hf, keepExamined, ih]

theorem examineSector_sectorImage {slots : Vector Slot 232} {q : CatNo} (h : ∀ n ∈ slotsOf q, (slots[n]).plain) :
    examineSector q (sectorImage slots q) =
      (((slotsOf q).filter (fun n => (slots[n]).state == .filed)).map (fun n => (n, (slots[n]).record)), false) := by
  have hexamined (i : Fin 8) : examine (((sectorImage slots q).drop (64 * i.val)).take 64) =
      if (slots[slotAt q i]).state == .filed then .kept (slots[slotAt q i]).record else .free := by
    rw [record_of_sectorImage h i]
    exact examine_recorded (h _ (slotsOf_eq_map q ▸ List.mem_map_of_mem (List.mem_finRange i)))
  rw [examineSector_eq_foldl, slotsOf_eq_map]
  exact foldl_keepExamined q slots _ hexamined (List.finRange 8) []

/-! #### A label (R11, R12) -/

theorem toSector_eq {bytes : List Byte} (h : bytes.length ≤ 512) : toSector bytes = bytes ++ List.replicate (512 - bytes.length) 0 := by
  unfold toSector overwrite zeroSector
  rw [List.take_zero, List.nil_append, Nat.zero_add, List.drop_replicate, List.take_of_length_le]
  simp only [List.length_append, List.length_replicate]
  omega

theorem length_toSector (bytes : List Byte) : (toSector bytes).length = 512 := by
  simp only [toSector, overwrite, zeroSector, List.length_take, List.length_append, List.length_drop, List.length_replicate]
  omega

section Label
variable {name : Chars} {skew : Nat} {bad : List Nat} (hname : name.length ≤ 12) (hbad : bad.length ≤ 16)
include hname hbad

/-- A label is its mark and version, its name, its skew and count, and its bad list (R11). -/
theorem labelBytes_eq : ∃ rest, labelBytes name skew bad =
    (formatMark ++ [1]) ++ (padded 12 name ++ ([byteOf skew, byteOf bad.length] ++ (bad.flatMap twoBytes ++ rest))) := by
  have hlist : (bad.flatMap twoBytes).length = 2 * bad.length := length_flatMap_pieces (fun _ _ => rfl)
  refine ⟨_, (toSector_eq ?_).trans (by simp only [List.append_assoc]; rfl)⟩
  simp only [List.length_append, length_padded hname, hlist, formatMark, List.length_cons, List.length_nil]
  omega

theorem labelOf_labelBytes (hne : 1 ≤ name.length) (hchars : ∀ b ∈ name, slugChar b = true) (hskew : skew ≤ 14)
    (hin : ∀ l ∈ bad, l < 2280) : labelOf (labelBytes name skew bad) = some { name := name, skew := skew, bad := bad } := by
  obtain ⟨rest, heq⟩ := labelBytes_eq (skew := skew) hname hbad
  have hpad := length_padded hname
  have hmark : (labelBytes name skew bad).take 4 = formatMark := by rw [heq]; rfl
  have hversion : byteAt (labelBytes name skew bad) 4 = 1 := by rw [heq]; rfl
  have hstored : storedChars (((labelBytes name skew bad).drop 5).take 12) = some name := by
    rw [heq, List.drop_left' (l₁ := formatMark ++ [1]) (by rfl), List.take_left' hpad, storedChars_padded 12 hne hchars]
  have hfront : ((formatMark ++ [1]) ++ padded 12 name).length = 17 := by rw [List.length_append, hpad]; rfl
  have hskew' : (byteAt (labelBytes name skew bad) 17).toNat = skew := by
    rw [heq, ← List.append_assoc, byteAt_append_right (i := 0) hfront]
    exact toNat_byteOf (by omega)
  have hcount : (byteAt (labelBytes name skew bad) 18).toNat = bad.length := by
    rw [heq, ← List.append_assoc, byteAt_append_right (i := 1) hfront]
    exact toNat_byteOf (by omega)
  have hentries : badEntries (labelBytes name skew bad) bad.length = bad := by
    have hfront' : (((formatMark ++ [1]) ++ padded 12 name) ++ [byteOf skew, byteOf bad.length]).length = 19 := by
      rw [List.length_append, hfront]; rfl
    apply List.ext_getElem
    · simp [badEntries]
    · intro i _ hi
      simp only [badEntries, List.getElem_map, List.getElem_range]
      rw [heq, ← List.append_assoc, ← List.append_assoc, fieldAt_append_right hfront',
        ← Nat.add_zero (2 * i), fieldAt_flatMap_pieces (f := twoBytes) (m := 2) (fun _ _ => rfl) hi (by omega)]
      have := hin _ (List.getElem_mem hi)
      exact ofTwo_byteOf (by omega)
  unfold labelOf
  rw [hstored]
  dsimp only
  rw [hmark, hversion, hskew', hcount, hentries, if_pos]
  simp only [beq_self_eq_true, Bool.and_eq_true, decide_eq_true_eq, List.all_eq_true, true_and]
  exact ⟨⟨hskew, hbad⟩, hin⟩

end Label

/-- Settles O53: each field is read back at its place, and the pieces of a row at theirs. -/
theorem recordedFormsReadBackAsWritten : Obligations.RecordedFormsReadBackAsWritten :=
  ⟨fun _ _ h => ⟨length_sectorImage h, examineSector_sectorImage h⟩,
    fun _ _ _ hne hname hchars hskew hbad hin =>
      ⟨length_toSector _, labelOf_labelBytes hname hbad hne hchars hskew hin⟩⟩

end Sys2Proof.Machine
end

section
namespace Sys2Proof.Machine

/-! ### The format sequencer (R44, R190, R191) -/

/-! #### The request of each step -/

theorem grantSystem_format (s : State) (p : PageNo) :
    s.grantSystem .format p = (s.setPool { s.pool with sysWaiters := s.pool.sysWaiters.tail }).grantFormat p := rfl

/-- The page of a track: its 15 sector numbers in rotational order and zero bytes after them (R7, R73, R83). -/
theorem toSector_trackOrder (skew track : Nat) : toSector (trackOrder skew track) = trackOrder skew track ++ List.replicate 497 0 := by
  have hlen : (trackOrder skew track).length = 15 := by simp [trackOrder]
  rw [toSector_eq (by omega), hlen]

section Grants
variable {s : State} {j : FormatJob} (hj : s.sequencer = some j) (p : PageNo)
include hj

theorem grantFormat_of_tracks (hp : j.phase = .tracks) :
    s.grantFormat p =
      ((s.holdPage p (.formatStep j.drive (.track j.nextTrack))).fillPage p
        (trackOrder (if j.nextTrack / 2 = 0 then 0 else j.skew) j.nextTrack ++ List.replicate 497 0)).place j.drive
          (trackTarget j.nextTrack) .formatTrack p (.formatTrack j.nextTrack) .routine := by
  rw [State.grantFormat, hj]
  simp only [hp, toSector_trackOrder]

theorem grantFormat_of_verify (hp : j.phase = .verify) :
    s.grantFormat p =
      (s.holdPage p (.formatStep j.drive (.verify j.verifyL))).place j.drive (targetOfL j.verifyL) .read p (.formatVerify j.verifyL)
        .routine := by
  rw [State.grantFormat, hj]
  simp only [hp]

theorem grantFormat_of_label (hp : j.phase = .label) :
    s.grantFormat p =
      ((s.holdPage p (.formatStep j.drive .label)).fillPage p (labelBytes j.name j.skew j.bad)).place j.drive labelTarget .writeVerify p
        .formatLabel .routine := by
  rw [State.grantFormat, hj]
  simp only [hp]

theorem grantFormat_of_catalogue (hp : j.phase = .catalogue) {q : CatNo} (hq : j.nextQ = q.val) :
    s.grantFormat p =
      (s.holdPage p (.formatStep j.drive (.catalogue q))).place j.drive (catalogueTarget q) .writeVerify p (.formatCatalogue q)
        .routine := by
  rw [State.grantFormat, hj]
  simp only [hp, hq, q.isLt, dif_pos]

end Grants

/-! #### The end of a step -/

theorem foldl_freePage_drives (ps : List PageNo) (s : State) : (ps.foldl (fun s p => State.freePage s p) s).drives = s.drives := by
  induction ps generalizing s with
  | nil => rfl
  | cons p ps ih => exact ih (s.freePage p)

theorem clearWorkList_drives (s : State) (d : DriveNo) : (s.clearWorkList d).drives = s.drives := foldl_freePage_drives _ _

/-- BLANK clears the work list and the waits for pages, and unloads the head; the rest of the drive record stands (R35, R36). -/
theorem enterBlank_eq (s : State) (d : DriveNo) :
    s.enterBlank d = ((s.clearWorkList d).leaveSystem (SystemWaiter.ofDrive d)).setDrive d
      { s.drives[d] with state := .blank, faultCause := none, head := .unloaded, idleCount := 0, mount := .clear } := by
  have hdrives : ((s.clearWorkList d).leaveSystem (SystemWaiter.ofDrive d)).drives = s.drives := clearWorkList_drives s d
  unfold State.enterBlank
  dsimp only
  rw [hdrives]
  rfl

section Ends
variable {s : State} {j : FormatJob} (hj : s.sequencer = some j) (p : PageNo)
include hj

theorem formatDone_of_tracks (hp : j.phase = .tracks) : s.formatDone p = (s.freePage p).formatAsks j.trackDone := by
  have hseq : (s.freePage p).sequencer = some j := hj
  simp only [State.formatDone, hseq, hp]

theorem formatDone_of_verify (hp : j.phase = .verify) : s.formatDone p = (s.freePage p).formatAsks j.verifyDone := by
  have hseq : (s.freePage p).sequencer = some j := hj
  simp only [State.formatDone, hseq, hp]

theorem formatDone_of_label (hp : j.phase = .label) :
    s.formatDone p = (s.freePage p).formatAsks { j with phase := .catalogue } := by
  have hseq : (s.freePage p).sequencer = some j := hj
  simp only [State.formatDone, hseq, hp]

theorem formatDone_of_catalogue (hp : j.phase = .catalogue) :
    s.formatDone p = if j.nextQ + 1 = 29 then ((s.freePage p).setSequencer none).enterMounting j.drive
      else (s.freePage p).formatAsks { j with nextQ := j.nextQ + 1 } := by
  have hseq : (s.freePage p).sequencer = some j := hj
  simp only [State.formatDone, hseq, hp]

theorem formatFailed_of_verify (hp : j.phase = .verify) :
    s.formatFailed p = if j.bad.length = 16 then ((s.freePage p).formatEnds j).raise (.faulted j.drive .tooManyBad)
      else (s.freePage p).formatAsks { j.verifyDone with bad := j.bad ++ [j.verifyL] } := by
  have hseq : (s.freePage p).sequencer = some j := hj
  simp only [State.formatFailed, hseq, hp]
  rfl

theorem formatFailed_of_not_verify (hp : j.phase ≠ .verify) : s.formatFailed p = (s.freePage p).formatEnds j := by
  have hseq : (s.freePage p).sequencer = some j := hj
  cases hphase : j.phase with
  | verify => exact absurd hphase hp
  | tracks | label | catalogue => simp only [State.formatFailed, hseq, hphase]

theorem formatProtected_eq : s.formatProtected p = (s.freePage p).formatEnds j := by
  have hseq : (s.freePage p).sequencer = some j := hj
  simp only [State.formatProtected, hseq]

end Ends

theorem trackDone_eq (j : FormatJob) :
    j.trackDone = if j.nextTrack + 1 = 154 then { j with nextTrack := 154, phase := if j.verify then .verify else .label }
      else { j with nextTrack := j.nextTrack + 1 } := by
  by_cases h : j.nextTrack + 1 = 154
  · simp [FormatJob.trackDone, FormatJob.afterTracks, Config.tracks, h]
  · simp [FormatJob.trackDone, Config.tracks, h]

theorem verifyDone_eq {j : FormatJob} (hp : j.phase = .verify) :
    j.verifyDone = { j with verifyL := j.verifyL + 1, phase := if j.verifyL + 1 = 2280 then .label else .verify } := by
  by_cases h : j.verifyL + 1 = 2280
  · simp [FormatJob.verifyDone, Config.dataSectors, h]
  · simp [FormatJob.verifyDone, Config.dataSectors, h, hp]

/-- Settles O36: the sequencer's grant and its step by the phase, with BLANK and MOUNTING written out. -/
theorem formatStepsInOrder : Obligations.FormatStepsInOrder := by
  refine ⟨?_, ?_⟩
  · intro s j p hj taken held cylinder order
    have hj' : taken.sequencer = some j := hj
    refine ⟨fun hp => ?_, fun hp => ?_, fun hp => ?_, fun q hp hq => ?_⟩
    · rw [grantSystem_format, grantFormat_of_tracks hj' p hp]; rfl
    · rw [grantSystem_format, grantFormat_of_verify hj' p hp]; rfl
    · rw [grantSystem_format, grantFormat_of_label hj' p hp]; rfl
    · rw [grantSystem_format, grantFormat_of_catalogue hj' p hp hq]; rfl
  · intro s j p hj asks idle blank afterTracks
    have hblank : (s.freePage p).formatEnds j = blank := enterBlank_eq idle j.drive
    refine ⟨fun hp => ⟨fun hn => ?_, fun hn => ?_, ?_⟩, ?_, fun hp => ⟨?_, ?_⟩, fun hp => ⟨fun hn => ?_, fun hn => ?_, ?_⟩, ?_⟩
    · rw [formatDone_of_tracks hj p hp, trackDone_eq, if_neg hn]; rfl
    · rw [formatDone_of_tracks hj p hp, trackDone_eq, if_pos hn]; rfl
    · rw [formatFailed_of_not_verify hj p (by simp [hp]), hblank]
    · intro hp next
      refine ⟨?_, fun hn => ?_, fun hn => ?_⟩
      · rw [formatDone_of_verify hj p hp, verifyDone_eq hp]; rfl
      · rw [formatFailed_of_verify hj p hp, if_neg hn, verifyDone_eq hp]; rfl
      · rw [formatFailed_of_verify hj p hp, if_pos hn, hblank]
    · exact formatDone_of_label hj p hp
    · rw [formatFailed_of_not_verify hj p (by simp [hp]), hblank]
    · rw [formatDone_of_catalogue hj p hp, if_neg hn]; rfl
    · rw [formatDone_of_catalogue hj p hp, if_pos hn]; rfl
    · rw [formatFailed_of_not_verify hj p (by simp [hp]), hblank]
    · rw [formatProtected_eq hj p, hblank]

end Sys2Proof.Machine
end

section
namespace Sys2Proof.Machine

/-! ### Catalogue-sector writes and the changes they carry (R109 to R111, R116) -/

/-! #### The image of a drive -/

section Images
variable (s : State) (d : DriveNo)

theorem images_setImage (x : Option Image) : (s.setImage d x).images[d] = x := by simp

theorem setImage_setImage (x y : Option Image) : (s.setImage d x).setImage d y = s.setImage d y := by
  simp only [State.setImage, Vector.set_set]

variable {s d} {img : Image} (hi : s.images[d] = some img)
include hi

theorem setImage_of_image : s.setImage d (some img) = s := by
  rw [← hi]
  simp only [State.setImage, Fin.getElem_fin, Vector.set_getElem_self]

theorem slot_of_image (n : SlotNo) : s.slot d n = img.slots[n] := by simp only [State.slot, hi]

theorem setSlot_of_image (n : SlotNo) (t : Slot) : s.setSlot d n t = s.setImage d (some (img.setSlot n t)) := by
  rw [State.setSlot, hi, Option.map_some]

theorem writeState_of_image (q : CatNo) : s.writeState d q = img.writes[q] := by simp only [State.writeState, hi]

theorem setWriteState_of_image (q : CatNo) (w : WriteState) :
    s.setWriteState d q w = s.setImage d (some { img with writes := img.writes.set q w }) := by
  rw [State.setWriteState, hi, Option.map_some]

end Images

/-! #### A change placed (R110) -/

theorem markDirty_of_clean {s : State} {d : DriveNo} {q : CatNo} (h : s.writeState d q = .clean) :
    s.markDirty d q = (s.setWriteState d q .dirty).joinSystem (.catalogue d q) := by
  rw [State.markDirty, h]

theorem markDirty_of_writing {s : State} {d : DriveNo} {q : CatNo} (h : s.writeState d q = .writing) :
    s.markDirty d q = s.setWriteState d q .writingDirty := by
  rw [State.markDirty, h]

theorem markDirty_of_waiting {s : State} {d : DriveNo} {q : CatNo} (h : s.writeState d q = .dirty ∨ s.writeState d q = .writingDirty) :
    s.markDirty d q = s := by
  rcases h with h | h <;> rw [State.markDirty, h]

theorem catalogueOf_eq {n : SlotNo} {q : CatNo} (h : n.val / 8 = q.val) : catalogueOf n = q := Fin.ext h

theorem mem_slotsOf_iff {m : SlotNo} {q : CatNo} : m ∈ slotsOf q ↔ m.val / 8 = q.val := by
  simp only [slotsOf_eq_map, List.mem_map, List.mem_finRange, true_and]
  constructor
  · rintro ⟨i, rfl⟩
    have := i.isLt
    simp only [slotAt]
    omega
  · intro h
    exact ⟨⟨m.val % 8, Nat.mod_lt _ (by decide)⟩, Fin.ext (by simp only [slotAt]; omega)⟩

/-- The write state a sector has already is set again without effect. -/
theorem set_writes_self (writes : Vector WriteState 29) {q : CatNo} {w : WriteState} (h : writes[q] = w) : writes.set q w = writes := by
  subst h
  exact Vector.set_getElem_self q.isLt

section Placing
variable {s : State} {d : DriveNo} {img : Image} (hi : s.images[d] = some img) {n : SlotNo} {q : CatNo} (hn : n.val / 8 = q.val)
  (c : Change)
include hi hn

/-- A change placed on a slot marks the slot's catalogue sector. -/
theorem placeChange_eq_markDirty : s.placeChange d n c =
    (s.setImage d (some (img.setSlot n { img.slots[n] with pending := some c, carried := false }))).markDirty d q := by
  rw [State.placeChange, slot_of_image hi, setSlot_of_image hi, catalogueOf_eq hn]

theorem placeChange_of_clean (hw : img.writes[q] = .clean) :
    s.placeChange d n c =
      (s.setImage d (some { img with
        slots := img.slots.set n { img.slots[n] with pending := some c, carried := false },
        writes := img.writes.set q .dirty })).setPool { s.pool with sysWaiters := s.pool.sysWaiters ++ [.catalogue d q] } := by
  have himg := images_setImage s d (some (img.setSlot n { img.slots[n] with pending := some c, carried := false }))
  rw [placeChange_eq_markDirty hi hn, markDirty_of_clean (by rw [writeState_of_image himg]; exact hw), setWriteState_of_image himg,
    setImage_setImage]
  rfl

theorem placeChange_of_dirty (hw : img.writes[q] = .dirty) :
    s.placeChange d n c = s.setImage d (some { img with
      slots := img.slots.set n { img.slots[n] with pending := some c, carried := false }, writes := img.writes.set q .dirty }) := by
  have himg := images_setImage s d (some (img.setSlot n { img.slots[n] with pending := some c, carried := false }))
  rw [placeChange_eq_markDirty hi hn, markDirty_of_waiting (.inl (by rw [writeState_of_image himg]; exact hw)), set_writes_self _ hw]
  rfl

theorem placeChange_of_writing (hw : img.writes[q] = .writing ∨ img.writes[q] = .writingDirty) :
    s.placeChange d n c = s.setImage d (some { img with
      slots := img.slots.set n { img.slots[n] with pending := some c, carried := false },
      writes := img.writes.set q .writingDirty }) := by
  have himg := images_setImage s d (some (img.setSlot n { img.slots[n] with pending := some c, carried := false }))
  rw [placeChange_eq_markDirty hi hn]
  rcases hw with hw | hw
  · rw [markDirty_of_writing (by rw [writeState_of_image himg]; exact hw), setWriteState_of_image himg, setImage_setImage]
    rfl
  · rw [markDirty_of_waiting (.inr (by rw [writeState_of_image himg]; exact hw)), set_writes_self _ hw]
    rfl

end Placing

/-! #### The carried marks and the image built (R111) -/

/-- A slot with its pending change, if it has one, marked carried. -/
def Slot.marked (t : Slot) : Slot := { t with carried := t.pending.isSome }

/-- The slots with those of a list marked. -/
def markSlots (slots : Vector Slot 232) (ns : List SlotNo) : Vector Slot 232 :=
  ns.foldl (fun (v : Vector Slot 232) (n : SlotNo) => v.set n (v[n]).marked) slots

theorem getElem_markSlots (slots : Vector Slot 232) (ns : List SlotNo) (m : SlotNo) :
    (markSlots slots ns)[m] = if m ∈ ns then (slots[m]).marked else slots[m] := by
  induction ns generalizing slots with
  | nil => rfl
  | cons n ns ih =>
    rw [markSlots, List.foldl_cons, ← markSlots, ih]
    by_cases hmn : m = n
    · subst hmn
      simp [Slot.marked]
    · have hne : (n : Nat) ≠ m := fun h => hmn (Fin.ext h.symm)
      have hget : (slots.set n (slots[n]).marked)[m] = slots[m] := Vector.getElem_set_ne n.isLt m.isLt hne
      rw [hget]
      simp [hmn]

/-- Marking the slots of a list one after another marks them in the image. -/
theorem foldl_markCarried {s : State} {d : DriveNo} {img : Image} (hi : s.images[d] = some img) (ns : List SlotNo) :
    ns.foldl (fun s n => s.setSlot d n { s.slot d n with carried := (s.slot d n).pending.isSome }) s =
      s.setImage d (some { img with slots := markSlots img.slots ns }) := by
  induction ns generalizing s img with
  | nil => exact (setImage_of_image hi).symm
  | cons n ns ih =>
    rw [List.foldl_cons, slot_of_image hi, setSlot_of_image hi, ih (images_setImage ..), setImage_setImage]
    rfl

theorem markCarried_of_image {s : State} {d : DriveNo} {img : Image} (hi : s.images[d] = some img) (q : CatNo) :
    s.markCarried d q = s.setImage d (some { img with
      slots := Vector.ofFn fun n : SlotNo => if n.val / 8 = q.val then (img.slots[n]).marked else img.slots[n] }) := by
  have hslots : markSlots img.slots (slotsOf q) =
      Vector.ofFn fun n : SlotNo => if n.val / 8 = q.val then (img.slots[n]).marked else img.slots[n] := by
    ext1 i hlt
    have hget := getElem_markSlots img.slots (slotsOf q) ⟨i, hlt⟩
    simp only [mem_slotsOf_iff] at hget
    rw [Vector.getElem_ofFn]
    exact hget
  rw [State.markCarried, foldl_markCarried hi, hslots]

theorem buildSector_of_dirty {s : State} {d : DriveNo} {img : Image} (hi : s.images[d] = some img) {q : CatNo}
    (hw : img.writes[q] = .dirty) (p : PageNo) :
    let marked : Vector Slot 232 := Vector.ofFn fun n : SlotNo => if n.val / 8 = q.val then (img.slots[n]).marked else img.slots[n]
    s.buildSector d q p =
      (s.setImage d (some { img with slots := marked, writes := img.writes.set q .writing })).fillPage p (sectorImage marked q) := by
  intro marked
  have hmarked : (s.markCarried d q).setWriteState d q .writing =
      s.setImage d (some { img with slots := marked, writes := img.writes.set q .writing }) := by
    rw [markCarried_of_image hi, setWriteState_of_image (images_setImage ..), setImage_setImage]
  unfold State.buildSector
  rw [if_pos (by rw [writeState_of_image hi, hw]), hmarked]
  simp only [images_setImage]

theorem buildSector_of_not_dirty {s : State} {d : DriveNo} {img : Image} (hi : s.images[d] = some img) {q : CatNo}
    (hw : img.writes[q] ≠ .dirty) (p : PageNo) : s.buildSector d q p = s.fillPage p (sectorImage img.slots q) := by
  unfold State.buildSector
  rw [if_neg (by rw [writeState_of_image hi]; exact hw)]
  simp only [hi]

/-! #### A removal taken back (R116) -/

section TakingBack
variable {s : State} {d : DriveNo} {img : Image} (hi : s.images[d] = some img) (n : SlotNo)
include hi

/-- The image without the change of a slot. -/
def Image.unchanged (img : Image) (n : SlotNo) : Image :=
  { img with slots := img.slots.set n { img.slots[n] with pending := none, carried := false } }

theorem setSlot_unchanged :
    s.setSlot d n { s.slot d n with pending := none, carried := false } = s.setImage d (some (img.unchanged n)) := by
  rw [slot_of_image hi, setSlot_of_image hi]
  rfl

omit hi in
theorem slot_unchanged (m : SlotNo) : (s.setImage d (some (img.unchanged n))).slot d m = (img.unchanged n).slots[m] :=
  slot_of_image (images_setImage ..) m

omit hi in
theorem writeState_unchanged (q : CatNo) : (s.setImage d (some (img.unchanged n))).writeState d q = img.writes[q] :=
  writeState_of_image (images_setImage ..) q

variable {n} {q : CatNo} (hn : n.val / 8 = q.val)
include hn

theorem takeBackRemoval_of_dirty (hw : img.writes[q] = .dirty) :
    s.takeBackRemoval d n =
      if (slotsOf q).any (fun m => ((img.unchanged n).slots[m]).pending.isSome) then s.setImage d (some (img.unchanged n))
      else ((s.setImage d (some (img.unchanged n))).withdrawCatalogue d q).setWriteState d q .clean := by
  unfold State.takeBackRemoval
  rw [setSlot_unchanged hi, catalogueOf_eq hn]
  simp only [writeState_unchanged, hw, slot_unchanged]

theorem takeBackRemoval_of_writingDirty (hw : img.writes[q] = .writingDirty) :
    s.takeBackRemoval d n =
      if (slotsOf q).any (fun m => ((img.unchanged n).slots[m]).uncarried) then s.setImage d (some (img.unchanged n))
      else (s.setImage d (some (img.unchanged n))).setWriteState d q .writing := by
  unfold State.takeBackRemoval
  rw [setSlot_unchanged hi, catalogueOf_eq hn]
  simp only [writeState_unchanged, hw, slot_unchanged]

theorem takeBackRemoval_of_other (hw : img.writes[q] = .clean ∨ img.writes[q] = .writing) :
    s.takeBackRemoval d n = s.setImage d (some (img.unchanged n)) := by
  unfold State.takeBackRemoval
  rw [setSlot_unchanged hi, catalogueOf_eq hn]
  rcases hw with hw | hw <;> simp only [writeState_unchanged, hw]

end TakingBack

theorem any_slotsOf_iff (q : CatNo) (p : SlotNo → Bool) :
    (slotsOf q).any p = true ↔ ∃ m : SlotNo, m.val / 8 = q.val ∧ p m = true := by
  simp only [List.any_eq_true, mem_slotsOf_iff]

theorem uncarried_iff (t : Slot) : t.uncarried = true ↔ t.pending.isSome = true ∧ t.carried = false := by
  simp [Slot.uncarried]

/-! #### The request or the ask withdrawn (R116) -/

theorem leaveSystem_catalogue (s : State) (d : DriveNo) (q : CatNo) :
    s.leaveSystem (fun w => w == .catalogue d q) =
      s.setPool { s.pool with sysWaiters := s.pool.sysWaiters.filter (fun w => w ≠ .catalogue d q) } := by
  have hkeep : (fun w : SystemWaiter => !(w == .catalogue d q)) = fun w => decide (w ≠ .catalogue d q) := by
    funext w
    simp [beq_eq_decide]
  rw [State.leaveSystem, hkeep]

section Withdrawing
variable {s : State} {d : DriveNo} {q : CatNo}

theorem withdrawCatalogue_of_listed {r : SectorRequest}
    (hr : s.scheds[d].workList.find? (fun r => r.owner = .catalogue q) = some r) :
    s.withdrawCatalogue d q = (s.leaveSystem (fun w => w == .catalogue d q)).withdraw d r.page := by
  have hfind : (s.leaveSystem (fun w => w == .catalogue d q)).scheds[d].workList.find? (fun r => r.owner == .catalogue q) = some r := hr
  unfold State.withdrawCatalogue
  simp only [hfind]

variable (hnone : s.scheds[d].workList.find? (fun r => r.owner = .catalogue q) = none)
include hnone

theorem withdrawCatalogue_of_inHand {h : InHand} (hh : s.scheds[d].inHand = some h) (ho : h.request.owner = .catalogue q) :
    s.withdrawCatalogue d q = (s.leaveSystem (fun w => w == .catalogue d q)).withdraw d h.request.page := by
  have hfind : (s.leaveSystem (fun w => w == .catalogue d q)).scheds[d].workList.find? (fun r => r.owner == .catalogue q) = none := hnone
  have hhand : (s.leaveSystem (fun w => w == .catalogue d q)).scheds[d].inHand = some h := hh
  unfold State.withdrawCatalogue
  simp only [hfind, hhand, ho, beq_self_eq_true, if_true]

theorem withdrawCatalogue_of_asked (hh : ∀ h, s.scheds[d].inHand = some h → h.request.owner ≠ .catalogue q) :
    s.withdrawCatalogue d q = s.leaveSystem (fun w => w == .catalogue d q) := by
  have hfind : (s.leaveSystem (fun w => w == .catalogue d q)).scheds[d].workList.find? (fun r => r.owner == .catalogue q) = none := hnone
  have hhand : (s.leaveSystem (fun w => w == .catalogue d q)).scheds[d].inHand = s.scheds[d].inHand := rfl
  unfold State.withdrawCatalogue
  simp only [hfind, hhand]
  cases hin : s.scheds[d].inHand with
  | none => rfl
  | some h => exact if_neg (by simpa using hh h hin)

end Withdrawing

/-! #### What a slot records (R18, R111) -/

theorem map_val_slotsOf (q : CatNo) : (slotsOf q).map Fin.val = List.range' (8 * q.val) 8 := by
  simp [slotsOf, slotAt, List.range']

theorem recorded_of_newVersion {t : Slot} {v : NewVersion} (hc : t.carried = true) (hp : t.pending = some (.newVersion v)) :
    t.recorded = recordBytes { slug := t.slug, origin := v.desk, edition := v.edition, version := versionAfter t v, length := v.length,
                               check := v.check, extents := v.extents } := by
  simp only [Slot.recorded, hc, hp]

theorem recorded_of_removal {t : Slot} {desk : Desk} (hc : t.carried = true) (hp : t.pending = some (.removal desk)) :
    t.recorded = freeRecordBytes := by
  simp only [Slot.recorded, hc, hp]

theorem recorded_of_uncarried {t : Slot} (h : t.carried = false ∨ t.pending = none) :
    t.recorded = if t.state == .filed then recordBytes t.record else freeRecordBytes := by
  rcases h with h | h
  · simp only [Slot.recorded, h]
  · cases hc : t.carried <;> simp only [Slot.recorded, h, hc]

/-- Settles O40: each part of the write path by the write state it meets. -/
theorem catalogueWritesCarryTheirChanges : Obligations.CatalogueWritesCarryTheirChanges := by
  refine ⟨?_, fun s d q p => rfl, ?_, ?_, ?_⟩
  · intro s d img q hi now made
    refine ⟨?_, fun p => ⟨fun hw => buildSector_of_dirty hi hw p, fun hw => buildSector_of_not_dirty hi hw p⟩, ?_⟩
    · exact fun n c hn => ⟨placeChange_of_clean hi hn c, placeChange_of_dirty hi hn c, placeChange_of_writing hi hn c⟩
    intro n hn slots back othersPending othersWait
    have hback : s.setImage d (some (img.unchanged n)) = back := rfl
    have hpending : (slotsOf q).any (fun m => ((img.unchanged n).slots[m]).pending.isSome) = true ↔ othersPending := any_slotsOf_iff q _
    have hwait : (slotsOf q).any (fun m => ((img.unchanged n).slots[m]).uncarried) = true ↔ othersWait := by
      rw [any_slotsOf_iff]
      simp only [uncarried_iff]
      rfl
    refine ⟨fun hw hno => ?_, fun hw hno => ?_, fun hdirty hwriting => ?_⟩
    · rw [takeBackRemoval_of_dirty hi hn hw, if_neg (mt hpending.1 hno), hback]
    · rw [takeBackRemoval_of_writingDirty hi hn hw, if_neg (mt hwait.1 hno), hback]
    · cases hw : img.writes[q] with
      | clean => exact takeBackRemoval_of_other hi hn (.inl hw)
      | writing => exact takeBackRemoval_of_other hi hn (.inr hw)
      | dirty =>
        rw [takeBackRemoval_of_dirty hi hn hw, if_pos (hpending.2 (by_contra fun hno => hdirty ⟨hw, hno⟩)), hback]
      | writingDirty =>
        rw [takeBackRemoval_of_writingDirty hi hn hw, if_pos (hwait.2 (by_contra fun hno => hwriting ⟨hw, hno⟩)), hback]
  · intro s d q asked listed
    have hasked : s.leaveSystem (fun w => w == .catalogue d q) = asked := leaveSystem_catalogue s d q
    refine ⟨fun r hr => ?_, fun hnone => ⟨fun h hh ho => ?_, fun hh => ?_⟩⟩
    · rw [withdrawCatalogue_of_listed hr, hasked]
    · rw [withdrawCatalogue_of_inHand hnone hh ho, hasked]
    · rw [withdrawCatalogue_of_asked hnone hh, hasked]
  · intro slots q
    rw [← map_val_slotsOf, List.flatMap_map]
    exact List.flatMap_congr fun n _ => by rw [dif_pos n.isLt]; rfl
  · intro t plain
    refine ⟨fun v hc hp => ?_, fun e hc hp => ?_, fun hplain hs => ?_, fun hplain hs => ?_⟩
    · rw [recorded_of_newVersion hc hp]; rfl
    · rw [recorded_of_removal hc hp]; rfl
    · rw [recorded_of_uncarried hplain, if_pos (by simp [hs])]; rfl
    · rw [recorded_of_uncarried hplain, if_neg (by simpa using hs)]; rfl

end Sys2Proof.Machine
end

section
namespace Sys2Proof.Machine

/-! ### Writes of a handle and their relocation (R102, R103, R138 to R142) -/

/-! #### Extents split and joined (R16, R140) -/

theorem totalCount_cons (e : Extent) (es : List Extent) : totalCount (e :: es) = e.count + totalCount es := by simp [totalCount]

theorem lt_totalCount_of_sectorAt {es : List Extent} {j l : Nat} (h : sectorAt es j = some l) : j < totalCount es := by
  induction es generalizing j with
  | nil => cases h
  | cons e es ih =>
    rw [totalCount_cons]
    rw [sectorAt] at h
    split at h
    · omega
    · have := ih h; omega

/-- The extents that take the place of one whose sector `j` is put at `l`. -/
theorem splitAt_cons_of_lt {e : Extent} {j : Nat} (h : j < e.count) (es : List Extent) (l : Nat) :
    splitAt (e :: es) j l =
      (if 0 < j then [{ start := e.start, count := j }] else []) ++ { start := l, count := 1 } ::
        ((if 0 < e.count - j - 1 then [{ start := e.start + j + 1, count := e.count - j - 1 }] else []) ++ es) := by
  rw [splitAt, if_pos h]
  simp only [List.append_assoc, List.cons_append, List.nil_append]

theorem splitAt_cons_of_le {e : Extent} {j : Nat} (h : e.count ≤ j) (es : List Extent) (l : Nat) :
    splitAt (e :: es) j l = e :: splitAt es (j - e.count) l := by
  rw [splitAt, if_neg (Nat.not_lt.2 h)]

/-- A run of no sectors before other extents may be left out. -/
theorem sectorAt_optional (start count : Nat) (es : List Extent) (i : Nat) :
    sectorAt ((if 0 < count then [{ start := start, count := count }] else []) ++ es) i =
      if i < count then some (start + i) else sectorAt es (i - count) := by
  by_cases h : 0 < count
  · rw [if_pos h]; rfl
  · obtain rfl : count = 0 := by omega
    rfl

theorem totalCount_optional (start count : Nat) (es : List Extent) :
    totalCount ((if 0 < count then [{ start := start, count := count }] else []) ++ es) = count + totalCount es := by
  by_cases h : 0 < count
  · rw [if_pos h]; exact totalCount_cons _ _
  · obtain rfl : count = 0 := by omega
    exact (Nat.zero_add _).symm

theorem sectorAt_cons (e : Extent) (es : List Extent) (i : Nat) :
    sectorAt (e :: es) i = if i < e.count then some (e.start + i) else sectorAt es (i - e.count) := rfl

theorem sectorAt_cons_single (l : Nat) (es : List Extent) (i : Nat) :
    sectorAt ({ start := l, count := 1 } :: es) i = if i = 0 then some l else sectorAt es (i - 1) := by
  rw [sectorAt_cons]
  exact ite_congr (propext Nat.lt_one_iff) (fun hi => by rw [hi]; rfl) fun _ => rfl

/-- A split moves story sector `j` alone. -/
theorem sectorAt_splitAt {es : List Extent} {j : Nat} (l : Nat) (hj : j < totalCount es) (i : Nat) :
    sectorAt (splitAt es j l) i = if i = j then some l else sectorAt es i := by
  induction es generalizing j i with
  | nil => exact absurd hj (Nat.not_lt_zero j)
  | cons e es ih =>
    rcases Nat.lt_or_ge j e.count with hlt | hle
    · rw [splitAt_cons_of_lt hlt, sectorAt_optional, sectorAt_cons_single, sectorAt_optional, sectorAt_cons]
      rcases Nat.lt_trichotomy i j with hij | rfl | hij
      · rw [if_pos hij, if_neg (Nat.ne_of_lt hij), if_pos (Nat.lt_trans hij hlt)]
      · rw [if_neg (Nat.lt_irrefl i), if_pos (Nat.sub_self i), if_pos rfl]
      · rw [if_neg (Nat.lt_asymm hij), if_neg (Nat.sub_ne_zero_of_lt hij), if_neg (Nat.ne_of_gt hij)]
        by_cases hi : i < e.count
        · rw [if_pos (show i - j - 1 < e.count - j - 1 by omega), if_pos hi]
          exact congrArg some (by omega)
        · rw [if_neg (show ¬ i - j - 1 < e.count - j - 1 by omega), if_neg hi]
          exact congrArg (sectorAt es) (by omega)
    · have hj' : j - e.count < totalCount es := by rw [totalCount_cons] at hj; omega
      rw [splitAt_cons_of_le hle, sectorAt, sectorAt, ih hj']
      by_cases hi : i < e.count
      · rw [if_pos hi, if_neg (by omega), if_pos hi]
      · rw [if_neg hi, if_neg hi]
        exact if_congr (by omega) rfl rfl

theorem totalCount_splitAt {es : List Extent} {j : Nat} (l : Nat) (hj : j < totalCount es) :
    totalCount (splitAt es j l) = totalCount es := by
  induction es generalizing j with
  | nil => rfl
  | cons e es ih =>
    rw [totalCount_cons] at hj ⊢
    rcases Nat.lt_or_ge j e.count with hlt | hle
    · rw [splitAt_cons_of_lt hlt, totalCount_optional, totalCount_cons, totalCount_optional]
      simp only
      omega
    · rw [splitAt_cons_of_le hle, totalCount_cons, ih (by omega)]

theorem joinInto_cons_of_eq {e f : Extent} (h : e.start + e.count = f.start) (fs : List Extent) :
    joinInto e (f :: fs) = { start := e.start, count := e.count + f.count } :: fs := if_pos h

theorem joinInto_cons_of_ne {e f : Extent} (h : e.start + e.count ≠ f.start) (fs : List Extent) :
    joinInto e (f :: fs) = e :: f :: fs := if_neg h

/-- Joining moves no story sector. -/
theorem sectorAt_joinInto (e : Extent) (es : List Extent) (i : Nat) : sectorAt (joinInto e es) i = sectorAt (e :: es) i := by
  cases es with
  | nil => rfl
  | cons f fs =>
    by_cases h : e.start + e.count = f.start
    · rw [joinInto_cons_of_eq h, sectorAt, sectorAt, sectorAt]
      simp only
      rcases Nat.lt_or_ge i e.count with hi | hi
      · rw [if_pos (by omega), if_pos hi]
      · rw [if_neg (by omega : ¬i < e.count)]
        by_cases hf : i < e.count + f.count
        · rw [if_pos hf, if_pos (by omega)]
          exact congrArg some (by omega)
        · rw [if_neg hf, if_neg (by omega)]
          exact congrArg (sectorAt fs) (by omega)
    · rw [joinInto_cons_of_ne h]

theorem sectorAt_joined (es : List Extent) (i : Nat) : sectorAt (joined es) i = sectorAt es i := by
  induction es generalizing i with
  | nil => rfl
  | cons e es ih => rw [joined, sectorAt_joinInto, sectorAt, sectorAt, ih]

theorem totalCount_joinInto (e : Extent) (es : List Extent) : totalCount (joinInto e es) = e.count + totalCount es := by
  cases es with
  | nil => rfl
  | cons f fs =>
    by_cases h : e.start + e.count = f.start
    · rw [joinInto_cons_of_eq h, totalCount_cons, totalCount_cons]
      simp only
      omega
    · rw [joinInto_cons_of_ne h, totalCount_cons]

theorem totalCount_joined (es : List Extent) : totalCount (joined es) = totalCount es := by
  induction es with
  | nil => rfl
  | cons e es ih => rw [joined, totalCount_joinInto, ih, totalCount_cons]

/-- No two neighbours run on into each other. -/
def Apart (es : List Extent) : Prop := es.IsChain (fun a b => a.start + a.count ≠ b.start)

theorem joinInto_apart (e : Extent) {es : List Extent} (h : Apart es) : Apart (joinInto e es) := by
  cases es with
  | nil => exact List.IsChain.singleton e
  | cons f fs =>
    by_cases heq : e.start + e.count = f.start
    · rw [joinInto_cons_of_eq heq]
      cases fs with
      | nil => exact List.IsChain.singleton _
      | cons g gs =>
        obtain ⟨hfg, hrest⟩ := List.isChain_cons_cons.1 h
        exact List.isChain_cons_cons.2 ⟨by simp only; omega, hrest⟩
    · rw [joinInto_cons_of_ne heq]
      exact List.isChain_cons_cons.2 ⟨heq, h⟩

theorem joined_apart (es : List Extent) : Apart (joined es) := by
  induction es with
  | nil => exact List.IsChain.nil
  | cons e es ih => exact joinInto_apart e ih

/-- The extents after a relocation (R140). -/
theorem sectorAt_relocated {es : List Extent} {j : Nat} (l : Nat) (hj : j < totalCount es) (i : Nat) :
    sectorAt (joined (splitAt es j l)) i = if i = j then some l else sectorAt es i := by
  rw [sectorAt_joined, sectorAt_splitAt l hj]

/-! #### The lowest free sector (R101, R102) -/

/-- The first free run begins at the lowest free sector. -/
theorem freeRuns_head (pos : Nat) (ls : List Nat) (hasc : ls.Pairwise (fun a b => a < b)) (hin : ∀ l ∈ ls, pos ≤ l) :
    (((freeRuns pos ls).head?).map Extent.start = none → ∀ l, pos ≤ l → l < Config.dataSectors → l ∈ ls) ∧
    ∀ l, ((freeRuns pos ls).head?).map Extent.start = some l → pos ≤ l ∧ l ∉ ls ∧ ∀ k, pos ≤ k → k < l → k ∈ ls := by
  induction ls generalizing pos with
  | nil =>
    rw [freeRuns]
    split
    · refine ⟨nofun, fun l hl => ?_⟩
      obtain rfl : pos = l := Option.some.inj hl
      exact ⟨Nat.le_refl _, List.not_mem_nil, fun k hk hlt => absurd hlt (Nat.not_lt.2 hk)⟩
    · exact ⟨fun _ l hl hlt => by omega, nofun⟩
  | cons m ls ih =>
    obtain ⟨hm, hasc⟩ := List.pairwise_cons.1 hasc
    obtain ⟨hpos, hin⟩ := List.forall_mem_cons.1 hin
    rw [freeRuns]
    split
    · rename_i hlt
      refine ⟨nofun, fun l hl => ?_⟩
      obtain rfl : pos = l := Option.some.inj hl
      refine ⟨Nat.le_refl _, fun hmem => ?_, fun k hk hk' => absurd hk' (Nat.not_lt.2 hk)⟩
      rcases List.mem_cons.1 hmem with rfl | hmem
      · omega
      · have := hm _ hmem; omega
    · rename_i hge
      obtain rfl : m = pos := by omega
      obtain ⟨hnone, hsome⟩ := ih (max m (m + 1)) hasc (fun l hl => by have := hm l hl; omega)
      refine ⟨fun h l hl hlt => ?_, fun l h => ?_⟩
      · rcases Nat.eq_or_lt_of_le hl with rfl | hl
        · exact List.mem_cons_self
        · exact List.mem_cons_of_mem _ (hnone h l (by omega) hlt)
      · obtain ⟨hle, hnot, hbelow⟩ := hsome l h
        refine ⟨by omega, fun hmem => (List.mem_cons.1 hmem).elim (by omega) hnot, fun k hk hlt => ?_⟩
        rcases Nat.eq_or_lt_of_le hk with rfl | hk
        · exact List.mem_cons_self
        · exact List.mem_cons_of_mem _ (hbelow k (by omega) hlt)

section LowestFree
variable {img : Image} (hmap : img.mapSound)
include hmap

theorem lowestFree_spec :
    (img.lowestFree = none → ∀ l, l < 2280 → l ∈ img.allocated) ∧
    ∀ l, img.lowestFree = some l → l < 2280 ∧ l ∉ img.allocated ∧ ∀ k, k < l → k ∈ img.allocated := by
  obtain ⟨hnone, hsome⟩ := freeRuns_head 0 img.allocated hmap.1 (fun l _ => Nat.zero_le l)
  refine ⟨fun h l hl => hnone h l (Nat.zero_le l) hl, fun l h => ?_⟩
  obtain ⟨_, hnot, hbelow⟩ := hsome l h
  exact ⟨Image.lowestFree_lt hmap h, hnot, fun k hk => hbelow k (Nat.zero_le k) hk⟩

theorem lowestFree_eq_none_iff : img.lowestFree = none ↔ ∀ l, l < 2280 → l ∈ img.allocated := by
  refine ⟨(lowestFree_spec hmap).1, fun hall => ?_⟩
  cases h : img.lowestFree with
  | none => rfl
  | some l =>
    obtain ⟨hlt, hnot, _⟩ := (lowestFree_spec hmap).2 l h
    exact absurd (hall l hlt) hnot

theorem lowestFree_eq_some_iff (l : Nat) :
    img.lowestFree = some l ↔ l < 2280 ∧ l ∉ img.allocated ∧ ∀ k, k < l → k ∈ img.allocated := by
  refine ⟨(lowestFree_spec hmap).2 l, fun ⟨hlt, hnot, hbelow⟩ => ?_⟩
  cases h : img.lowestFree with
  | none => exact absurd ((lowestFree_spec hmap).1 h l hlt) hnot
  | some m =>
    obtain ⟨_, hnot', hbelow'⟩ := (lowestFree_spec hmap).2 m h
    rcases Nat.lt_trichotomy l m with hlm | rfl | hlm
    · exact absurd (hbelow' l hlm) hnot
    · rfl
    · exact absurd (hbelow m hlm) hnot'

end LowestFree

/-! #### The ends of a WRITE (R138, R139) -/

section Writes
variable {s : State} {desk : Desk} {h : HandleNo} {w : WriteHandle} (hh : s.handle desk h = .writing w) {j : Nat} {p : PageNo}

theorem fillingPage_of_filling {table : List WriteEntry} (hf : table.getD j .unstarted = .filling p) : fillingPage table j = some p := by
  simp only [fillingPage, hf]

theorem fillingPage_of_not_filling {table : List WriteEntry} (hf : ∀ x, table.getD j .unstarted ≠ .filling x) :
    fillingPage table j = none := by
  unfold fillingPage
  split
  · rename_i x hx; exact absurd hx (hf x)
  · rfl

/-- A WRITE starts at the place of its story sector (R16). -/
theorem startWrite_of_sectorAt {l : Nat} (hl : sectorAt w.reservation j = some l) :
    s.startWrite desk h w j p =
      (s.setHandle desk h (.writing { w with table := w.table.set j (.writing p) })).place w.drive (targetOfL l) .write p
        (.handleSector desk h j) w.cls := by
  rw [State.startWrite, storyTarget, hl, Option.getD_some]

include hh

theorem queueSector_of_filling (hf : w.table.getD j .unstarted = .filling p) :
    s.queueSector desk h j = if sectorEnd w.length j ≤ w.mark then s.startWrite desk h w j p else s := by
  simp only [State.queueSector, hh, fillingPage_of_filling hf]

theorem queueSector_of_not_filling (hf : ∀ x, w.table.getD j .unstarted ≠ .filling x) : s.queueSector desk h j = s := by
  simp only [State.queueSector, hh, fillingPage_of_not_filling hf]

theorem writeDone_of_writing (hw : w.table.getD j .unstarted = .writing p) :
    s.writeDone desk h j p =
      ((s.setHandle desk h (.writing { w with table := w.table.set j .written })).freePage p).placeVersion desk h := by
  simp only [State.writeDone, hh, hw, beq_self_eq_true, if_true]

theorem writeProtected_of_writing (hw : w.table.getD j .unstarted = .writing p) :
    s.writeProtected desk h j p = s.failHandle desk h w .writeProtected := by
  simp only [State.writeProtected, hh, hw, beq_self_eq_true, if_true]

theorem writeFailed_of_writing (hw : w.table.getD j .unstarted = .writing p) :
    s.writeFailed desk h j p = s.relocate desk h w j p := by
  simp only [State.writeFailed, hh, hw, beq_self_eq_true, if_true]

/-- A page whose sector was given up is only freed. -/
theorem writeEnds_of_not_writing (hw : w.table.getD j .unstarted ≠ .writing p) :
    s.writeDone desk h j p = s.freePage p ∧ s.writeProtected desk h j p = s.freePage p ∧ s.writeFailed desk h j p = s.freePage p := by
  simp only [State.writeDone, State.writeProtected, State.writeFailed, hh, beq_iff_eq, hw, if_false, and_self]

end Writes

/-! #### Relocation (R103, R140) -/

/-- An image with a sector more on its suspect list. -/
def Image.suspects (img : Image) (l : Nat) : Image := { img with suspect := img.suspect ++ [l] }

/-- The relocation tally after a sector joins a suspect list, which counts when the list is full (R103). -/
def relocationsWith (img : Image) (relocations : Nat) : Nat :=
  if 16 ≤ img.suspect.length then min (relocations + 1) 65535 else relocations

theorem setDriveTally_self (s : State) (d : DriveNo) : s.setDriveTally d s.driveTallies[d] = s := by
  simp only [State.setDriveTally, Fin.getElem_fin, Vector.set_getElem_self]

theorem addSuspect_of_image {s : State} {d : DriveNo} {img : Image} (hi : s.images[d] = some img) (l : Nat) :
    s.addSuspect d l = (s.setImage d (some (img.suspects l))).setDriveTally d
      { s.driveTallies[d] with relocations := relocationsWith img s.driveTallies[d].relocations } := by
  unfold State.addSuspect relocationsWith
  simp only [hi]
  by_cases hfull : 16 ≤ img.suspect.length
  · rw [if_pos hfull, if_pos (by exact hfull)]
    rfl
  · rw [if_neg hfull, if_neg (by exact hfull)]
    exact (setDriveTally_self (s.setImage d (some (img.suspects l))) d).symm

section Relocation
variable {s : State} {desk : Desk} {h : HandleNo} {w : WriteHandle} {img : Image} (hi : s.images[w.drive] = some img) {j l : Nat}
  (hl : sectorAt w.reservation j = some l) (p : PageNo)
include hi hl

/-- A sector that joins the suspects stands allocated or free as before, so the lowest free sector is the same. -/
theorem relocate_of_full (hf : img.lowestFree = none) :
    s.relocate desk h w j p = (s.addSuspect w.drive l).failHandle desk h w .diskFull := by
  have himg : (s.addSuspect w.drive l).images[w.drive] = some (img.suspects l) := by
    rw [addSuspect_of_image hi]
    exact images_setImage ..
  have hf' : (img.suspects l).lowestFree = none := hf
  simp only [State.relocate, hl, Option.getD_some, himg, hf']

theorem relocate_of_free {m : Nat} (hf : img.lowestFree = some m) :
    s.relocate desk h w j p =
      if 8 < (joined (splitAt w.reservation j m)).length then (s.addSuspect w.drive l).failHandle desk h w .fragmented
      else (((s.addSuspect w.drive l).setImage w.drive (some ((img.suspects l).markAllocated [m]))).countDrive w.drive .relocations
        1).startWrite desk h { w with reservation := joined (splitAt w.reservation j m) } j p := by
  have himg : (s.addSuspect w.drive l).images[w.drive] = some (img.suspects l) := by
    rw [addSuspect_of_image hi]
    exact images_setImage ..
  have hf' : (img.suspects l).lowestFree = some m := hf
  simp only [State.relocate, hl, Option.getD_some, himg, hf']
  rfl

/-- The sector moved is written at the sector taken (R140). -/
theorem relocate_of_fits {m : Nat} (hf : img.lowestFree = some m) (hfit : (joined (splitAt w.reservation j m)).length ≤ 8) :
    let tally := s.driveTallies[w.drive]
    let counted := relocationsWith img tally.relocations
    s.relocate desk h w j p =
      (((((s.setImage w.drive (some (img.suspects l))).setDriveTally w.drive { tally with relocations := counted }).setImage w.drive
        (some ((img.suspects l).markAllocated [m]))).setDriveTally w.drive
          { tally with relocations := min (counted + 1) 65535 }).setHandle desk h
            (.writing { w with reservation := joined (splitAt w.reservation j m), table := w.table.set j (.writing p) })).place w.drive
              (targetOfL m) .write p (.handleSector desk h j) w.cls := by
  intro tally counted
  have hmoved : sectorAt (joined (splitAt w.reservation j m)) j = some m := by
    rw [sectorAt_relocated m (lt_totalCount_of_sectorAt hl), if_pos rfl]
  have hcount : (((s.setImage w.drive (some (img.suspects l))).setDriveTally w.drive { tally with relocations := counted }).setImage
      w.drive (some ((img.suspects l).markAllocated [m]))).countDrive w.drive .relocations 1 =
      (((s.setImage w.drive (some (img.suspects l))).setDriveTally w.drive { tally with relocations := counted }).setImage w.drive
        (some ((img.suspects l).markAllocated [m]))).setDriveTally w.drive { tally with relocations := min (counted + 1) 65535 } := by
    simp only [State.countDrive, State.setImage_driveTallies, State.setDriveTally_driveTallies, Fin.getElem_fin,
      Vector.getElem_set_self]
    rfl
  rw [relocate_of_free hi hl p hf, if_neg (by omega), addSuspect_of_image hi, hcount, startWrite_of_sectorAt hmoved]

end Relocation

/-! #### The failure of a handle and the placing of its version (R141, R142) -/

theorem tableGivenUp_eq (table : List WriteEntry) :
    tableGivenUp table = table.map (fun e => if e = .written then WriteEntry.written else .unstarted) := by
  refine List.map_congr_left fun e _ => ?_
  cases e <;> rfl

theorem failHandle_of_orphan {w : WriteHandle} (ho : w.orphan = true) (s : State) (desk : Desk) (h : HandleNo) (cause : Reason) :
    s.failHandle desk h w cause = s.dropWrite desk h w := if_pos ho

theorem failHandle_of_present {w : WriteHandle} (ho : w.orphan = false) (s : State) (desk : Desk) (h : HandleNo) (cause : Reason) :
    s.failHandle desk h w cause =
      ((s.giveUpWrites w.drive w.table).setHandle desk h (.writing { w with state := .failed cause, table := tableGivenUp w.table
        })).failOnHandle desk h false cause :=
  if_neg (by rw [ho]; exact Bool.false_ne_true)

/-- A version is due when every sector of a COMMITTING handle is WRITTEN and it has not been placed (R142). -/
theorem versionDue_iff (w : WriteHandle) :
    (w.state == .committing && !w.placed && w.allWritten) = true ↔
      w.state = .committing ∧ w.placed = false ∧ ∀ e ∈ w.table, e = .written := by
  simp [WriteHandle.allWritten, and_assoc]

section Placing
variable {s : State} {desk : Desk} {h : HandleNo} {w : WriteHandle} (hh : s.handle desk h = .writing w)
include hh

theorem placeVersion_of_due (hdue : w.state = .committing ∧ w.placed = false ∧ ∀ e ∈ w.table, e = .written) :
    s.placeVersion desk h =
      (s.setHandle desk h (.writing { w with placed := true })).placeChange w.drive w.slot
        (.newVersion (w.newVersion desk h ((s.slot w.drive w.slot).state == .creating))) := by
  simp only [State.placeVersion, hh]
  rw [if_pos ((versionDue_iff w).2 hdue)]

theorem placeVersion_of_not_due (hdue : ¬(w.state = .committing ∧ w.placed = false ∧ ∀ e ∈ w.table, e = .written)) :
    s.placeVersion desk h = s := by
  simp only [State.placeVersion, hh]
  rw [if_neg (mt (versionDue_iff w).1 hdue)]

end Placing

/-- Settles O39: the write path by the entry of the sector's table, relocation by the lowest free sector. -/
theorem writesEndAndAreRelocated : Obligations.WritesEndAndAreRelocated := by
  refine ⟨?_, fun img hmap => ⟨lowestFree_eq_none_iff hmap, lowestFree_eq_some_iff hmap⟩, ?_, ?_,
    fun s d p rest => ⟨rfl, rfl, rfl, rfl, rfl⟩, ?_⟩
  · intro s desk h w j p write hh
    refine ⟨fun l hf hl => ⟨fun hend => ?_, fun hend => ?_⟩, queueSector_of_not_filling hh, writeEnds_of_not_writing hh,
      fun hw => ⟨writeDone_of_writing hh hw, writeProtected_of_writing hh hw, ?_⟩⟩
    · rw [queueSector_of_filling hh hf, if_pos (show sectorEnd w.length j ≤ w.mark from hend), startWrite_of_sectorAt hl]
    · rw [queueSector_of_filling hh hf, if_neg (show ¬ sectorEnd w.length j ≤ w.mark from Nat.not_le.2 hend)]
    · intro img l hi hl tally counted listed suspected
      have hsuspected : s.addSuspect w.drive l = suspected := addSuspect_of_image hi l
      rw [writeFailed_of_writing hh hw]
      refine ⟨fun hf => ?_, fun m hf => ⟨fun hlong => ?_, fun hfit => relocate_of_fits hi hl p hf hfit⟩⟩
      · rw [relocate_of_full hi hl p hf, hsuspected]
      · rw [relocate_of_free hi hl p hf, if_pos hlong, hsuspected]
  · intro s desk h w cause kept
    refine ⟨fun ho => failHandle_of_orphan ho .., fun ho => ?_⟩
    rw [failHandle_of_present ho, tableGivenUp_eq]
  · intro s desk h w hh due
    exact ⟨placeVersion_of_not_due hh, placeVersion_of_due hh⟩
  · intro es j l hj new
    have hnew (i : Nat) : sectorAt new i = if i = j then some l else sectorAt es i := sectorAt_relocated l hj i
    refine ⟨by rw [hnew, if_pos rfl], fun i hi => by rw [hnew, if_neg hi], ?_, joined_apart _⟩
    rw [totalCount_joined, totalCount_splitAt l hj]

end Sys2Proof.Machine
end

section
namespace Sys2Proof.Machine

/-! ### GET and GET-ON (R122, R126 to R128) -/

/-! #### A request of a desk that listens (R171) -/

section Listening
variable {s : State} {desk : Desk} (hl : s.listens desk)
include hl

theorem preTest_of_listens {k : Kind} {fields : List Byte} (hlen : lenAllowed k fields = true) (hsup : k.supervisor = false)
    (hadm : s.desks[desk].continuation.admits k = true) : s.preTest desk k fields = none := by
  have hidle : (s.desks[desk].inProgress.isSome && k != .cancel) = false := by rw [hl.2]; rfl
  simp only [State.preTest, hlen, hidle, hsup, hadm, Bool.not_true, Bool.false_and, Bool.false_eq_true, if_false]

/-- A desk that listens, a length that is allowed and a continuation that admits the kind: the kind's own tests come next. -/
theorem powered_taking_of_listens {k : Kind} {fields : List Byte} (own : State → State) (hlen : lenAllowed k fields = true)
    (hsup : k.supervisor = false) (hadm : s.desks[desk].continuation.admits k = true) :
    s.powered (fun s => s.taking desk k fields own) = own s := by
  rw [powered_of_powerGood hl.1, State.taking, preTest_of_listens hl hlen hsup hadm]

theorem exec_get (hb o1 o0 count : Byte) :
    exec (.get desk [hb, o1, o0, count]) s = .next (s.getOwn desk [hb, o1, o0, count]) :=
  congrArg Host.Outcome.next (powered_taking_of_listens hl (fun s => s.getOwn desk _) rfl rfl rfl)

theorem exec_getOn (count : Byte) {h : HandleNo} (hc : s.desks[desk].continuation = .get h) :
    exec (.getOn desk [count]) s = .next (s.getOf desk true h s.desks[desk].cursor count.toNat) := by
  have hown : s.getOnOwn desk [count] = s.getOf desk true h s.desks[desk].cursor count.toNat := by
    unfold State.getOnOwn
    rw [hc]
  rw [← hown]
  exact congrArg Host.Outcome.next (powered_taking_of_listens hl (fun s => s.getOnOwn desk _) rfl rfl (by rw [hc]; rfl))

end Listening

theorem handleOf_byteOf (h : HandleNo) : handleOf (byteOf h.val) = some h := by
  have hval : (byteOf h.val).toNat = h.val := toNat_byteOf (by omega)
  rw [handleOf, dif_pos (by rw [hval]; exact h.isLt)]
  exact congrArg some (Fin.ext hval)

theorem handleOf_eq_none {hb : Byte} (h : 1 < hb.toNat) : handleOf hb = none := dif_neg (by omega)

theorem getOwn_byteOf (s : State) (desk : Desk) (h : HandleNo) {offset : Nat} (ho : offset ≤ 65535) (count : Byte) :
    s.getOwn desk (byteOf h.val :: twoBytes offset ++ [count]) = s.getOf desk false h offset count.toNat := by
  simp only [twoBytes, List.cons_append, List.nil_append, State.getOwn, handleOf_byteOf, ofTwo_byteOf (show offset < 65536 by omega)]

/-- GET names its handle and offset; GET-ON takes them from the continuation and the cursor (R126, R127). -/
theorem exec_getOrGetOn {s : State} {desk : Desk} (hl : s.listens desk) {on : Bool} {h : HandleNo} {offset : Nat}
    (ho : offset ≤ 65535) (hon : on = true → s.desks[desk].continuation = .get h ∧ s.desks[desk].cursor = offset) (count : Byte) :
    exec (if on then .getOn desk [count] else .get desk (byteOf h.val :: twoBytes offset ++ [count])) s =
      .next (s.getOf desk on h offset count.toNat) := by
  cases on with
  | false => exact (exec_get hl ..).trans (congrArg Host.Outcome.next (getOwn_byteOf s desk h ho count))
  | true =>
    obtain ⟨hc, hcur⟩ := hon rfl
    exact (exec_getOn hl count hc).trans (by rw [hcur])

/-! #### A GET on its handle -/

theorem getKind_code (on : Bool) : (if on then Kind.getOn else .get).code = if on then 0x25 else 0x24 := by cases on <;> rfl

section OfHandle
variable {s : State} {desk : Desk} {h : HandleNo} (on : Bool) (offset count : Nat)

theorem getOf_of_free (hh : s.handle desk h = .free) :
    s.getOf desk on h offset count = s.refuse desk (if on then 0x25 else 0x24) noFlags .badHandle := by
  rw [State.getOf, hh, ← getKind_code]; rfl

theorem getOf_of_writing {w : WriteHandle} (hh : s.handle desk h = .writing w) :
    s.getOf desk on h offset count = s.refuse desk (if on then 0x25 else 0x24) noFlags .badHandle := by
  rw [State.getOf, hh, ← getKind_code]; rfl

theorem getOf_of_lost {l : LostHandle} (hh : s.handle desk h = .lost l) :
    s.getOf desk on h offset count = s.fail desk (if on then 0x25 else 0x24) noFlags l.cause [] := by
  rw [State.getOf, hh, ← getKind_code]

theorem getOf_of_reading {r : ReadHandle} (hh : s.handle desk h = .reading r) :
    s.getOf desk on h offset count = s.getOpen desk h r on offset count := by
  rw [State.getOf, hh]

end OfHandle

theorem covers_iff (r : ReadHandle) (offset n : Nat) :
    r.covers offset n = true ↔ ∀ j ∈ sectorsCovering offset n, ∃ p, r.table.getD j .absent = .present p := by
  rw [ReadHandle.covers, List.all_eq_true]
  refine forall₂_congr fun j _ => ?_
  cases r.table.getD j .absent <;> simp

section OfReadHandle
variable (s : State) (desk : Desk) (h : HandleNo) (r : ReadHandle) (on : Bool) {offset count : Nat}

theorem getOpen_of_not_fits (hfit : ¬(1 ≤ count ∧ count ≤ 128)) :
    s.getOpen desk h r on offset count = s.refuse desk (if on then 0x25 else 0x24) noFlags .outOfRange := by
  rw [State.getOpen, if_pos (by omega), ← getKind_code]; rfl

theorem getOpen_of_end (hfit : 1 ≤ count ∧ count ≤ 128) (hend : r.length ≤ offset) :
    s.getOpen desk h r on offset count = (s.answerGet desk h r on offset 0).settle := by
  rw [State.getOpen, if_neg (by omega), if_pos hend]

theorem getOpen_of_covers (hfit : 1 ≤ count ∧ count ≤ 128) (hend : offset < r.length)
    (hcov : r.covers offset (min count (r.length - offset)) = true) :
    s.getOpen desk h r on offset count = (s.answerGet desk h r on offset (min count (r.length - offset))).settle := by
  rw [State.getOpen, if_neg (by omega), if_neg (by omega), if_pos hcov]

theorem getOpen_of_not_covers (hfit : 1 ≤ count ∧ count ≤ 128) (hend : offset < r.length)
    (hcov : ¬r.covers offset (min count (r.length - offset)) = true) :
    s.getOpen desk h r on offset count = (s.waitGet desk h r on offset (min count (r.length - offset))).settle := by
  rw [State.getOpen, if_neg (by omega), if_neg (by omega), if_neg hcov]

/-- An answered GET carries the bytes of its range, none when it has none. -/
theorem answerGet_eq (offset n : Nat) {bytes : List Byte} (hbytes : (if n = 0 then [] else s.rangeBytes r offset n) = bytes) :
    s.answerGet desk h r on offset n =
      ((s.setInProgress desk none).done desk (if on then 0x25 else 0x24) ⟨false, false, decide (r.length ≤ offset + n), false⟩
        (byteOf n :: bytes) (.continues (.get h) (offset + n))).deliver desk h r (offset + n) := by
  subst hbytes
  rfl

end OfReadHandle

/-! #### The bytes of a range (R16, R126) -/

/-- What a sector of a read handle holds: the bytes of its page when it is PRESENT. -/
def State.presentBytes (s : State) (r : ReadHandle) (j : Nat) : List Byte :=
  match r.table.getD j .absent with
  | .present p => s.pageBytes p
  | _ => []

theorem rangeBytes_eq (s : State) (r : ReadHandle) (offset n : Nat) :
    s.rangeBytes r offset n = (((sectorsCovering offset n).flatMap (s.presentBytes r)).drop (offset % 512)).take n := by
  rw [show offset % 512 = offset - 512 * (offset / 512) by omega]
  rfl

theorem presentBytes_of_present {s : State} {r : ReadHandle} {j : Nat} {p : PageNo} (hp : r.table.getD j .absent = .present p) :
    s.presentBytes r j = s.pageBytes p := by
  rw [State.presentBytes, hp]

/-- A range of at most 512 bytes lies in one sector, or in two that follow one another. -/
theorem sectorsCovering_cases {offset n : Nat} (hn : 1 ≤ n) (hle : n ≤ 512) :
    (sectorsCovering offset n = [offset / 512] ∧ offset % 512 + n ≤ 512) ∨
      (sectorsCovering offset n = [offset / 512, offset / 512 + 1] ∧ 512 < offset % 512 + n) := by
  unfold sectorsCovering
  split
  next hsame => exact .inl ⟨rfl, by omega⟩
  next hcross =>
    refine .inr ⟨?_, by omega⟩
    rw [show (offset + n - 1) / 512 = offset / 512 + 1 by omega]

theorem mem_sectorsCovering {offset n i : Nat} (hle : n ≤ 512) (hi : i < n) : (offset + i) / 512 ∈ sectorsCovering offset n := by
  rcases sectorsCovering_cases (offset := offset) (show 1 ≤ n by omega) hle with ⟨hs, hfit⟩ | ⟨hs, hcross⟩
  · rw [hs, List.mem_singleton]; omega
  · rw [hs, List.mem_pair]; omega

section Range
variable {f : Nat → List Byte} {offset n : Nat} (hn : 1 ≤ n) (hle : n ≤ 512)
  (hf : ∀ j ∈ sectorsCovering offset n, (f j).length = 512)
include hn hle hf

/-- Byte `i` of a range lies at `(offset + i) mod 512` of sector `(offset + i) / 512` (R16). -/
theorem getElem?_flatMap_sectorsCovering {i : Nat} (hi : i < n) :
    ((sectorsCovering offset n).flatMap f)[offset % 512 + i]? = (f ((offset + i) / 512))[(offset + i) % 512]? := by
  rcases sectorsCovering_cases (offset := offset) hn hle with ⟨hs, hfit⟩ | ⟨hs, hcross⟩
  · rw [hs, List.flatMap_singleton, show (offset + i) / 512 = offset / 512 by omega,
      show (offset + i) % 512 = offset % 512 + i by omega]
  · have hfirst : (f (offset / 512)).length = 512 := hf _ (by rw [hs]; exact List.mem_cons_self)
    rw [hs, List.flatMap_cons, List.flatMap_singleton]
    rcases Nat.lt_or_ge (offset % 512 + i) 512 with hlt | hge
    · rw [List.getElem?_append_left (by omega), show (offset + i) / 512 = offset / 512 by omega,
        show (offset + i) % 512 = offset % 512 + i by omega]
    · rw [List.getElem?_append_right (by omega), hfirst, show (offset + i) / 512 = offset / 512 + 1 by omega,
        show (offset + i) % 512 = offset % 512 + i - 512 by omega]

theorem length_flatMap_sectorsCovering : offset % 512 + n ≤ ((sectorsCovering offset n).flatMap f).length := by
  rcases sectorsCovering_cases (offset := offset) hn hle with ⟨hs, hfit⟩ | ⟨hs, hcross⟩ <;> rw [hs] at hf ⊢
  · rw [List.flatMap_singleton, hf _ List.mem_cons_self]
    exact hfit
  · rw [List.flatMap_cons, List.flatMap_singleton, List.length_append, hf _ List.mem_cons_self,
      hf _ (List.mem_cons_of_mem _ List.mem_cons_self)]
    omega

end Range

/-- Settles O13: the handle's state first, then the range; the bytes by the sectors the range lies in. -/
theorem getReturnsTheBytesOrWaits : Obligations.GetReturnsTheBytesOrWaits := by
  refine ⟨?_, fun desk hb o1 o0 count s hl hhb => ?_, ?_⟩
  · intro desk on h offset count s hl ho hon run code no
    have hrun : run = .next (s.getOf desk on h offset count.toNat) := exec_getOrGetOn hl ho hon count
    refine ⟨fun hh => ?_, fun w hh => ?_, fun l hh => ?_, ?_⟩
    · exact hrun.trans (congrArg Host.Outcome.next (getOf_of_free on offset _ hh))
    · exact hrun.trans (congrArg Host.Outcome.next (getOf_of_writing on offset _ hh))
    · exact hrun.trans (congrArg Host.Outcome.next (getOf_of_lost on offset _ hh))
    · intro r hh n answered fits present
      have hopen : run = .next (s.getOpen desk h r on offset count.toNat) := by rw [hrun, getOf_of_reading on offset _ hh]
      refine ⟨fun hfit => ?_, fun hfit hend => ?_, fun hfit hend hp => ?_, fun hfit hend hp => ?_⟩
      · exact hopen.trans (congrArg Host.Outcome.next (getOpen_of_not_fits s desk h r on hfit))
      · have hn : n = 0 := by simp only [n]; omega
        have hans := answerGet_eq s desk h r on offset n (bytes := []) (if_pos hn)
        refine hopen.trans (congrArg Host.Outcome.next ?_)
        rw [getOpen_of_end s desk h r on hfit hend, ← hn, hans]
      · have hn : ¬n = 0 := by
          have := hfit.1
          simp only [n]; omega
        have hans := answerGet_eq s desk h r on offset n (bytes := s.rangeBytes r offset n) (if_neg hn)
        refine hopen.trans (congrArg Host.Outcome.next ?_)
        rw [getOpen_of_covers s desk h r on hfit hend ((covers_iff ..).2 hp), hans]
      · rw [hopen, getOpen_of_not_covers s desk h r on hfit hend (mt (covers_iff ..).1 hp)]
        rfl
  · rw [exec_get hl, State.getOwn, handleOf_eq_none hhb]
    rfl
  · intro s r offset n hn hle hpages
    have hf (j : Nat) (hj : j ∈ sectorsCovering offset n) : (s.presentBytes r j).length = 512 := by
      obtain ⟨p, hp, hlen⟩ := hpages j hj
      rw [presentBytes_of_present hp, hlen]
    have hle' : n ≤ 512 := by omega
    have hlong := length_flatMap_sectorsCovering hn hle' hf
    rw [rangeBytes_eq]
    refine ⟨by rw [List.length_take, List.length_drop]; omega, fun i hi => ?_⟩
    obtain ⟨p, hp, -⟩ := hpages _ (mem_sectorsCovering hle' hi)
    refine ⟨p, hp, ?_⟩
    rw [List.getElem?_take_of_lt hi, List.getElem?_drop, getElem?_flatMap_sectorsCovering hn hle' hf hi,
      presentBytes_of_present hp]

end Sys2Proof.Machine
end

section
namespace Sys2Proof.Machine

/-! ### PUT and PUT-ON (R122, R135 to R138) -/

/-! #### Bytes written over others -/

section Overwrite
variable {bytes new : List Byte} {at' k : Nat}

theorem length_overwrite (hat : at' ≤ bytes.length) : (overwrite bytes at' new).length = bytes.length := by
  simp only [overwrite, List.length_take, List.length_append, List.length_drop]
  omega

theorem getElem?_overwrite_new (hfit : at' + new.length ≤ bytes.length) (hk : k < new.length) :
    (overwrite bytes at' new)[at' + k]? = new[k]? := by
  have hat : (bytes.take at').length = at' := List.length_take_of_le (by omega)
  rw [overwrite, List.getElem?_take_of_lt (by omega), List.append_assoc, List.getElem?_append_right (by omega), hat,
    Nat.add_sub_cancel_left, List.getElem?_append_left hk]

theorem getElem?_overwrite_old (hat : at' ≤ bytes.length) (hk : ∀ i, i < new.length → at' + i ≠ k) :
    (overwrite bytes at' new)[k]? = bytes[k]? := by
  have hlen : (bytes.take at').length = at' := List.length_take_of_le hat
  rcases Nat.lt_or_ge k bytes.length with hlt | hge
  · rw [overwrite, List.getElem?_take_of_lt hlt]
    rcases Nat.lt_or_ge k at' with hbefore | hafter
    · rw [List.append_assoc, List.getElem?_append_left (by omega), List.getElem?_take_of_lt hbefore]
    · have hbeyond : at' + new.length ≤ k := by
        by_contra hin
        exact hk (k - at') (by omega) (by omega)
      have hfront : (bytes.take at' ++ new).length = at' + new.length := by rw [List.length_append, hlen]
      rw [List.getElem?_append_right (by omega), hfront, List.getElem?_drop, Nat.add_sub_cancel' hbeyond]
  · rw [List.getElem?_eq_none hge, List.getElem?_eq_none (by rw [length_overwrite hat]; exact hge)]

theorem overwrite_of_nil (at' : Nat) (new : List Byte) : overwrite [] at' new = [] := rfl

end Overwrite

/-! #### Bytes that go into a page -/

section Pages
variable (s : State) (p : PageNo) (bytes : List Byte)

theorem pages_fillPage (q : PageNo) :
    (s.fillPage p bytes).pool.pages[q] =
      if q = p then (s.pool.pages[p]).map (fun x => { x with bytes := bytes }) else s.pool.pages[q] := by
  unfold State.fillPage
  split
  next hfree =>
    split
    next hq => rw [hq, hfree]; rfl
    next => rfl
  next x hheld =>
    rw [hheld]
    split
    next hq => rw [hq]; simp [State.setPage]
    next hq =>
      have hne : p.val ≠ q.val := fun hval => hq (Fin.ext hval.symm)
      simp [State.setPage, Vector.getElem_set_ne, hne]

theorem pageBytes_eq_map : s.pageBytes p = ((s.pool.pages[p]).map HeldPage.bytes).getD [] := by
  unfold State.pageBytes
  split
  next hfree => rw [hfree]; rfl
  next x hheld => rw [hheld]; rfl

theorem fillPage_eq_setPool : ∃ pages, s.fillPage p bytes = s.setPool { s.pool with pages := pages } := by
  unfold State.fillPage
  split
  · exact ⟨s.pool.pages, rfl⟩
  · exact ⟨_, rfl⟩

/-- A page given bytes keeps its holder and its mark of a reclaim. -/
theorem holder_fillPage (q : PageNo) :
    ((s.fillPage p bytes).pool.pages[q]).map (fun x => (x.holder, x.awaited)) =
      (s.pool.pages[q]).map (fun x => (x.holder, x.awaited)) := by
  rw [pages_fillPage]
  split
  next hq => rw [hq, Option.map_map]; rfl
  next => rfl

end Pages

section StoreIn
variable (s : State) (table : List WriteEntry) (j from' : Nat) (bytes : List Byte)

theorem storeIn_eq_setPool : ∃ pages, s.storeIn table j from' bytes = s.setPool { s.pool with pages := pages } := by
  unfold State.storeIn
  split
  · exact ⟨s.pool.pages, rfl⟩
  · exact fillPage_eq_setPool ..

theorem holder_storeIn (q : PageNo) :
    ((s.storeIn table j from' bytes).pool.pages[q]).map (fun x => (x.holder, x.awaited)) =
      (s.pool.pages[q]).map (fun x => (x.holder, x.awaited)) := by
  unfold State.storeIn
  split
  · rfl
  · exact holder_fillPage ..

theorem pageBytes_storeIn_of_ne {q : PageNo} (hq : fillingPage table j ≠ some q) :
    (s.storeIn table j from' bytes).pageBytes q = s.pageBytes q := by
  unfold State.storeIn
  split
  · rfl
  next p hp =>
    have hne : q ≠ p := fun h => hq (hp.trans (congrArg some h.symm))
    rw [pageBytes_eq_map, pages_fillPage, if_neg hne, ← pageBytes_eq_map]

/-- The bytes of the page a sector fills; a free page takes none. -/
theorem pageBytes_storeIn_of_eq {p : PageNo} (hp : fillingPage table j = some p) :
    (s.storeIn table j from' bytes).pageBytes p = overwrite (s.pageBytes p) (from' - 512 * j) bytes := by
  simp only [State.storeIn, hp]
  rw [pageBytes_eq_map, pages_fillPage, if_pos rfl, Option.map_map]
  cases hx : s.pool.pages[p] with
  | none =>
    have hfree : s.pageBytes p = [] := by rw [pageBytes_eq_map, hx]; rfl
    rw [hfree]
    exact (overwrite_of_nil ..).symm
  | some x => rfl

variable {table j from' bytes} {p : PageNo}

theorem getElem?_storeIn_new (hp : fillingPage table j = some p) (hfit : from' - 512 * j + bytes.length ≤ (s.pageBytes p).length)
    {i : Nat} (hi : i < bytes.length) : ((s.storeIn table j from' bytes).pageBytes p)[from' - 512 * j + i]? = bytes[i]? := by
  rw [pageBytes_storeIn_of_eq s table j from' bytes hp, getElem?_overwrite_new hfit hi]

theorem getElem?_storeIn_old {k : Nat} (hat : fillingPage table j = some p → from' - 512 * j ≤ (s.pageBytes p).length)
    (hk : fillingPage table j = some p → ∀ i, i < bytes.length → from' - 512 * j + i ≠ k) :
    ((s.storeIn table j from' bytes).pageBytes p)[k]? = (s.pageBytes p)[k]? := by
  by_cases hp : fillingPage table j = some p
  · rw [pageBytes_storeIn_of_eq s table j from' bytes hp, getElem?_overwrite_old (hat hp) (hk hp)]
  · rw [pageBytes_storeIn_of_ne s table j from' bytes hp]

end StoreIn

/-! #### The new bytes of a PUT in the pages of one sector or of two (R136) -/

/-- How many of the new bytes lie in the sector W stands in. -/
def bytesHere (mark : Nat) (new : List Byte) : Nat := (new.take (512 * (mark / 512 + 1) - mark)).length

/-- The state with the new bytes of a PUT in the pages of the sector W stands in and of the next. -/
def State.storeNew (s : State) (table : List WriteEntry) (mark : Nat) (new : List Byte) : State :=
  (s.storeIn table (mark / 512) mark (new.take (512 * (mark / 512 + 1) - mark))).storeIn table (mark / 512 + 1)
    (512 * (mark / 512 + 1)) (new.drop (bytesHere mark new))

/-- The table of a handle after the grant of a page to one of its sectors. -/
def WriteHandle.tableWith (w : WriteHandle) : Option (Nat × PageNo) → List WriteEntry
  | none => w.table
  | some (k, p) => w.table.set k (.filling p)

theorem storePut_eq (s : State) (desk : Desk) (h : HandleNo) (w : WriteHandle) (on : Bool) (offset : Nat) (data : List Byte)
    (page : Option (Nat × PageNo)) :
    s.storePut desk h w on offset data page =
      let new := data.drop (w.mark - offset)
      let w' := { w with table := w.tableWith page, mark := offset + data.length, check := checkFrom w.check new }
      let t := (s.setHandle desk h (.writing w')).storeNew (w.tableWith page) w.mark new
      ((((t.queueSector desk h (w.mark / 512)).queueSector desk h (w.mark / 512 + 1)).setInProgress desk none).done desk
        (if on then 0x23 else 0x22) noFlags (twoBytes (offset + data.length) ++ [byteOf new.length])
        (.continues (.put h) (offset + data.length))) := rfl

section StoreNew
variable (s : State) (table : List WriteEntry) (mark : Nat) (new : List Byte)

theorem bytesHere_eq : bytesHere mark new = min (512 - mark % 512) new.length := by
  rw [bytesHere, List.length_take]
  omega

theorem storeNew_eq_setPool : ∃ pages, s.storeNew table mark new = s.setPool { s.pool with pages := pages } := by
  obtain ⟨first, hfirst⟩ := storeIn_eq_setPool s table (mark / 512) mark (new.take (512 * (mark / 512 + 1) - mark))
  obtain ⟨second, hsecond⟩ := storeIn_eq_setPool (s.setPool { s.pool with pages := first }) table (mark / 512 + 1)
    (512 * (mark / 512 + 1)) (new.drop (bytesHere mark new))
  exact ⟨second, by rw [State.storeNew, hfirst, hsecond]; rfl⟩

theorem holder_storeNew (q : PageNo) :
    ((s.storeNew table mark new).pool.pages[q]).map (fun x => (x.holder, x.awaited)) =
      (s.pool.pages[q]).map (fun x => (x.holder, x.awaited)) :=
  (holder_storeIn ..).trans (holder_storeIn ..)

end StoreNew

section Places
variable {mark : Nat} {new : List Byte} {i : Nat}

theorem length_take_here : (new.take (512 * (mark / 512 + 1) - mark)).length = bytesHere mark new := rfl

theorem getElem?_take_here (hi : i < bytesHere mark new) : (new.take (512 * (mark / 512 + 1) - mark))[i]? = new[i]? :=
  List.getElem?_take_of_lt (by rw [bytesHere_eq] at hi; omega)

/-- Where the new bytes of the sector W stands in go. -/
theorem place_here (hi : i < bytesHere mark new) :
    (mark + i) / 512 = mark / 512 ∧ (mark + i) % 512 = mark - 512 * (mark / 512) + i := by
  rw [bytesHere_eq] at hi
  omega

/-- Where the new bytes beyond that sector go. -/
theorem place_next (hshort : new.length ≤ 128) (hi : bytesHere mark new + i < new.length) :
    (mark + (bytesHere mark new + i)) / 512 = mark / 512 + 1 ∧ (mark + (bytesHere mark new + i)) % 512 = i := by
  rw [bytesHere_eq] at hi ⊢
  omega

end Places

section StoredBytes
variable {s : State} {table : List WriteEntry} {mark : Nat} {new : List Byte}
  (hpages : ∀ i, i < new.length → ∃ p, fillingPage table ((mark + i) / 512) = some p ∧ (s.pageBytes p).length = 512)
include hpages

theorem length_pageBytes_of_stored {i : Nat} {p : PageNo} (hi : i < new.length)
    (hp : fillingPage table ((mark + i) / 512) = some p) : (s.pageBytes p).length = 512 := by
  obtain ⟨q, hq, hlen⟩ := hpages i hi
  obtain rfl : p = q := Option.some.inj (hp.symm.trans hq)
  exact hlen

theorem getElem?_storeNew_old (hshort : new.length ≤ 128) (hnew : 0 < new.length) {p : PageNo} {k : Nat}
    (hk : ∀ i, i < new.length → fillingPage table ((mark + i) / 512) = some p → (mark + i) % 512 ≠ k) :
    ((s.storeNew table mark new).pageBytes p)[k]? = (s.pageBytes p)[k]? := by
  refine (getElem?_storeIn_old _ (fun _ => by omega) fun hp i hi => ?_).trans
    (getElem?_storeIn_old s (fun hp => ?_) fun hp i hi => ?_)
  · have hi' : bytesHere mark new + i < new.length := by rw [List.length_drop] at hi; omega
    obtain ⟨hsector, hplace⟩ := place_next hshort hi'
    have hne := hk _ hi' (hsector ▸ hp)
    omega
  · have hlen := length_pageBytes_of_stored hpages hnew hp
    omega
  · have hi' : i < new.length := by rw [length_take_here, bytesHere_eq] at hi; omega
    obtain ⟨hsector, hplace⟩ := place_here hi
    exact hplace ▸ hk i hi' (hsector ▸ hp)

theorem getElem?_storeNew_new (hshort : new.length ≤ 128)
    (hapart : ∀ i k p, i < new.length → k < new.length → fillingPage table ((mark + i) / 512) = some p →
      fillingPage table ((mark + k) / 512) = some p → (mark + i) / 512 = (mark + k) / 512)
    {i : Nat} {p : PageNo} (hi : i < new.length) (hp : fillingPage table ((mark + i) / 512) = some p) :
    ((s.storeNew table mark new).pageBytes p)[(mark + i) % 512]? = new[i]? := by
  have hlen := length_pageBytes_of_stored hpages hi hp
  rcases Nat.lt_or_ge i (bytesHere mark new) with hhere | hbeyond
  · obtain ⟨hsector, hplace⟩ := place_here hhere
    have hnext (k : Nat) (hk : bytesHere mark new + k < new.length) : fillingPage table (mark / 512 + 1) ≠ some p := fun hq => by
      obtain ⟨hsector', -⟩ := place_next hshort hk
      have := hapart i _ p hi hk hp (hsector' ▸ hq)
      omega
    rw [hplace]
    refine (getElem?_storeIn_old _ (fun _ => by omega) fun hq k hk => ?_).trans
      ((getElem?_storeIn_new s (hsector ▸ hp) ?_ hhere).trans (getElem?_take_here hhere))
    · exact absurd hq (hnext k (by rw [List.length_drop] at hk; omega))
    · rw [length_take_here, bytesHere_eq]
      omega
  · obtain ⟨k, rfl⟩ := Nat.exists_eq_add_of_le hbeyond
    obtain ⟨hsector, hplace⟩ := place_next hshort hi
    have hfirst : fillingPage table (mark / 512) ≠ some p := fun hq => by
      have := hapart _ 0 p hi (by omega) hp hq
      omega
    have hsame : (s.storeIn table (mark / 512) mark (new.take (512 * (mark / 512 + 1) - mark))).pageBytes p = s.pageBytes p :=
      pageBytes_storeIn_of_ne s table _ _ _ hfirst
    have hstored := getElem?_storeIn_new (from' := 512 * (mark / 512 + 1)) (bytes := new.drop (bytesHere mark new))
      (s.storeIn table (mark / 512) mark (new.take (512 * (mark / 512 + 1) - mark))) (hsector ▸ hp)
      (by rw [hsame, List.length_drop]; omega) (i := k) (by rw [List.length_drop]; omega)
    rw [Nat.sub_self, Nat.zero_add, List.getElem?_drop] at hstored
    rw [hplace]
    exact hstored

end StoredBytes

/-! #### A PUT on its handle -/

theorem lenAllowed_of_range {k : Kind} {fields : List Byte} (hlow : k.lenRange.1 ≤ fields.length + 1)
    (hhigh : fields.length + 1 ≤ k.lenRange.2) : lenAllowed k fields = true := by
  rw [lenAllowed, decide_eq_true hlow, decide_eq_true hhigh, Bool.and_self]

section Listening
variable {s : State} {desk : Desk} (hl : s.listens desk)
include hl

theorem exec_put {hb o1 o0 : Byte} {data : List Byte} (hdata : 1 ≤ data.length) (hlong : data.length ≤ 128) :
    exec (.put desk (hb :: o1 :: o0 :: data)) s = .next (s.putOwn desk (hb :: o1 :: o0 :: data)) := by
  have hlen : lenAllowed .put (hb :: o1 :: o0 :: data) = true :=
    lenAllowed_of_range (show 5 ≤ data.length + 3 + 1 by omega) (show data.length + 3 + 1 ≤ 132 by omega)
  exact congrArg Host.Outcome.next (powered_taking_of_listens hl (fun s => s.putOwn desk _) hlen rfl rfl)

theorem exec_putOn {data : List Byte} (hdata : 1 ≤ data.length) (hlong : data.length ≤ 128) {h : HandleNo}
    (hc : s.desks[desk].continuation = .put h) :
    exec (.putOn desk data) s = .next (s.putOf desk true h s.desks[desk].cursor data) := by
  have hlen : lenAllowed .putOn data = true :=
    lenAllowed_of_range (show 2 ≤ data.length + 1 by omega) (show data.length + 1 ≤ 129 by omega)
  have hown : s.putOnOwn desk data = s.putOf desk true h s.desks[desk].cursor data := by
    unfold State.putOnOwn
    rw [hc]
  rw [← hown]
  exact congrArg Host.Outcome.next (powered_taking_of_listens hl (fun s => s.putOnOwn desk _) hlen rfl (by rw [hc]; rfl))

end Listening

theorem putOwn_byteOf (s : State) (desk : Desk) (h : HandleNo) {offset : Nat} (ho : offset ≤ 65535) (data : List Byte) :
    s.putOwn desk (byteOf h.val :: twoBytes offset ++ data) = s.putOf desk false h offset data := by
  simp only [twoBytes, List.cons_append, List.nil_append, State.putOwn, handleOf_byteOf, ofTwo_byteOf (show offset < 65536 by omega)]

/-- PUT names its handle and offset; PUT-ON takes them from the continuation and the cursor (R135, R137). -/
theorem exec_putOrPutOn {s : State} {desk : Desk} (hl : s.listens desk) {on : Bool} {h : HandleNo} {offset : Nat} {data : List Byte}
    (ho : offset ≤ 65535) (hdata : 1 ≤ data.length) (hlong : data.length ≤ 128)
    (hon : on = true → s.desks[desk].continuation = .put h ∧ s.desks[desk].cursor = offset) :
    exec (if on then .putOn desk data else .put desk (byteOf h.val :: twoBytes offset ++ data)) s =
      .next (s.putOf desk on h offset data) := by
  cases on with
  | false => exact (exec_put hl hdata hlong).trans (congrArg Host.Outcome.next (putOwn_byteOf s desk h ho data))
  | true =>
    obtain ⟨hc, hcur⟩ := hon rfl
    exact (exec_putOn hl hdata hlong hc).trans (by rw [hcur])

theorem putKind_code (on : Bool) : (if on then Kind.putOn else .put).code = if on then 0x23 else 0x22 := by cases on <;> rfl

section OfHandle
variable {s : State} {desk : Desk} {h : HandleNo} (on : Bool) (offset : Nat) (data : List Byte)

theorem putOf_of_free (hh : s.handle desk h = .free) :
    s.putOf desk on h offset data = s.refuse desk (if on then 0x23 else 0x22) noFlags .badHandle := by
  rw [State.putOf, hh, ← putKind_code]; rfl

theorem putOf_of_reading {r : ReadHandle} (hh : s.handle desk h = .reading r) :
    s.putOf desk on h offset data = s.refuse desk (if on then 0x23 else 0x22) noFlags .badHandle := by
  rw [State.putOf, hh, ← putKind_code]; rfl

theorem putOf_of_lost {l : LostHandle} (hh : s.handle desk h = .lost l) :
    s.putOf desk on h offset data = s.fail desk (if on then 0x23 else 0x22) noFlags l.cause [] := by
  rw [State.putOf, hh, ← putKind_code]

theorem putOf_of_committing {w : WriteHandle} (hh : s.handle desk h = .writing w) (hw : w.state = .committing) :
    s.putOf desk on h offset data = s.refuse desk (if on then 0x23 else 0x22) noFlags .badHandle := by
  simp only [State.putOf, hh, hw, ← putKind_code]; rfl

theorem putOf_of_failed {w : WriteHandle} {c : Reason} (hh : s.handle desk h = .writing w) (hw : w.state = .failed c) :
    s.putOf desk on h offset data = s.fail desk (if on then 0x23 else 0x22) noFlags c [] := by
  simp only [State.putOf, hh, hw, ← putKind_code]

theorem putOf_of_open {w : WriteHandle} (hh : s.handle desk h = .writing w) (hw : w.state = .isOpen) :
    s.putOf desk on h offset data = s.putOpen desk h w on offset data := by
  simp only [State.putOf, hh, hw]

end OfHandle

section OfOpenHandle
variable (s : State) (desk : Desk) (h : HandleNo) (w : WriteHandle) (on : Bool) {offset : Nat} {data : List Byte}

theorem putOpen_of_gap (hgap : w.mark < offset) :
    s.putOpen desk h w on offset data = s.refuse desk (if on then 0x23 else 0x22) noFlags .gap := by
  rw [State.putOpen, if_pos hgap, ← putKind_code]; rfl

theorem putOpen_of_beyond (hgap : offset ≤ w.mark) (hlong : w.length < offset + data.length) :
    s.putOpen desk h w on offset data = s.refuse desk (if on then 0x23 else 0x22) noFlags .outOfRange := by
  rw [State.putOpen, if_neg (Nat.not_lt.2 hgap), if_pos hlong, ← putKind_code]; rfl

theorem putOpen_of_old (hlong : offset + data.length ≤ w.length) (hold : offset + data.length ≤ w.mark) :
    s.putOpen desk h w on offset data =
      s.done desk (if on then 0x23 else 0x22) noFlags (twoBytes w.mark ++ [0]) (.continues (.put h) (offset + data.length)) := by
  rw [State.putOpen, if_neg (by omega), if_neg (Nat.not_lt.2 hlong), if_pos hold, ← putKind_code]

theorem putOpen_of_new (hgap : offset ≤ w.mark) (hnew : w.mark < offset + data.length) (hlong : offset + data.length ≤ w.length) :
    s.putOpen desk h w on offset data = (s.putNew desk h w on offset data).settle := by
  rw [State.putOpen, if_neg (Nat.not_lt.2 hgap), if_neg (Nat.not_lt.2 hlong), if_neg (Nat.not_le.2 hnew)]

variable (offset data)

theorem putNew_of_no_need (hneed : putNeeds w (offset + data.length) = none) :
    s.putNew desk h w on offset data = s.storePut desk h w on offset data none := by
  rw [State.putNew, hneed]

theorem putNew_of_grant {j : Nat} {p : PageNo} (hneed : putNeeds w (offset + data.length) = some j)
    (hfree : s.freePageNo true = some p) (hgrant : s.holdings desk < s.deskSettings[desk].quota) :
    s.putNew desk h w on offset data =
      (s.holdPage p (.handleSector desk h j)).storePut desk h w on offset data (some (j, p)) := by
  have hask : s.askNow desk = some p := (if_pos (decide_eq_true hgrant)).trans hfree
  simp only [State.putNew, hneed, hask]

theorem putNew_of_no_grant {j : Nat} (hneed : putNeeds w (offset + data.length) = some j)
    (hno : s.freePageNo true = none ∨ ¬s.holdings desk < s.deskSettings[desk].quota) :
    s.putNew desk h w on offset data =
      (s.setInProgress desk (some (.put on h offset data))).setPool
        { s.pool with waiters := s.pool.waiters ++ [{ desk := desk, handle := h, cls := w.cls, lacks := [j] }] } := by
  have hask : s.askNow desk = none := by
    unfold State.askNow
    split
    next hbelow => exact hno.resolve_right (not_not_intro (of_decide_eq_true hbelow))
    next => rfl
  simp only [State.putNew, hneed, hask]
  rfl

end OfOpenHandle

/-- Settles O16: the handle's state, then the offset against W and the length; the bytes by the sector each goes to. -/
theorem putStoresOrWaits : Obligations.PutStoresOrWaits := by
  refine ⟨?_, fun desk hb o1 o0 data s hl hhb hdata hlong => ?_, ?_⟩
  · intro desk on h offset data s hl ho hdata hlong hon run code no upTo
    have hrun : run = .next (s.putOf desk on h offset data) := exec_putOrPutOn hl ho hdata hlong hon
    refine ⟨fun hh => ?_, fun r hh => ?_, fun l hh => ?_, fun w hh => ⟨fun hw => ?_, fun c hw => ?_, ?_⟩⟩
    · exact hrun.trans (congrArg Host.Outcome.next (putOf_of_free on offset data hh))
    · exact hrun.trans (congrArg Host.Outcome.next (putOf_of_reading on offset data hh))
    · exact hrun.trans (congrArg Host.Outcome.next (putOf_of_lost on offset data hh))
    · exact hrun.trans (congrArg Host.Outcome.next (putOf_of_committing on offset data hh hw))
    · exact hrun.trans (congrArg Host.Outcome.next (putOf_of_failed on offset data hh hw))
    · intro hw free grant needs
      have hopen : run = .next (s.putOpen desk h w on offset data) := by rw [hrun, putOf_of_open on offset data hh hw]
      refine ⟨fun hgap => ?_, fun hgap hbeyond => ?_, fun hin hold => ?_, fun hgap hnew hin => ?_⟩
      · exact hopen.trans (congrArg Host.Outcome.next (putOpen_of_gap s desk h w on hgap))
      · exact hopen.trans (congrArg Host.Outcome.next (putOpen_of_beyond s desk h w on hgap hbeyond))
      · exact hopen.trans (congrArg Host.Outcome.next (putOpen_of_old s desk h w on hin hold))
      · have hputNew : run = .next (s.putNew desk h w on offset data).settle := by
          rw [hopen, putOpen_of_new s desk h w on hgap hnew hin]
        refine ⟨fun hneed => ?_, fun j hneed => ⟨fun p hfree hgrant => ?_, fun hno => ?_⟩⟩
        · rw [hputNew, putNew_of_no_need s desk h w on offset data hneed]
        · rw [hputNew, putNew_of_grant s desk h w on offset data hneed hfree hgrant]
        · rw [hputNew, putNew_of_no_grant s desk h w on offset data hneed hno]
  · rw [exec_put hl hdata hlong, State.putOwn, handleOf_eq_none hhb]
    rfl
  · intro s desk h w on offset data page hgap hreach hlong new table pageOf hpages hapart
    have hlength : new.length = offset + data.length - w.mark := by
      simp only [new, List.length_drop]
      omega
    have htable : w.tableWith page = table := by cases page <;> rfl
    have hput := storePut_eq s desk h w on offset data page
    rw [htable] at hput
    let written := Handle.writing { w with table := table, mark := offset + data.length, check := checkFrom w.check new }
    obtain ⟨pages, hpool⟩ := storeNew_eq_setPool (s.setHandle desk h written) table w.mark new
    refine ⟨(s.setHandle desk h written).storeNew table w.mark new, hput, ?_, ?_, fun e g hne => ?_, ?_, ?_,
      holder_storeNew _ table w.mark new, fun i p hi hp => ?_, fun p k hk => ?_⟩
    · rw [hpool]; rfl
    · rw [hpool]; exact State.setHandle_handle_self s desk h written
    · rw [hpool]
      exact State.setHandle_handle_of_ne s desk e h g written fun ⟨he, hg⟩ => hne.elim (· he.symm) (· hg.symm)
    · rw [hpool]; rfl
    · rw [hpool]; rfl
    · exact getElem?_storeNew_new (s := s.setHandle desk h written) hpages (by omega) hapart hi hp
    · exact getElem?_storeNew_old (s := s.setHandle desk h written) hpages (by omega) (by omega) hk

end Sys2Proof.Machine
end

section
namespace Sys2Proof.Machine

/-! ### Legal settings are kept (R41, R85, R175, R184) -/

/-- Legality reads the drive settings, the rights and the quotas only. -/
theorem legalSettings_of_eq {s t : State} (hset : t.settings = s.settings) (hdesk : t.deskSettings = s.deskSettings)
    (hs : s.legalSettings) : t.legalSettings := by
  unfold State.legalSettings State.someSupervisor State.quotasInRange State.settingsInRange
  rw [hset, hdesk]
  exact hs

theorem Settings.powerOn_inRange : Settings.powerOn.inRange := by
  unfold Settings.inRange Settings.powerOn
  decide

theorem quota_reset (desk : Desk) : State.reset.deskSettings[desk].quota = 12 := by
  fin_cases desk <;> rfl

/-- The defaults of power-on: desk 0 has SUPERVISOR, every quota is 12, every drive has the settings of R41. -/
theorem legalSettings_reset : State.reset.legalSettings := by
  refine ⟨⟨0, rfl⟩, fun desk => ?_, fun d => ?_⟩
  · rw [quota_reset]
    decide
  · have hpower : State.reset.settings[d] = Settings.powerOn := Vector.getElem_replicate _
    rw [hpower]
    exact Settings.powerOn_inRange

theorem legalSettings_poweredOn (s : State) (ready writeProtect trackZero : BitVec 4) :
    (s.poweredOn ready writeProtect trackZero).legalSettings :=
  legalSettings_of_eq (s := State.reset) rfl rfl legalSettings_reset

theorem legalSettings_idles {s : State} (hs : s.legalSettings) : s.idles.legalSettings := by
  unfold State.idles State.powered
  split
  · rw [ticked_frame]
    exact legalSettings_of_eq rfl rfl hs
  · exact hs

/-- POWER-GOOD's rise sets the defaults, its fall leaves the settings, and every other command is steady. -/
theorem exec_legalSettings {c : Instr} {s t : State} (he : exec c s = .next t) (hs : s.legalSettings) : t.legalSettings := by
  by_cases hrise : ∃ a b z, c = .powerGoodRise a b z
  · obtain ⟨a, b, z, rfl⟩ := hrise
    cases he
    exact legalSettings_poweredOn s a b z
  · by_cases hfall : c = .powerGoodFall
    · subst hfall
      cases he
      exact legalSettings_of_eq (s := s) rfl rfl hs
    · obtain ⟨u, hu, hsteady⟩ := exec_steady c (fun a b z hc => hrise ⟨a, b, z, hc⟩) hfall s
      obtain rfl : u = t := by rw [hu] at he; exact Host.Outcome.next.inj he
      exact hsteady.legal hs

/-- Settles O55: a step is a tick, which leaves the settings, or a command, which keeps them legal. -/
theorem everyStepKeepsLegalSettings : Obligations.EveryStepKeepsLegalSettings := by
  intro s t hstep hs
  unfold step at hstep
  split at hstep
  · cases hstep
    exact legalSettings_idles hs
  · exact exec_legalSettings hstep hs

end Sys2Proof.Machine
end

section
namespace Sys2Proof.Machine

/-! ### Edges of READY and WRITE-PROTECT (R22 to R25) -/

/-! #### A drive record written twice -/

theorem setDrive_drives_self (s : State) (d : DriveNo) (u : DriveUnit) : (s.setDrive d u).drives[d] = u := by simp

theorem setDrive_setDrive (s : State) (d : DriveNo) (u v : DriveUnit) : (s.setDrive d u).setDrive d v = s.setDrive d v := by
  simp only [State.setDrive, Vector.set_set]

/-! #### An edge with the pin's new level -/

section Edges
variable {s : State} {d : DriveNo} (e : Edge)

theorem edge_of_disabled (hs : s.drives[d].state = .disabled) : s.edge d e = s := if_pos hs

/-- Outside DISABLED the edges latched are taken in their order, the new one last, from a record that has no latches (R22). -/
theorem edge_of_not_disabled {latches : List Edge} (hs : s.drives[d].state ≠ .disabled) (hl : s.drives[d].latches = latches) :
    s.edge d e =
      ((latches ++ [e]).foldl (fun t e => t.takeEdge d e) (s.setDrive d { s.drives[d] with latches := [] })).settle := by
  unfold State.edge State.takeEdges
  rw [if_neg hs, setDrive_drives_self, setDrive_setDrive, hl]

theorem takeEdge_readyRises_of_empty (hs : s.drives[d].state = .empty) :
    s.takeEdge d .readyRises = s.setDrive d (s.drives[d].rises s.settings[d].autoMount) := if_pos hs

theorem takeEdge_readyRises_of_not_empty (hs : s.drives[d].state ≠ .empty) : s.takeEdge d .readyRises = s := if_neg hs

theorem takeEdge_protectChanges_of_mounted (active : Bool) (hs : s.drives[d].state = .mounted) :
    s.takeEdge d (.protectChanges active) = s.setDrive d { s.drives[d] with isProtected := active } := if_pos hs

theorem takeEdge_protectChanges_of_not_mounted (active : Bool) (hs : s.drives[d].state ≠ .mounted) :
    s.takeEdge d (.protectChanges active) = s := if_neg hs

end Edges

section Pins
variable {s : State} (hp : s.powerGood = true) (d : DriveNo)
include hp

theorem exec_readyFalling :
    exec (.readyFalling d) s = .next ((s.setDrive d { s.drives[d] with ready := false }).edge d .readyFalls) :=
  congrArg Host.Outcome.next (powered_of_powerGood (s := s.setReady d false) hp _)

theorem exec_readyRising :
    exec (.readyRising d) s = .next ((s.setDrive d { s.drives[d] with ready := true }).edge d .readyRises) :=
  congrArg Host.Outcome.next (powered_of_powerGood (s := s.setReady d true) hp _)

theorem exec_writeProtectChange (active : Bool) :
    exec (.writeProtectChange d active) s =
      .next ((s.setDrive d { s.drives[d] with writeProtect := active }).edge d (.protectChanges active)) :=
  congrArg Host.Outcome.next (powered_of_powerGood (s := s.setWriteProtect d active) hp _)

end Pins

/-- Settles O32: the pin's level first, then the edge by the drive's state. -/
theorem edgesMoveTheDrive : Obligations.EdgesMoveTheDrive := by
  intro d active s hp u taken low high protect
  have hpin (v : DriveUnit) : (s.setDrive d v).drives[d] = v := setDrive_drives_self s d v
  refine ⟨fun hs => ⟨?_, ?_, ?_⟩, fun hs => ⟨?_, ?_, ?_⟩, fun t => ?_⟩
  · rw [exec_readyFalling hp, edge_of_disabled _ (by rw [hpin]; exact hs)]
  · rw [exec_readyRising hp, edge_of_disabled _ (by rw [hpin]; exact hs)]
  · rw [exec_writeProtectChange hp, edge_of_disabled _ (by rw [hpin]; exact hs)]
  · rw [exec_readyFalling hp, edge_of_not_disabled _ (by rw [hpin]; exact hs) (congrArg DriveUnit.latches (hpin _))]
  · rw [exec_readyRising hp, edge_of_not_disabled _ (by rw [hpin]; exact hs) (congrArg DriveUnit.latches (hpin _))]
  · rw [exec_writeProtectChange hp, edge_of_not_disabled _ (by rw [hpin]; exact hs) (congrArg DriveUnit.latches (hpin _))]
  · exact ⟨rfl, takeEdge_readyRises_of_not_empty, takeEdge_readyRises_of_empty, takeEdge_protectChanges_of_not_mounted active,
      takeEdge_protectChanges_of_mounted active⟩

end Sys2Proof.Machine
end

section
namespace Sys2Proof.Machine

/-! ### Index pulses and idle revolutions (R27 to R30, R35) -/

theorem exec_indexPulse {s : State} (hp : s.powerGood = true) (d : DriveNo) : exec (.indexPulse d) s = .next (s.pulse d) :=
  congrArg Host.Outcome.next (powered_of_powerGood hp _)

theorem exec_noIndexTimeout {s : State} (hp : s.powerGood = true) (d : DriveNo) :
    exec (.noIndexTimeout d) s = .next (s.noIndex d) :=
  congrArg Host.Outcome.next (powered_of_powerGood hp _)

theorem captureValid_iff (e : Nat) : captureValid e = true ↔ 1500 ≤ e ∧ e ≤ 1833 := by
  simp only [captureValid, Bool.and_eq_true, decide_eq_true_eq]
  rfl

theorem DriveState.inUse_iff (st : DriveState) : st.inUse = true ↔ st = .mounting ∨ st = .mounted ∨ st = .formatting := by
  cases st <;> decide

theorem DriveState.faultsOnSpeed_iff (st : DriveState) :
    st.faultsOnSpeed = true ↔ st = .spinCheck ∨ st = .mounting ∨ st = .mounted ∨ st = .formatting := by
  cases st <;> decide

/-! #### The capture -/

section Capture
variable {s : State} {d : DriveNo}

theorem pulse_of_turns (ht : s.drives[d].turns = true) :
    s.pulse d = (((s.capture d).idleRevolution d).passPulse d).settle := if_pos ht

theorem pulse_of_not_turns (ht : ¬s.drives[d].turns = true) : s.pulse d = s := if_neg ht

theorem capture_of_no_reference (hr : s.drives[d].reference = false) :
    s.capture d = s.setDrive d { s.drives[d] with elapsed := 0, reference := true } := by
  simp only [State.capture, hr, Bool.not_false, if_true]

variable (hr : s.drives[d].reference = true)
include hr

/-- A capture in range: the third valid one in a row of SPIN-CHECK leads to MOUNTING (R28, R30). -/
theorem capture_of_valid (hv : captureValid s.drives[d].elapsed = true) :
    s.capture d =
      if s.drives[d].state = .spinCheck ∧ s.drives[d].captured.validCount = 3 then
        (s.setDrive d s.drives[d].captured).enterMounting d
      else s.setDrive d s.drives[d].captured := by
  simp only [State.capture, hr, hv, Bool.not_true, Bool.false_eq_true, if_false, if_true]

/-- A capture out of range: the third in a row is a speed fault (R28, R29). -/
theorem capture_of_not_valid (hv : ¬captureValid s.drives[d].elapsed = true) :
    s.capture d =
      if 3 ≤ s.drives[d].badRun + 1 then (s.setDrive d s.drives[d].missed).speedFault d
      else s.setDrive d s.drives[d].missed := by
  simp only [State.capture, hr, hv, Bool.not_true, Bool.false_eq_true, if_false]
  rfl

end Capture

theorem DriveUnit.captured_validCount (u : DriveUnit) :
    u.captured.validCount = if u.state = .spinCheck then u.validCount + 1 else u.validCount := rfl

theorem enterMounting_setDrive (s : State) (d : DriveNo) (u : DriveUnit) :
    (s.setDrive d u).enterMounting d =
      (s.setDrive d { u with state := .mounting, faultCause := none, mount := .clear, validCount := 0 }).startRecal d := by
  unfold State.enterMounting
  rw [setDrive_drives_self, setDrive_setDrive]
  rfl

/-! #### The idle revolution (R35) -/

/-- A revolution counts as idle: the drive in use, the head LOADED, nothing in hand (R35). -/
def State.idlesAt (s : State) (d : DriveNo) : Prop :=
  (s.drives[d].state = .mounting ∨ s.drives[d].state = .mounted ∨ s.drives[d].state = .formatting) ∧ s.drives[d].head = .loaded ∧
    s.scheds[d].inHand = none

theorem idleRevolution_of_idle {s : State} {d : DriveNo} (hi : s.idlesAt d) :
    s.idleRevolution d = s.setDrive d (s.drives[d].idles s.settings[d].headIdle) := by
  obtain ⟨huse, hhead, hhand⟩ := hi
  simp only [State.idleRevolution, (DriveState.inUse_iff _).2 huse, hhead, hhand, beq_self_eq_true, Option.isNone_none, Bool.and_self,
    if_true]

theorem idleRevolution_of_not_idle {s : State} {d : DriveNo} (hi : ¬s.idlesAt d) : s.idleRevolution d = s := by
  refine if_neg fun hidle => hi ?_
  simp only [Bool.and_eq_true, DriveState.inUse_iff, beq_iff_eq, Option.isNone_iff_eq_none] at hidle
  exact ⟨hidle.1.1, hidle.1.2, hidle.2⟩

theorem DriveUnit.idles_of_unloads {u : DriveUnit} {headIdle : Nat} (h1 : 1 ≤ headIdle) (hn : headIdle ≤ min 60 (u.idleCount + 1)) :
    u.idles headIdle = { u with head := .unloaded, idleCount := 0 } := if_pos ⟨h1, hn⟩

theorem DriveUnit.idles_of_stays {u : DriveUnit} {headIdle : Nat} (h : headIdle = 0 ∨ min 60 (u.idleCount + 1) < headIdle) :
    u.idles headIdle = { u with idleCount := min 60 (u.idleCount + 1) } := if_neg (by omega)

/-! #### The speed fault (R29) -/

section Speed
variable {s : State} {d : DriveNo}

theorem speedFault_of_in_service (hs : s.drives[d].state.faultsOnSpeed = true) :
    s.speedFault d =
      ((s.setDrive d s.drives[d].timerRestarted).countDrive d .speedFaults 1).leaveUse d .faulted (some .speed) (.faulted d .speed) := by
  unfold State.speedFault
  dsimp only
  rw [setDrive_drives_self]
  exact if_pos hs

theorem speedFault_of_not_in_service (hs : ¬s.drives[d].state.faultsOnSpeed = true) :
    s.speedFault d = s.setDrive d s.drives[d].timerRestarted := by
  unfold State.speedFault
  dsimp only
  rw [setDrive_drives_self]
  exact if_neg hs

theorem noIndex_of_turns (ht : s.drives[d].turns = true) : s.noIndex d = (s.speedFault d).settle := if_pos ht

theorem noIndex_of_not_turns (ht : ¬s.drives[d].turns = true) : s.noIndex d = s := if_neg ht

end Speed

/-- Settles O33: the capture by reference, range and the third in a row; the idle revolution; the speed fault by the drive's state. -/
theorem indexPulsesAreCaptured : Obligations.IndexPulsesAreCaptured := by
  refine ⟨fun d s hp => ?_, fun d s => ?_, fun d s => ?_⟩
  · intro u turning spin valid went good missed
    have hwent {t : State} (ht : turning) (hc : s.capture d = t) : went t := by
      rw [← hc]
      exact (exec_indexPulse hp d).trans (congrArg Host.Outcome.next (pulse_of_turns ((DriveUnit.turns_iff u).2 ht)))
    refine ⟨fun ht => ?_, fun ht hr => ?_, fun ht hr hv hn => ?_, fun ht hr hv hs hn => ?_, fun ht hr hv hb => ?_, fun ht hr hv hb => ?_⟩
    · rw [exec_indexPulse hp, pulse_of_not_turns fun h => ht ((DriveUnit.turns_iff u).1 h)]
    · exact hwent ht (capture_of_no_reference hr)
    · refine hwent ht ((capture_of_valid hr ((captureValid_iff _).2 hv)).trans (if_neg ?_))
      rintro ⟨hs, h3⟩
      rw [DriveUnit.captured_validCount, if_pos hs] at h3
      exact hn ⟨hs, Nat.succ.inj h3⟩
    · have h3 : u.captured.validCount = 3 := by rw [DriveUnit.captured_validCount, if_pos hs, hn]
      refine hwent ht ((capture_of_valid hr ((captureValid_iff _).2 hv)).trans ((if_pos ⟨hs, h3⟩).trans ?_))
      exact enterMounting_setDrive s d u.captured
    · exact hwent ht ((capture_of_not_valid hr fun h => hv ((captureValid_iff _).1 h)).trans (if_neg (Nat.not_le.2 (Nat.succ_lt_succ hb))))
    · exact hwent ht ((capture_of_not_valid hr fun h => hv ((captureValid_iff _).1 h)).trans (if_pos (Nat.succ_le_succ hb)))
  · intro u idle n setting
    refine ⟨idleRevolution_of_not_idle, fun hi h1 hn => ?_, fun hi hn => ?_⟩
    · rw [idleRevolution_of_idle hi, DriveUnit.idles_of_unloads h1 hn]
    · rw [idleRevolution_of_idle hi, DriveUnit.idles_of_stays hn]
  · intro u restarted inService
    refine ⟨fun hs => speedFault_of_in_service ((DriveState.faultsOnSpeed_iff _).2 hs),
      fun hs => speedFault_of_not_in_service fun h => hs ((DriveState.faultsOnSpeed_iff _).1 h), fun hp => ⟨fun ht => ?_, fun ht => ?_⟩⟩
    · rw [exec_noIndexTimeout hp, noIndex_of_turns ((DriveUnit.turns_iff u).2 ht)]
    · rw [exec_noIndexTimeout hp, noIndex_of_not_turns fun h => ht ((DriveUnit.turns_iff u).1 h)]

end Sys2Proof.Machine
end

section
namespace Sys2Proof.Machine

/-! ### Expiries of the mechanism (R31, R32, R34, R36) -/

section Expiries
variable {s : State} (hp : s.powerGood = true) (d : DriveNo)
include hp

theorem exec_stepIntervalExpiry (zero : Bool) :
    exec (.stepIntervalExpiry d zero) s =
      .next (s.setDrive d ({ s.drives[d] with trackZero := zero } : DriveUnit).seekExpires).settle := by
  refine (congrArg Host.Outcome.next (powered_of_powerGood (s := s.setTrackZero d zero) hp _)).trans ?_
  unfold State.setTrackZero
  rw [setDrive_drives_self, setDrive_setDrive]

theorem exec_recalibrationStepExpiry (zero : Bool) :
    exec (.recalibrationStepExpiry d zero) s =
      .next ((s.setDrive d { s.drives[d] with trackZero := zero }).recalExpires d).settle :=
  congrArg Host.Outcome.next (powered_of_powerGood (s := s.setTrackZero d zero) hp _)

theorem exec_settleExpiry : exec (.settleExpiry d) s = .next (s.settles d).settle :=
  congrArg Host.Outcome.next (powered_of_powerGood hp _)

theorem exec_headLoadExpiry : exec (.headLoadExpiry d) s = .next (s.setDrive d s.drives[d].headLoads).settle :=
  congrArg Host.Outcome.next (powered_of_powerGood hp _)

end Expiries

/-! #### A step interval of a seek (R31) -/

theorem towards_of_ne {position target : Nat} (h : position ≠ target) :
    towards position target = if position < target then position + 1 else position - 1 := by
  unfold towards
  split
  · rfl
  · exact if_pos (by omega)

section Seek
variable {u : DriveUnit} {target x i n : Nat}

theorem seekExpires_of_arrived (hm : u.motion = .seekStep target x i n) (hpos : u.position = some target) :
    u.seekExpires = { u with motion := .seekSettle target x } := by
  simp only [DriveUnit.seekExpires, hm, hpos, if_true]

theorem seekExpires_of_on_the_way (hm : u.motion = .seekStep target x i n) {c : Nat} (hpos : u.position = some c) (hc : c ≠ target) :
    u.seekExpires = { u with position := some (if c < target then c + 1 else c - 1), stepPulses := u.stepPulses + 1,
                             motion := .seekStep target x i i } := by
  simp only [DriveUnit.seekExpires, hm, hpos, Option.some.injEq, hc, if_false, Option.map_some, towards_of_ne hc]

theorem seekExpires_of_no_seek (hm : ∀ target x i n, u.motion ≠ .seekStep target x i n) : u.seekExpires = u := by
  unfold DriveUnit.seekExpires
  split
  next h => exact absurd h (hm _ _ _ _)
  next => rfl

end Seek

/-! #### A step interval of a recalibration (R32) -/

section Recal
variable (s : State) (d : DriveNo) {u : DriveUnit} {pulses x i n : Nat}

theorem recalExpires_of_zero (hm : u.motion = .recalStep pulses x i n) (hz : u.trackZero = true) :
    (s.setDrive d u).recalExpires d = s.setDrive d { u with motion := .recalSettle x } := by
  unfold State.recalExpires
  simp only [setDrive_drives_self, setDrive_setDrive, hm, hz, if_true]

theorem recalExpires_of_next (hm : u.motion = .recalStep pulses x i n) (hz : u.trackZero = false) (hn : pulses < 80) :
    (s.setDrive d u).recalExpires d =
      s.setDrive d { u with stepPulses := u.stepPulses + 1, motion := .recalStep (pulses + 1) x i i } := by
  have hmore : ¬Config.recalSteps ≤ pulses := Nat.not_le.2 hn
  unfold State.recalExpires
  simp only [setDrive_drives_self, setDrive_setDrive, hm, hz, Bool.false_eq_true, if_false, hmore]

theorem recalExpires_of_last (hm : u.motion = .recalStep pulses x i n) (hz : u.trackZero = false) (hn : 80 ≤ pulses) :
    (s.setDrive d u).recalExpires d = (s.setDrive d u).leaveUse d .faulted (some .trackZero) (.faulted d .trackZero) := by
  have hlast : Config.recalSteps ≤ pulses := hn
  unfold State.recalExpires
  simp only [setDrive_drives_self, hm, hz, Bool.false_eq_true, if_false, hlast, if_true]
  rfl

theorem recalExpires_of_no_recal (hm : ∀ pulses x i n, u.motion ≠ .recalStep pulses x i n) :
    (s.setDrive d u).recalExpires d = s.setDrive d u := by
  unfold State.recalExpires
  rw [setDrive_drives_self]
  dsimp only
  split
  next h => exact absurd h (hm _ _ _ _)
  next => rfl

end Recal

/-! #### The settle time and the head-load time (R31, R32, R34, R36) -/

section Settle
variable {s : State} {d : DriveNo}

theorem afterRecal_of_not_asking {u : DriveUnit} (h : ¬(u.state = .mounting ∧ u.mount.labelAsked = false)) :
    (s.setDrive d u).afterRecal d = s.setDrive d u := by
  unfold State.afterRecal
  dsimp only
  rw [setDrive_drives_self, if_neg h]

theorem afterRecal_of_asking {u : DriveUnit} (h : u.state = .mounting ∧ u.mount.labelAsked = false) :
    (s.setDrive d u).afterRecal d =
      (s.setDrive d { u with mount := { u.mount with labelAsked := true } }).joinSystem (.mount d) := by
  unfold State.afterRecal
  dsimp only
  rw [setDrive_drives_self, if_pos h, setDrive_setDrive]

theorem settles_of_seek {target n : Nat} (hm : s.drives[d].motion = .seekSettle target n) :
    s.settles d = s.setDrive d { s.drives[d] with motion := .still, position := some target } := by
  simp only [State.settles, hm]

theorem settles_of_recal {n : Nat} (hm : s.drives[d].motion = .recalSettle n) :
    s.settles d = (s.setDrive d { s.drives[d] with motion := .still, position := some 0 }).afterRecal d := by
  simp only [State.settles, hm]

theorem settles_of_no_settle (hseek : ∀ target n, s.drives[d].motion ≠ .seekSettle target n)
    (hrecal : ∀ n, s.drives[d].motion ≠ .recalSettle n) : s.settles d = s := by
  unfold State.settles
  dsimp only
  split
  next h => exact absurd h (hseek _ _)
  next h => exact absurd h (hrecal _)
  next => rfl

end Settle

theorem headLoads_of_loading {u : DriveUnit} {n : Nat} (hh : u.head = .loading n) : u.headLoads = { u with head := .loaded } := by
  simp only [DriveUnit.headLoads, hh]

theorem headLoads_of_not_loading {u : DriveUnit} (hh : ∀ n, u.head ≠ .loading n) : u.headLoads = u := by
  unfold DriveUnit.headLoads
  split
  next h => exact absurd h (hh _)
  next => rfl

/-! #### A seek of k cylinders (R31) -/

/-- The record of a seek after `j` step expiries: the pulses issued, the cylinder they have led to, the seek still running. -/
structure DriveUnit.SeekAt (u : DriveUnit) (st : Settings) (position target j : Nat) : Prop where
  pulses : u.stepPulses = j + 1
  cylinder : u.position = some (if position < target then position + (j + 1) else position - (j + 1))
  running : u.motion = .seekStep target st.settle st.stepInterval st.stepInterval
  direction : u.direction = decide (position < target)

section Seeking
variable {u : DriveUnit} {st : Settings} {position target j : Nat}

theorem startSeek_seekAt (u : DriveUnit) (st : Settings) (hne : position ≠ target) :
    (u.startSeek st position target).SeekAt st position target 0 :=
  ⟨rfl, congrArg some (towards_of_ne hne), rfl, rfl⟩

/-- One expiry with the target not reached leads to the next cylinder on the way. -/
theorem DriveUnit.SeekAt.next (h : u.SeekAt st position target j) (hj : j + 1 < (position - target) + (target - position)) :
    u.seekExpires.SeekAt st position target (j + 1) := by
  obtain ⟨hpulses, hcyl, hrun, hdir⟩ := h
  rw [seekExpires_of_on_the_way hrun hcyl (by split <;> omega)]
  refine ⟨congrArg (· + 1) hpulses, congrArg some ?_, rfl, hdir⟩
  split <;> split <;> omega

theorem iterate_seekExpires_seekAt (u : DriveUnit) (st : Settings) (hne : position ≠ target)
    (hj : j < (position - target) + (target - position)) :
    (DriveUnit.seekExpires^[j] (u.startSeek st position target)).SeekAt st position target j := by
  induction j with
  | zero => exact startSeek_seekAt u st hne
  | succ j ih =>
    rw [Function.iterate_succ_apply']
    exact (ih (by omega)).next hj

end Seeking

/-- Settles O34: each expiry by what is running; a seek by induction over its step expiries. -/
theorem expiriesMoveTheMechanism : Obligations.ExpiriesMoveTheMechanism := by
  refine ⟨fun d zero s hp => ?_, fun u st position target j hne => ?_⟩
  · intro u becomes next
    refine ⟨fun target x i n hm => ⟨fun hpos => ?_, fun c hpos hc => ?_⟩, fun hm => ?_,
      fun pulses x i n hm => ⟨fun hz => ?_, fun hz hn => ?_, fun hz hn => ?_⟩, fun hm => ?_, fun target n hm => ?_, fun n hm => ?_,
      fun hseek hrecal => ?_, fun n hh => ?_, fun hh => ?_⟩
    · exact (exec_stepIntervalExpiry hp d zero).trans (by rw [seekExpires_of_arrived (u := u) hm hpos])
    · exact (exec_stepIntervalExpiry hp d zero).trans (by rw [seekExpires_of_on_the_way (u := u) hm hpos hc])
    · exact (exec_stepIntervalExpiry hp d zero).trans (by rw [seekExpires_of_no_seek (u := u) hm])
    · exact (exec_recalibrationStepExpiry hp d zero).trans (by rw [recalExpires_of_zero s d (u := u) hm hz])
    · exact (exec_recalibrationStepExpiry hp d zero).trans (by rw [recalExpires_of_next s d (u := u) hm hz hn])
    · exact (exec_recalibrationStepExpiry hp d zero).trans (by rw [recalExpires_of_last s d (u := u) hm hz hn])
    · exact (exec_recalibrationStepExpiry hp d zero).trans (by rw [recalExpires_of_no_recal s d (u := u) hm])
    · exact (exec_settleExpiry hp d).trans (by rw [settles_of_seek hm])
    · intro v
      have hrun := exec_settleExpiry hp d
      rw [settles_of_recal hm] at hrun
      exact ⟨fun hask => hrun.trans (by rw [afterRecal_of_not_asking hask]),
        fun hs hl => hrun.trans (by rw [afterRecal_of_asking ⟨hs, hl⟩])⟩
    · rw [exec_settleExpiry hp, settles_of_no_settle hseek hrecal]
    · exact (exec_headLoadExpiry hp d).trans (by rw [headLoads_of_loading hh])
    · exact (exec_headLoadExpiry hp d).trans (by rw [headLoads_of_not_loading hh])
  · intro k started after
    have hat {j : Nat} (hj : j < k) : (after j).SeekAt st position target j := iterate_seekExpires_seekAt u st hne hj
    have hk : k - 1 < k := by omega
    have hsucc : k - 1 + 1 = k := by omega
    have hlast : after k = { after (k - 1) with motion := .seekSettle target st.settle } := by
      have hcyl : (after (k - 1)).position = some target := by
        rw [(hat hk).cylinder]
        refine congrArg some ?_
        split <;> omega
      have hstep : after k = (after (k - 1)).seekExpires := by
        simp only [after]
        rw [← Function.iterate_succ_apply' DriveUnit.seekExpires, Nat.succ_eq_add_one, hsucc]
      rw [hstep, seekExpires_of_arrived (hat hk).running hcyl]
    refine ⟨rfl, fun hj => ⟨(hat hj).pulses, (hat hj).cylinder, (hat hj).running, (hat hj).direction⟩, ?_, ?_, ?_⟩
    · rw [hlast]
    · rw [hlast]
      exact (hat hk).pulses.trans hsucc
    · rw [hlast]
      refine (hat hk).cylinder.trans (congrArg some ?_)
      split <;> omega

end Sys2Proof.Machine
end

section
namespace Sys2Proof.Machine

/-! ### What a drive does as soon as it can (R31, R34, R49, R51, R54 to R56, R78) -/

/-- A drive that is free to choose: in use, its mechanism at rest, with work and without the channel (R51, R62). -/
def State.freeToAct (s : State) (d : DriveNo) : Prop :=
  (s.drives[d].state = .mounting ∨ s.drives[d].state = .mounted ∨ s.drives[d].state = .formatting) ∧
    s.drives[d].motion = .still ∧ (∀ n, s.drives[d].head ≠ .loading n) ∧ s.scheds[d].workList ≠ [] ∧ s.channel.grant ≠ some d

section Acts
variable {s : State} {d : DriveNo} {r : SectorRequest}

theorem mayAct_iff :
    s.mayAct d = true ↔
      (s.drives[d].state = .mounting ∨ s.drives[d].state = .mounted ∨ s.drives[d].state = .formatting) ∧
        s.scheds[d].inHand = none ∧ s.drives[d].motion = .still ∧ (∀ n, s.drives[d].head ≠ .loading n) ∧
          s.scheds[d].workList ≠ [] := by
  unfold State.mayAct
  simp only [Bool.and_eq_true, DriveState.inUse_iff, Option.isNone_iff_eq_none, beq_iff_eq, Bool.not_eq_true', List.isEmpty_eq_false_iff,
    and_assoc]
  cases hhead : s.drives[d].head with
  | loading n => simp
  | unloaded | loaded => simp

theorem driveActs_of_positioned (hh : s.scheds[d].inHand = some ⟨r, .positioning⟩)
    (hready : s.drives[d].motion = .still ∧ s.drives[d].head = .loaded) : s.driveActs d = s.enterWaiting d r := by
  simp only [State.driveActs, hh, hready, and_self, if_true]

theorem driveActs_of_positioning (hh : s.scheds[d].inHand = some ⟨r, .positioning⟩)
    (hready : ¬(s.drives[d].motion = .still ∧ s.drives[d].head = .loaded)) : s.driveActs d = s := by
  simp only [State.driveActs, hh, hready, if_false]

theorem driveActs_of_other_phase {phase : HandPhase} (hh : s.scheds[d].inHand = some ⟨r, phase⟩) (hphase : phase ≠ .positioning) :
    s.driveActs d = s := by
  cases phase with
  | positioning => exact absurd rfl hphase
  | waiting | passing => simp only [State.driveActs, hh]

section Empty
variable (hh : s.scheds[d].inHand = none)
include hh

theorem driveActs_of_not_free (hf : ¬s.freeToAct d) : s.driveActs d = s := by
  unfold State.driveActs
  rw [hh]
  refine if_neg fun ⟨hgrant, hmay⟩ => hf ?_
  obtain ⟨huse, _, hmotion, hhead, hwork⟩ := mayAct_iff.1 hmay
  exact ⟨huse, hmotion, hhead, hwork, hgrant⟩

variable (hf : s.freeToAct d)
include hf

theorem grant_and_mayAct_of_free : s.channel.grant ≠ some d ∧ s.mayAct d = true := by
  obtain ⟨huse, hmotion, hhead, hwork, hgrant⟩ := hf
  exact ⟨hgrant, mayAct_iff.2 ⟨huse, hh, hmotion, hhead, hwork⟩⟩

theorem driveActs_of_pending (hp : s.drives[d].pendingRecal = true) : s.driveActs d = s.startRecal d := by
  unfold State.driveActs
  rw [hh]
  exact (if_pos (grant_and_mayAct_of_free hh hf)).trans (if_pos hp)

variable (hp : s.drives[d].pendingRecal = false)
include hp

theorem driveActs_of_no_choice (hc : s.chosen d = none) : s.driveActs d = s := by
  simp only [State.driveActs, hh, grant_and_mayAct_of_free hh hf, hp, hc, ne_eq, not_false_eq_true, and_self, if_true,
    Bool.false_eq_true, if_false]

theorem driveActs_of_chosen (hc : s.chosen d = some r) : s.driveActs d = (s.takeChosen d r).putInHand d r := by
  simp only [State.driveActs, hh, grant_and_mayAct_of_free hh hf, hp, hc, ne_eq, not_false_eq_true, and_self, if_true,
    Bool.false_eq_true, if_false]

end Empty

end Acts

/-- Passing over one page or one drive reads the same with `≠` as with the Boolean test. -/
theorem filter_ne_eq_filter_bne {α β : Type} [DecidableEq β] (f : α → β) (b : β) (l : List α) :
    l.filter (fun x => f x ≠ b) = l.filter (fun x => f x != b) := by
  congr 1
  funext x
  simp [bne, beq_eq_decide]

theorem takeChosen_eq (s : State) (d : DriveNo) (r : SectorRequest) :
    s.takeChosen d r =
      (s.setSched d { s.scheds[d] with workList := s.scheds[d].workList.filter (fun x => x.page ≠ r.page) }).setDrive d
        { s.drives[d] with idleCount := 0 } := by
  rw [filter_ne_eq_filter_bne]
  rfl

/-! #### The request in hand (R31, R34, R54) -/

/-- The drive record once the choice is in hand: the seek and the head load it needs have started. -/
def DriveUnit.positioned (u : DriveUnit) (st : Settings) (position target : Nat) : DriveUnit :=
  (if position = target then u else u.startSeek st position target).startLoad st

theorem startLoad_eq (u : DriveUnit) (st : Settings) :
    u.startLoad st =
      if u.head = .unloaded then { u with head := if st.headLoad = 0 then .loaded else .loading st.headLoad } else u := by
  unfold DriveUnit.startLoad
  split
  next hu => rw [if_pos hu]
  next hu => rw [if_neg hu]

theorem startSeek_of_ne (u : DriveUnit) (st : Settings) {position target : Nat} (hne : position ≠ target) :
    u.startSeek st position target =
      { u with direction := decide (position < target), stepPulses := 1,
               position := some (if position < target then position + 1 else position - 1),
               motion := .seekStep target st.settle st.stepInterval st.stepInterval } := by
  unfold DriveUnit.startSeek
  rw [towards_of_ne hne]

theorem putInHand_eq {s : State} {d : DriveNo} {position : Nat} (hpos : s.drives[d].position = some position) (r : SectorRequest) :
    s.putInHand d r =
      (let v := s.drives[d].positioned s.settings[d] position r.target.cylinder
      if v.motion = .still ∧ v.head = .loaded then (s.setDrive d v).enterWaiting d r
      else (s.setDrive d v).setSched d { s.scheds[d] with inHand := some ⟨r, .positioning⟩ }) := by
  unfold State.putInHand
  dsimp only
  rw [hpos]
  rfl

/-! #### Withdrawals (R49, R56) -/

section Withdrawal
variable {s : State} {d : DriveNo} {p : PageNo} {r : SectorRequest}

theorem withdraw_of_not_in_hand (hh : ∀ h, s.scheds[d].inHand = some h → h.request.page ≠ p) :
    s.withdraw d p = (s.setSched d { s.scheds[d] with workList := s.scheds[d].workList.filter (fun x => x.page != p) }).freePage p := by
  unfold State.withdraw
  dsimp only
  split
  next => rfl
  next h hin => exact if_pos (by simpa using hh h hin)

variable (hp : r.page = p)
include hp

theorem withdraw_of_positioning (hh : s.scheds[d].inHand = some ⟨r, .positioning⟩) :
    s.withdraw d p =
      (s.setSched d { s.scheds[d] with workList := s.scheds[d].workList.filter (fun x => x.page != p), inHand := none }).freePage p := by
  simp only [State.withdraw, hh, hp, bne_self_eq_false, Bool.false_eq_true, if_false]

theorem withdraw_of_waiting (hh : s.scheds[d].inHand = some ⟨r, .waiting⟩) :
    s.withdraw d p =
      ((s.setSched d { s.scheds[d] with workList := s.scheds[d].workList.filter (fun x => x.page != p),
                                        inHand := none }).leaveWaitList d).freePage p := by
  simp only [State.withdraw, hh, hp, bne_self_eq_false, Bool.false_eq_true, if_false]

theorem withdraw_of_passing (hh : s.scheds[d].inHand = some ⟨r, .passing⟩) :
    s.withdraw d p =
      (s.setSched d { s.scheds[d] with workList := s.scheds[d].workList.filter (fun x => x.page != p) }).markWithdrawn := by
  simp only [State.withdraw, hh, hp, bne_self_eq_false, Bool.false_eq_true, if_false]

end Withdrawal

/-! #### A request placed on an idle drive (R51) -/

/-- The only candidate is chosen. -/
theorem chosen_of_single {s : State} {d : DriveNo} {position : Nat} {r : SectorRequest} (hpos : s.drives[d].position = some position)
    (hwork : s.scheds[d].workList = [r]) : s.chosen d = some r := by
  obtain ⟨hsome, hmem⟩ := choiceTakesALeastCostCandidate.1 s d position hpos
  obtain ⟨x, hx⟩ := hsome (by rw [hwork]; exact List.cons_ne_nil _ _)
  have hin := (hmem x hx).1
  rw [hwork, List.mem_singleton] at hin
  rw [hx, hin]

theorem joins_eq {s : State} {d : DriveNo} (hwork : s.scheds[d].workList = []) (x : Target) (op : Operation) (p : PageNo) (o : Owner)
    (c : Class) :
    s.joins d x op p o c =
      (s.setSched d { s.scheds[d] with workList :=
        [{ seq := s.seq, drive := d, target := x, operation := op, page := p, owner := o, cls := c, entry := s.tick, attempts := 0,
           recalibrated := false }] }).setSeq (s.seq + 1) := by
  unfold State.joins
  rw [hwork]
  rfl

theorem setSched_scheds_self (s : State) (d : DriveNo) (q : Scheduler) : (s.setSched d q).scheds[d] = q := by simp

/-- Settles O44: the drive's action by what is in hand, the withdrawal by the phase in hand, the order of what follows by definition. -/
theorem drivesActAsSoonAsTheyCan : Obligations.DrivesActAsSoonAsTheyCan := by
  refine ⟨fun s d => ?_, takeChosen_eq, fun s d r position hpos => ?_, fun s d p => ?_, fun s => ⟨rfl, rfl, rfl⟩, ?_⟩
  · intro u acts
    refine ⟨fun r hh => ⟨fun hm hl => driveActs_of_positioned hh ⟨hm, hl⟩, driveActs_of_positioning hh⟩,
      fun r phase => driveActs_of_other_phase, fun hh => ⟨driveActs_of_not_free hh, driveActs_of_pending hh,
        driveActs_of_no_choice hh, fun r hf hp hc => driveActs_of_chosen hh hf hp hc⟩⟩
  · intro u st target moved v
    have hv : s.drives[d].positioned s.settings[d] position r.target.cylinder = v := by
      have hmoved : (if position = target then u else u.startSeek st position target) = moved := by
        simp only [moved]
        split
        next => rfl
        next hne => exact startSeek_of_ne u st hne
      have hhead : moved.head = u.head := by
        simp only [moved]
        split <;> rfl
      rw [DriveUnit.positioned, hmoved, startLoad_eq, hhead]
    rw [putInHand_eq hpos, hv]
    exact ⟨fun hm hl => if_pos ⟨hm, hl⟩, fun hnot => if_neg hnot⟩
  · intro rest left
    have hrest : rest = s.scheds[d].workList.filter (fun x => x.page != p) := filter_ne_eq_filter_bne ..
    refine ⟨fun hh => ?_, fun r hp => ⟨fun hh => ?_, fun hh => ?_, fun hh => ?_⟩⟩
    · rw [withdraw_of_not_in_hand hh]
      simp only [left, hrest]
    · rw [withdraw_of_positioning hp hh]
      simp only [left, hrest]
    · rw [withdraw_of_waiting hp hh]
      simp only [left, hrest, filter_ne_eq_filter_bne]
      rfl
    · rw [withdraw_of_passing hp hh]
      simp only [hrest]
      rfl
  · intro s d x op p o c position u hrun huse hh hwork hmotion hhead hpend hpos hgrant r joined
    have hsched : joined.scheds[d] = { s.scheds[d] with workList := [r] } := setSched_scheds_self ..
    have hfree : joined.freeToAct d := ⟨huse, hmotion, hhead, by rw [hsched]; exact List.cons_ne_nil _ _, hgrant⟩
    have hchosen : joined.chosen d = some r := chosen_of_single hpos (by rw [hsched])
    have hacts : joined.driveActs d = (joined.takeChosen d r).putInHand d r :=
      driveActs_of_chosen (by rw [hsched]; exact hh) hfree hpend hchosen
    unfold State.place State.joinsAndActs
    rw [if_pos ((DriveState.inUse_iff _).2 huse), hrun, joins_eq hwork, hacts]

end Sys2Proof.Machine
end

section
namespace Sys2Proof.Machine

/-! ### How a pass starts and ends (R61, R65, R66, R75 to R80) -/

/-! #### The start (R65, R66) -/

/-- The state with the request in a pass: in hand as PASSING, and the pass record of R65 new. -/
def State.beginsPass (s : State) (d : DriveNo) (r : SectorRequest) : State :=
  (s.setSched d { s.scheds[d] with inHand := some ⟨r, .passing⟩ }).setChannel
    { s.channel with
      headSelect := r.target.head, writeGate := false, writeData := .none
      pass := some { drive := d, phase := if r.operation = .formatTrack then .formatWait else .search, indexCount := 0, wrongCount := 0,
                     withdrawn := false, matched := false, finishing := false } }

theorem startPass_of_catalogue (s : State) (d : DriveNo) {r : SectorRequest} {q : CatNo} (ho : r.owner = .catalogue q) :
    s.startPass d r = (s.beginsPass d r).buildSector d q r.page := by
  simp only [State.startPass, ho]
  rfl

theorem startPass_of_not_catalogue (s : State) (d : DriveNo) {r : SectorRequest} (ho : ∀ q, r.owner ≠ .catalogue q) :
    s.startPass d r = s.beginsPass d r := by
  unfold State.startPass
  dsimp only
  split
  next q h => exact absurd h (ho q)
  next => rfl

/-! #### The end (R61, R76, R80) -/

/-- The tallies of R80 read no scheduler. -/
theorem countPass_scheds (s : State) (d : DriveNo) (op : Operation) (e : PassEnd) : (s.countPass d op e).scheds = s.scheds := by
  cases e with
  | done => cases op <;> rfl
  | isProtected => rfl
  | failed cause => rfl

/-- The tallies counted and the pass record empty (R65, R80). -/
def State.passCounted (s : State) (d : DriveNo) (op : Operation) (e : PassEnd) : State :=
  (s.countPass d op e).setChannel { s.channel with pass := none, writeGate := false, writeData := .none }

/-- The request out of hand too (R61). -/
def State.passOut (s : State) (d : DriveNo) (op : Operation) (e : PassEnd) : State :=
  (s.passCounted d op e).setSched d { s.scheds[d] with inHand := none }

section Ends
variable (s : State) {p : Pass} (r : SectorRequest)

theorem endPass_of_finishing (e : PassEnd) (hf : p.finishing = true) :
    s.endPass p r e = (s.passCounted p.drive r.operation e).finishPass p.drive r.page := if_pos hf

theorem setSched_passCounted (e : PassEnd) :
    (s.passCounted p.drive r.operation e).setSched p.drive
      { (s.passCounted p.drive r.operation e).scheds[p.drive] with inHand := none } = s.passOut p.drive r.operation e := by
  have hsched : (s.passCounted p.drive r.operation e).scheds = s.scheds := countPass_scheds ..
  rw [hsched]
  rfl

variable (hf : p.finishing = false)
include hf

theorem endPass_of_done :
    s.endPass p r .done =
      (if p.withdrawn then (s.passOut p.drive r.operation .done).freePage r.page
        else (s.passOut p.drive r.operation .done).ownerDone r).servePools.continueRun p.drive := by
  rw [← setSched_passCounted s r]
  exact if_neg (by rw [hf]; exact Bool.false_ne_true)

theorem endPass_of_protected :
    s.endPass p r .isProtected =
      (if p.withdrawn then (s.passOut p.drive r.operation .isProtected).freePage r.page
        else (s.passOut p.drive r.operation .isProtected).ownerProtected r).servePools.releaseChannel p.drive := by
  rw [← setSched_passCounted s r]
  exact if_neg (by rw [hf]; exact Bool.false_ne_true)

/-- The state after a failed attempt, the channel released (R61, R77). -/
def State.attemptFailed (s : State) (p : Pass) (r : SectorRequest) (cause : PassCause) : State :=
  (if p.withdrawn then (s.passOut p.drive r.operation (.failed cause)).freePage r.page
    else (s.passOut p.drive r.operation (.failed cause)).retryOrFail p.drive r cause).servePools.releaseChannel p.drive

theorem endPass_of_failed (cause : PassCause) :
    s.endPass p r (.failed cause) =
      if cause = .wrongCylinder then (s.attemptFailed p r cause).recalAtOnce p.drive else s.attemptFailed p r cause := by
  unfold State.attemptFailed
  rw [← setSched_passCounted s r]
  exact if_neg (by rw [hf]; exact Bool.false_ne_true)

end Ends

/-! #### The owner (R76) -/

section Owners
variable (s : State) {r : SectorRequest} (cause : PassCause)

/-- The request of a step of the format sequencer (R190). -/
def SectorRequest.ofFormat (r : SectorRequest) : Prop :=
  (∃ t, r.owner = .formatTrack t) ∨ (∃ l, r.owner = .formatVerify l) ∨ r.owner = .formatLabel ∨ ∃ q, r.owner = .formatCatalogue q

theorem owner_of_read {desk : Desk} {h : HandleNo} {j : Nat} (ho : r.owner = .handleSector desk h j) (hop : r.operation = .read) :
    s.ownerDone r = s.readDone desk h j r.page ∧ s.ownerFailed r cause = s.readFailed desk h j r.page cause := by
  simp only [State.ownerDone, State.ownerFailed, ho, hop, if_true, and_self]

theorem owner_of_write {desk : Desk} {h : HandleNo} {j : Nat} (ho : r.owner = .handleSector desk h j) (hop : r.operation ≠ .read) :
    s.ownerDone r = s.writeDone desk h j r.page ∧ s.ownerFailed r cause = s.writeFailed desk h j r.page := by
  simp only [State.ownerDone, State.ownerFailed, ho, hop, if_false, and_self]

theorem ownerProtected_of_handleSector {desk : Desk} {h : HandleNo} {j : Nat} (ho : r.owner = .handleSector desk h j) :
    s.ownerProtected r = s.writeProtected desk h j r.page := by
  simp only [State.ownerProtected, ho]

theorem owner_of_mountLabel (ho : r.owner = .mountLabel) :
    s.ownerDone r = s.mountLabelDone r.drive r.page ∧ s.ownerFailed r cause = s.mountLabelFailed r.drive r.page := by
  simp only [State.ownerDone, State.ownerFailed, ho, and_self]

theorem owner_of_mountCatalogue {q : CatNo} (ho : r.owner = .mountCatalogue q) :
    s.ownerDone r = s.mountCatalogueDone r.drive q r.page ∧ s.ownerFailed r cause = s.mountCatalogueFailed r.drive q r.page := by
  simp only [State.ownerDone, State.ownerFailed, ho, and_self]

theorem owner_of_format (ho : r.ofFormat) :
    s.ownerDone r = s.formatDone r.page ∧ s.ownerFailed r cause = s.formatFailed r.page ∧
      s.ownerProtected r = s.formatProtected r.page := by
  rcases ho with ⟨_, h⟩ | ⟨_, h⟩ | h | ⟨_, h⟩
  all_goals simp only [State.ownerDone, State.ownerFailed, State.ownerProtected, h, and_self]

end Owners

/-! #### The recalibration of WRONG-CYLINDER (R32, R33, R39, R79) -/

/-- A drive record comes in and the recalibration counts (R80). -/
def State.recalibrates (s : State) (d : DriveNo) (u : DriveUnit) : State := (s.setDrive d u).countDrive d .recalibrations 1

section Recal
variable {s : State} {d : DriveNo}

theorem recalAtOnce_of_in_use (hs : s.drives[d].state.inUse = true) : s.recalAtOnce d = s.startRecal d := if_pos hs

theorem recalAtOnce_of_not_in_use (hs : ¬s.drives[d].state.inUse = true) :
    s.recalAtOnce d = s.recalibrates d (s.drives[d].startRecalUnstepped s.settings[d]) := if_neg hs

theorem startRecal_of_zero {u : DriveUnit} (st : Settings) (hz : u.trackZero = true) :
    u.startRecal st =
      { u with direction := false, position := none, pendingRecal := false, stepPulses := 0, motion := .recalSettle st.settle } :=
  if_pos hz

theorem startRecal_of_not_zero {u : DriveUnit} (st : Settings) (hz : u.trackZero = false) :
    u.startRecal st =
      { u with direction := false, position := none, pendingRecal := false, stepPulses := 1,
               motion := .recalStep 1 st.settle st.stepInterval st.stepInterval } :=
  if_neg (by rw [hz]; exact Bool.false_ne_true)

theorem startRecalUnstepped_of_zero {u : DriveUnit} (st : Settings) (hz : u.trackZero = true) :
    u.startRecalUnstepped st = u.startRecal st := if_pos hz

theorem startRecalUnstepped_of_not_zero {u : DriveUnit} (st : Settings) (hz : u.trackZero = false) :
    u.startRecalUnstepped st =
      { u with direction := false, position := none, pendingRecal := false, stepPulses := 0, motion := .still } := by
  unfold DriveUnit.startRecalUnstepped
  rw [if_neg (by rw [hz]; exact Bool.false_ne_true), startRecal_of_not_zero st hz]

end Recal

/-- Settles O46: the start by the owner, the end by its outcome, the owner by its kind, the recalibration by use and TRACK-ZERO. -/
theorem passesStartAndEnd : Obligations.PassesStartAndEnd := by
  refine ⟨fun s d r => ⟨fun q ho => startPass_of_catalogue s d ho, fun ho => startPass_of_not_catalogue s d ho⟩, fun s d op cause => ?_,
    fun s p r e => ?_, fun s r cause => ?_, fun s d p => ?_⟩
  · refine ⟨rfl, fun hop => ?_, rfl, rfl, rfl⟩
    rcases hop with rfl | rfl <;> rfl
  · refine ⟨endPass_of_finishing s r e, fun hf => ⟨?_, ?_, fun cause => ?_⟩⟩
    · rintro rfl
      exact endPass_of_done s r hf
    · rintro rfl
      exact endPass_of_protected s r hf
    · rintro rfl
      exact endPass_of_failed s r hf cause
  · exact ⟨fun desk h j ho => ⟨owner_of_read s cause ho, owner_of_write s cause ho, ownerProtected_of_handleSector s ho⟩,
      owner_of_mountLabel s cause, fun q ho => owner_of_mountCatalogue s cause ho, owner_of_format s cause⟩
  · refine ⟨rfl, ?_⟩
    intro inUse st c recals outward
    have huse := DriveState.inUse_iff s.drives[d].state
    refine ⟨fun hs => recalAtOnce_of_in_use (huse.2 hs), fun hs hz => ?_, fun hs hz => ?_, fun hz => ?_, fun hz => ?_⟩
    · rw [recalAtOnce_of_not_in_use fun h => hs (huse.1 h), startRecalUnstepped_of_zero _ hz, startRecal_of_zero _ hz]
      rfl
    · rw [recalAtOnce_of_not_in_use fun h => hs (huse.1 h), startRecalUnstepped_of_not_zero _ hz]
      rfl
    · rw [State.startRecal, startRecal_of_zero _ hz]
      rfl
    · rw [State.startRecal, startRecal_of_not_zero _ hz]
      rfl

end Sys2Proof.Machine
end

section
namespace Sys2Proof.Machine

/-! ### A teardown (R43, R64, R74, R120, R144, R148, R187, R191, R195) -/

/-! #### Parts written at one place -/

theorem setDrive_drives_of_ne (s : State) {d e : DriveNo} (u : DriveUnit) (hne : e ≠ d) : (s.setDrive d u).drives[e] = s.drives[e] := by
  simpa using Vector.getElem_set_ne _ _ fun h => hne (Fin.ext h.symm)

theorem setSched_scheds_of_ne (s : State) {d e : DriveNo} (q : Scheduler) (hne : e ≠ d) : (s.setSched d q).scheds[e] = s.scheds[e] := by
  simpa using Vector.getElem_set_ne _ _ fun h => hne (Fin.ext h.symm)

theorem setImage_images_of_ne (s : State) {d e : DriveNo} (x : Option Image) (hne : e ≠ d) :
    (s.setImage d x).images[e] = s.images[e] := by
  simpa using Vector.getElem_set_ne _ _ fun h => hne (Fin.ext h.symm)

theorem setDesk_desks_self (s : State) (desk : Desk) (x : DeskContext) : (s.setDesk desk x).desks[desk] = x := by simp

theorem setDesk_desks_of_ne (s : State) {desk e : Desk} (x : DeskContext) (hne : desk ≠ e) :
    (s.setDesk desk x).desks[e] = s.desks[e] := by
  simpa using Vector.getElem_set_ne _ _ fun h => hne (Fin.ext h)

theorem setLine_lines_self (s : State) (desk : Desk) (x : LineUnit) : (s.setLine desk x).lines[desk] = x := by simp

theorem setLine_lines_of_ne (s : State) {desk e : Desk} (x : LineUnit) (hne : desk ≠ e) :
    (s.setLine desk x).lines[e] = s.lines[e] := by
  simpa using Vector.getElem_set_ne _ _ fun h => hne (Fin.ext h)

theorem setSched_self (s : State) (d : DriveNo) : s.setSched d s.scheds[d] = s := by
  simp only [State.setSched, Fin.getElem_fin, Vector.set_getElem_self]

/-! #### One act for each desk -/

theorem mem_allDesks (e : Desk) : e ∈ allDesks := by
  fin_cases e <;> decide

/-- Where each act of a fold over all desks changes what is seen of its own desk alone, the fold changes what is seen of each desk
once; `I` may be assumed of the states on the way. -/
theorem foldl_allDesks_view {β : Type} {view : State → Desk → β} {g : Desk → β → β} {f : State → Desk → State} {I : State → Prop}
    (hkeep : ∀ s a, I s → I (f s a)) (hself : ∀ s a, I s → view (f s a) a = g a (view s a))
    (hother : ∀ s a e, I s → a ≠ e → view (f s a) e = view s e) {s : State} (hs : I s) (e : Desk) :
    view (allDesks.foldl f s) e = g e (view s e) := by
  have key : ∀ (l : List Desk), l.Nodup → ∀ s, I s → view (l.foldl f s) e = if e ∈ l then g e (view s e) else view s e := by
    intro l
    induction l with
    | nil => exact fun _ s _ => (if_neg List.not_mem_nil).symm
    | cons a l ih =>
      intro hnodup s hs
      obtain ⟨hnot, hnodup⟩ := List.nodup_cons.1 hnodup
      rw [List.foldl_cons, ih hnodup _ (hkeep s a hs)]
      by_cases hae : a = e
      · subst hae
        rw [if_neg hnot, hself s a hs, if_pos List.mem_cons_self]
      · rw [hother s a e hs hae]
        simp only [List.mem_cons, Ne.symm hae, false_or]
  rw [key allDesks (by decide) s hs, if_pos (mem_allDesks e)]

/-! #### Acts that reach the desks, their lines and the waiter list only -/

/-- A state that differs only in its desks, its desk lines and its list of waiters for general pages. -/
def State.OnDesks (s t : State) : Prop :=
  t = { s with pool := { s.pool with waiters := t.pool.waiters }, desks := t.desks, lines := t.lines }

theorem State.OnDesks.refl (s : State) : s.OnDesks s := rfl

theorem State.OnDesks.trans {s t u : State} (h : s.OnDesks t) (k : t.OnDesks u) : s.OnDesks u := by
  unfold State.OnDesks at *
  rw [k, h]

theorem setDesk_onDesks (s : State) (desk : Desk) (x : DeskContext) : s.OnDesks (s.setDesk desk x) := rfl

theorem failWaiting_onDesks (s : State) (desk : Desk) (w : Waiting) (r : Reason) (fields : List Byte) :
    s.OnDesks (s.failWaiting desk w r fields) := rfl

theorem foldl_onDesks {α : Type} {f : State → α → State} (hf : ∀ (s : State) (a : α), s.OnDesks (f s a)) (l : List α) (s : State) :
    s.OnDesks (l.foldl f s) := by
  induction l generalizing s with
  | nil => exact .refl s
  | cons a l ih => exact (hf s a).trans (ih (f s a))

/-! #### An event (R147) -/

theorem raise_desks (s : State) (ev : Event) (e : Desk) : (s.raise ev).desks[e] = s.desks[e].meets ev :=
  foldl_allDesks_view (view := fun s e => s.desks[e]) (g := fun _ c => c.meets ev) (I := fun _ => True) (fun _ _ => id)
    (fun s a _ => setDesk_desks_self s a _) (fun s _ _ _ hne => setDesk_desks_of_ne s _ hne) trivial e

theorem raise_onDesks (s : State) (ev : Event) : s.OnDesks (s.raise ev) :=
  foldl_onDesks (fun s desk => setDesk_onDesks s desk _) allDesks s

/-! #### A waiting request answered FAILED (R144) -/

theorem setInProgress_desks_self (s : State) (desk : Desk) (w : Option Waiting) :
    (s.setInProgress desk w).desks[desk] = { s.desks[desk] with inProgress := w } := setDesk_desks_self ..

section Failing
variable (s : State) (desk : Desk) (w : Waiting) (r : Reason) (fields : List Byte)

theorem failWaiting_desks_self :
    (s.failWaiting desk w r fields).desks[desk] = { s.desks[desk] with inProgress := none, continuation := .none, cursor := 0 } := by
  refine (setDesk_desks_self ..).trans ?_
  exact congrArg (fun c : DeskContext => { c with continuation := .none, cursor := 0 })
    (setInProgress_desks_self (s.leaveWaiters desk) desk none)

theorem failWaiting_lines_self :
    (s.failWaiting desk w r fields).lines[desk] =
      { s.lines[desk] with replies := s.lines[desk].replies ++
        [⟨w.kind.code, .failed, some r, s.desks[desk].notices.length, w.flags, fields, none⟩] } := by
  refine (setLine_lines_self ..).trans ?_
  rw [setInProgress_desks_self]
  rfl

variable {desk} {e : Desk} (hne : desk ≠ e)
include hne

theorem failWaiting_desks_of_ne : (s.failWaiting desk w r fields).desks[e] = s.desks[e] :=
  (setDesk_desks_of_ne _ _ hne).trans (setDesk_desks_of_ne _ _ hne)

theorem failWaiting_lines_of_ne : (s.failWaiting desk w r fields).lines[e] = s.lines[e] := setLine_lines_of_ne _ _ hne

end Failing

/-! #### The UNMOUNT that waits on the drive (R187) -/

/-- What a desk and its line become: an UNMOUNT of the drive that waits is answered FAILED DRIVE-LOST. -/
def unmountFailed (d : DriveNo) (x : DeskContext × LineUnit) : DeskContext × LineUnit :=
  if x.1.inProgress = some (.unmount d) then
    ({ x.1 with inProgress := none, continuation := .none, cursor := 0 },
      { x.2 with replies := x.2.replies ++ [⟨0x63, .failed, some .driveLost, x.1.notices.length, noFlags, [], none⟩] })
  else x

theorem failUnmounts_desk (s : State) (d : DriveNo) (e : Desk) :
    ((s.failUnmounts d).desks[e], (s.failUnmounts d).lines[e]) = unmountFailed d (s.desks[e], s.lines[e]) := by
  refine foldl_allDesks_view (view := fun s e => (s.desks[e], s.lines[e])) (g := fun _ => unmountFailed d) (I := fun _ => True)
    (fun _ _ => id) (fun s a _ => ?_) (fun s a e _ hne => ?_) trivial e
  · unfold unmountFailed
    split
    next hw => exact Prod.ext (failWaiting_desks_self ..) (failWaiting_lines_self ..)
    next => rfl
  · split
    next hw => exact Prod.ext (failWaiting_desks_of_ne s _ _ _ hne) (failWaiting_lines_of_ne s _ _ _ hne)
    next => rfl

theorem failUnmounts_onDesks (s : State) (d : DriveNo) : s.OnDesks (s.failUnmounts d) := by
  refine foldl_onDesks (fun s desk => ?_) allDesks s
  split
  next => exact failWaiting_onDesks ..
  next => exact .refl s

end Sys2Proof.Machine
end

section
namespace Sys2Proof.Machine

/-! #### What giving up a drive's handles and its image leaves alone (R120, R144) -/

/-- From s to t only pages and page waiters, handles, desks, lines and the image of `d` change, and the UNMOUNTs that wait go on
waiting. With `Q` the handles and the notice queues stand too. -/
structure Beside (d : DriveNo) (Q : Prop) (s t : State) : Prop where
  frame : t = { s with pool := { t.pool with sysWaiters := s.pool.sysWaiters }, handles := t.handles, desks := t.desks,
                       lines := t.lines, images := t.images }
  images : ∀ e : DriveNo, e ≠ d → t.images[e] = s.images[e]
  unmounts : ∀ (e : Desk) (x : DriveNo), t.desks[e].inProgress = some (.unmount x) ↔ s.desks[e].inProgress = some (.unmount x)
  quiet : Q → t.handles = s.handles ∧ ∀ e : Desk, t.desks[e].notices = s.desks[e].notices

section Beside
variable {d : DriveNo} {Q : Prop} {s₀ s t : State}

theorem Beside.refl (d : DriveNo) (Q : Prop) (s : State) : Beside d Q s s :=
  ⟨rfl, fun _ _ => rfl, fun _ _ => Iff.rfl, fun _ => ⟨rfl, fun _ => rfl⟩⟩

theorem Beside.trans (h : Beside d Q s₀ s) (k : Beside d Q s t) : Beside d Q s₀ t where
  frame := by rw [k.frame, h.frame]
  images e hne := (k.images e hne).trans (h.images e hne)
  unmounts e x := (k.unmounts e x).trans (h.unmounts e x)
  quiet q :=
    have ⟨hhandles, hnotices⟩ := h.quiet q
    have ⟨khandles, knotices⟩ := k.quiet q
    ⟨khandles.trans hhandles, fun e => (knotices e).trans (hnotices e)⟩

theorem Beside.scheds (h : Beside d Q s t) : t.scheds = s.scheds := by rw [h.frame]
theorem Beside.sysWaiters (h : Beside d Q s t) : t.pool.sysWaiters = s.pool.sysWaiters := by rw [h.frame]

theorem Beside.handle (h : Beside d True s t) (e : Desk) (n : HandleNo) : t.handle e n = s.handle e n := by
  unfold State.handle
  rw [(h.quiet trivial).1]

theorem Beside.notices (h : Beside d True s t) (e : Desk) : t.desks[e].notices = s.desks[e].notices := (h.quiet trivial).2 e

theorem Beside.loud (h : Beside d True s t) : Beside d False s t := ⟨h.frame, h.images, h.unmounts, nofun⟩

theorem beside_foldl {α : Type} {f : State → α → State} (hf : ∀ s a, Beside d Q s₀ s → Beside d Q s₀ (f s a)) (l : List α)
    (h : Beside d Q s₀ s) : Beside d Q s₀ (l.foldl f s) := by
  induction l generalizing s with
  | nil => exact h
  | cons a l ih => exact ih (hf s a h)

theorem beside_freePage (h : Beside d Q s₀ s) (p : PageNo) : Beside d Q s₀ (s.freePage p) :=
  h.trans ⟨rfl, fun _ _ => rfl, fun _ _ => Iff.rfl, fun _ => ⟨rfl, fun _ => rfl⟩⟩

theorem beside_setHandle (h : Beside d False s₀ s) (desk : Desk) (n : HandleNo) (x : Handle) :
    Beside d False s₀ (s.setHandle desk n x) := h.trans ⟨rfl, fun _ _ => rfl, fun _ _ => Iff.rfl, nofun⟩

theorem beside_setImage (h : Beside d Q s₀ s) (x : Option Image) : Beside d Q s₀ (s.setImage d x) :=
  h.trans ⟨rfl, fun _ hne => setImage_images_of_ne s x hne, fun _ _ => Iff.rfl, fun _ => ⟨rfl, fun _ => rfl⟩⟩

theorem beside_setDesk (h : Beside d Q s₀ s) (desk : Desk) {x : DeskContext} (hprogress : x.inProgress = s.desks[desk].inProgress)
    (hnotices : Q → x.notices = s.desks[desk].notices) : Beside d Q s₀ (s.setDesk desk x) := by
  refine h.trans ⟨rfl, fun _ _ => rfl, fun e y => ?_, fun q => ⟨rfl, fun e => ?_⟩⟩
  · by_cases hde : desk = e
    · subst hde
      rw [setDesk_desks_self, hprogress]
    · rw [setDesk_desks_of_ne s x hde]
  · by_cases hde : desk = e
    · subst hde
      rw [setDesk_desks_self, hnotices q]
    · rw [setDesk_desks_of_ne s x hde]

/-- Any request but an UNMOUNT may be answered. -/
theorem beside_failWaiting (h : Beside d Q s₀ s) {desk : Desk} {w : Waiting} (hw : s.desks[desk].inProgress = some w)
    (hnot : ∀ y, w ≠ .unmount y) (r : Reason) (fields : List Byte) : Beside d Q s₀ (s.failWaiting desk w r fields) := by
  refine h.trans ⟨rfl, fun _ _ => rfl, fun e y => ?_, fun _ => ⟨rfl, fun e => ?_⟩⟩
  · by_cases hde : desk = e
    · subst hde
      rw [failWaiting_desks_self, hw]
      simp [hnot y]
    · rw [failWaiting_desks_of_ne s w r fields hde]
  · by_cases hde : desk = e
    · subst hde
      rw [failWaiting_desks_self]
    · rw [failWaiting_desks_of_ne s w r fields hde]

/-! #### One lost handle (R144) -/

theorem beside_post (h : Beside d False s₀ s) (desk : Desk) (n : Notice) : Beside d False s₀ (s.post desk n) :=
  beside_setDesk h desk rfl nofun

theorem beside_postLost (h : Beside d False s₀ s) (desk : Desk) (n : HandleNo) (cause : Reason) (orphan : Bool) :
    Beside d False s₀ (s.postLost desk n cause orphan) := by
  unfold State.postLost
  split
  · exact h
  · exact beside_post h ..

/-- A request that waits on a handle is no UNMOUNT. -/
theorem beside_failOnHandle (h : Beside d Q s₀ s) (desk : Desk) (n : HandleNo) (placed : Bool) (r : Reason) :
    Beside d Q s₀ (s.failOnHandle desk n placed r) := by
  unfold State.failOnHandle
  split
  next => exact h
  next w hw =>
    split
    next hon =>
      refine beside_failWaiting h hw ?_ r []
      rintro y rfl
      exact Bool.false_ne_true hon
    next => exact h

theorem beside_markLost (h : Beside d False s₀ s) (desk : Desk) (n : HandleNo) (l : LostHandle) (placed orphan : Bool) :
    Beside d False s₀ (s.markLost desk n l placed orphan) := by
  unfold State.markLost
  split
  · exact beside_setHandle h ..
  · exact beside_failOnHandle (beside_setHandle h ..) ..

/-- The drive has no work and nothing in hand. -/
def State.cleared (s : State) (d : DriveNo) : Prop := s.scheds[d].workList = [] ∧ s.scheds[d].inHand = none

theorem Beside.cleared (h : Beside d Q s t) (hc : s.cleared d) : t.cleared d := by
  unfold State.cleared
  rw [h.scheds]
  exact hc

/-- On a drive without work a withdrawal is only the freeing of the page. -/
theorem withdraw_of_cleared (hc : s.cleared d) (p : PageNo) : s.withdraw d p = s.freePage p := by
  obtain ⟨hwork, hhand⟩ := hc
  have hsched : s.setSched d { s.scheds[d] with workList := s.scheds[d].workList.filter (fun x => x.page != p) } = s := by
    have hself : ({ s.scheds[d] with workList := s.scheds[d].workList.filter (fun x => x.page != p) } : Scheduler) = s.scheds[d] := by
      rw [hwork, List.filter_nil, ← hwork]
    rw [hself, setSched_self]
  rw [withdraw_of_not_in_hand (by rw [hhand]; exact nofun), hsched]

theorem beside_giveUpRead (h : Beside d Q s₀ s) (hc : s₀.cleared d) (e : ReadEntry) : Beside d Q s₀ (s.giveUpRead d e) := by
  cases e with
  | absent => exact h
  | reading p =>
    have hw : s.giveUpRead d (.reading p) = s.freePage p := withdraw_of_cleared (h.cleared hc) p
    exact hw ▸ beside_freePage h p
  | present p => exact beside_freePage h p

theorem beside_giveUpWrite (h : Beside d Q s₀ s) (hc : s₀.cleared d) (e : WriteEntry) : Beside d Q s₀ (s.giveUpWrite d e) := by
  cases e with
  | unstarted | written => exact h
  | filling p => exact beside_freePage h p
  | writing p =>
    have hw : s.giveUpWrite d (.writing p) = s.freePage p := withdraw_of_cleared (h.cleared hc) p
    exact hw ▸ beside_freePage h p

theorem beside_giveUpReads (hc : s.cleared d) (table : List ReadEntry) : Beside d True s (s.giveUpReads d table) :=
  beside_foldl (fun _ e h => beside_giveUpRead h hc e) table (.refl d True s)

theorem beside_giveUpWrites (hc : s.cleared d) (table : List WriteEntry) : Beside d True s (s.giveUpWrites d table) :=
  beside_foldl (fun _ e h => beside_giveUpWrite h hc e) table (.refl d True s)

end Beside

end Sys2Proof.Machine
end

section
namespace Sys2Proof.Machine

/-! #### What a lost handle becomes and tells (R144, R145) -/

/-- What a handle becomes when its drive is torn down: LOST, or FREE when its desk has been reset since it was opened. -/
def Handle.lostOn (d : DriveNo) : Handle → Handle
  | .reading r =>
    if r.drive = d then
      .lost { drive := r.drive, slot := r.slot, slug := r.slug, cls := r.cls, length := r.length, cause := .driveLost }
    else .reading r
  | .writing w =>
    if w.drive = d then
      if w.orphan then .free
      else .lost { drive := w.drive, slot := w.slot, slug := w.slug, cls := w.cls, length := w.length, cause := .driveLost }
    else .writing w
  | h => h

/-- The notice queue of its desk after it. -/
def Handle.tells (d : DriveNo) (desk : Desk) (n : HandleNo) (queue : List Notice) : Handle → List Notice
  | .reading r => if r.drive = d then appendNotice queue (.handleLost desk n .driveLost) else queue
  | .writing w => if w.drive = d ∧ w.orphan = false then appendNotice queue (.handleLost desk n .driveLost) else queue
  | _ => queue

theorem lostOn_not_openOn (d : DriveNo) (h : Handle) : (h.lostOn d).openOn d = false := by
  cases h with
  | free | lost l => rfl
  | reading r => by_cases hd : r.drive = d <;> simp [Handle.lostOn, Handle.openOn, hd]
  | writing w =>
    by_cases hd : w.drive = d
    · cases ho : w.orphan <;> simp [Handle.lostOn, Handle.openOn, hd, ho]
    · simp [Handle.lostOn, Handle.openOn, hd]

theorem lostOn_of_not_openOn {d : DriveNo} {h : Handle} (ho : h.openOn d = false) : h.lostOn d = h := by
  cases h with
  | free | lost l => rfl
  | reading r => exact if_neg (beq_eq_false_iff_ne.1 ho)
  | writing w => exact if_neg (beq_eq_false_iff_ne.1 ho)

theorem tells_of_not_openOn {d : DriveNo} {h : Handle} (ho : h.openOn d = false) (desk : Desk) (n : HandleNo) (queue : List Notice) :
    h.tells d desk n queue = queue := by
  cases h with
  | free | lost l => rfl
  | reading r => exact if_neg (beq_eq_false_iff_ne.1 ho)
  | writing w => exact if_neg fun hw => beq_eq_false_iff_ne.1 ho hw.1

section Marking
variable (s : State) (desk : Desk) (n : HandleNo)

theorem postLost_handle (cause : Reason) (orphan : Bool) : (s.postLost desk n cause orphan).handle = s.handle := by
  cases orphan <;> rfl

theorem postLost_notices_self (cause : Reason) (orphan : Bool) :
    (s.postLost desk n cause orphan).desks[desk].notices =
      if orphan then s.desks[desk].notices else appendNotice s.desks[desk].notices (.handleLost desk n cause) := by
  cases orphan with
  | true => rfl
  | false => exact congrArg DeskContext.notices (setDesk_desks_self s desk _)

theorem postLost_desks_of_ne (cause : Reason) (orphan : Bool) {e : Desk} (hne : desk ≠ e) :
    (s.postLost desk n cause orphan).desks[e] = s.desks[e] := by
  cases orphan with
  | true => rfl
  | false => exact setDesk_desks_of_ne s _ hne

variable (l : LostHandle) (placed orphan : Bool)

theorem markLost_handle_self : (s.markLost desk n l placed orphan).handle desk n = if orphan then .free else .lost l := by
  cases orphan with
  | true => exact State.setHandle_handle_self ..
  | false =>
    exact ((beside_failOnHandle (d := 0) (.refl 0 True _) desk n placed l.cause).handle desk n).trans (State.setHandle_handle_self ..)

theorem markLost_handle_of_ne {e : Desk} {g : HandleNo} (hne : ¬(desk = e ∧ n = g)) :
    (s.markLost desk n l placed orphan).handle e g = s.handle e g := by
  cases orphan with
  | true => exact State.setHandle_handle_of_ne s desk e n g _ hne
  | false =>
    exact ((beside_failOnHandle (d := 0) (.refl 0 True _) desk n placed l.cause).handle e g).trans
      (State.setHandle_handle_of_ne s desk e n g _ hne)

theorem markLost_notices (e : Desk) : (s.markLost desk n l placed orphan).desks[e].notices = s.desks[e].notices := by
  cases orphan with
  | true => rfl
  | false => exact (beside_failOnHandle (d := 0) (.refl 0 True (s.setHandle desk n (.lost l))) desk n placed l.cause).notices e

end Marking

/-- What the loss of one handle of a desk does: to the handle, to the queue of its desk, and to nothing else of handles and queues. -/
structure LosesHandle (d : DriveNo) (desk : Desk) (n : HandleNo) (s t : State) : Prop where
  beside : Beside d False s t
  handle : t.handle desk n = (s.handle desk n).lostOn d
  others : ∀ (e : Desk) (g : HandleNo), ¬(desk = e ∧ n = g) → t.handle e g = s.handle e g
  told : t.desks[desk].notices = (s.handle desk n).tells d desk n s.desks[desk].notices
  untold : ∀ e : Desk, desk ≠ e → t.desks[e].notices = s.desks[e].notices

section Losing
variable {d : DriveNo} {s t : State} {desk : Desk} {n : HandleNo}

/-- The notice first, then the pages, then the mark: so a handle is lost. -/
theorem losesHandle_of_steps {l : LostHandle} {placed orphan : Bool} (hgive : Beside d True (s.postLost desk n .driveLost orphan) t)
    (hlost : (if orphan then .free else .lost l) = (s.handle desk n).lostOn d)
    (htold : (if orphan then s.desks[desk].notices else appendNotice s.desks[desk].notices (.handleLost desk n .driveLost)) =
      (s.handle desk n).tells d desk n s.desks[desk].notices) :
    LosesHandle d desk n s (t.markLost desk n l placed orphan) where
  beside := beside_markLost ((beside_postLost (.refl d False s) desk n .driveLost orphan).trans hgive.loud) ..
  handle := (markLost_handle_self t desk n l placed orphan).trans hlost
  others e g hne := by rw [markLost_handle_of_ne t desk n l placed orphan hne, hgive.handle, postLost_handle]
  told := by rw [markLost_notices, hgive.notices, postLost_notices_self, htold]
  untold e hne := by rw [markLost_notices, hgive.notices, postLost_desks_of_ne s desk n _ _ hne]

/-- A handle met by a teardown: lost when it is open on the drive. -/
def State.loseIfOpen (s : State) (d : DriveNo) (desk : Desk) (n : HandleNo) : State :=
  if (s.handle desk n).openOn d then s.loseHandle desk n .driveLost .withImage else s

theorem losesHandle_of_not_open (ho : (s.handle desk n).openOn d = false) : LosesHandle d desk n s s where
  beside := .refl d False s
  handle := (lostOn_of_not_openOn ho).symm
  others _ _ _ := rfl
  told := (tells_of_not_openOn ho desk n _).symm
  untold _ _ := rfl

theorem loseIfOpen_losesHandle (hc : s.cleared d) (desk : Desk) (n : HandleNo) : LosesHandle d desk n s (s.loseIfOpen d desk n) := by
  have hposted (orphan : Bool) : (s.postLost desk n .driveLost orphan).cleared d :=
    (beside_postLost (.refl d False s) desk n .driveLost orphan).cleared hc
  unfold State.loseIfOpen
  split
  next ho =>
    unfold State.loseHandle
    cases hh : s.handle desk n with
    | free | lost l => rw [hh] at ho; exact absurd ho Bool.false_ne_true
    | reading r =>
      rw [hh] at ho
      have hd : r.drive = d := eq_of_beq ho
      refine losesHandle_of_steps (hd ▸ beside_giveUpReads (hd ▸ hposted false) r.table) ?_ ?_
      · rw [hh]; exact (if_pos hd).symm
      · rw [hh]; exact (if_pos hd).symm
    | writing w =>
      rw [hh] at ho
      have hd : w.drive = d := eq_of_beq ho
      refine losesHandle_of_steps (hd ▸ beside_giveUpWrites (hd ▸ hposted w.orphan) w.table) ?_ ?_
      · rw [hh]; exact (if_pos hd).symm
      · rw [hh]
        simp only [Handle.tells, hd, true_and]
        cases w.orphan <;> rfl
  next ho => exact losesHandle_of_not_open (Bool.eq_false_iff.2 ho)

end Losing

/-! #### All handles of a desk, and of all desks (R144, R148) -/

/-- Both handles of a desk are met. -/
def State.loseOfDesk (s : State) (d : DriveNo) (desk : Desk) : State := (s.loseIfOpen d desk 0).loseIfOpen d desk 1

theorem loseHandlesOn_eq (s : State) (d : DriveNo) : s.loseHandlesOn d = allDesks.foldl (fun s desk => s.loseOfDesk d desk) s := by
  unfold State.loseHandlesOn allHandles
  rw [List.foldl_flatMap]
  rfl

/-- The handles of a desk and its notice queue. -/
def State.handlesAndNotices (s : State) (e : Desk) : (Handle × Handle) × List Notice :=
  ((s.handle e 0, s.handle e 1), s.desks[e].notices)

/-- What the teardown of a drive makes of them: handle 0 first. -/
def lostOfDesk (d : DriveNo) (e : Desk) (x : (Handle × Handle) × List Notice) : (Handle × Handle) × List Notice :=
  ((x.1.1.lostOn d, x.1.2.lostOn d), x.1.2.tells d e 1 (x.1.1.tells d e 0 x.2))

section All
variable {d : DriveNo} {s : State} (hc : s.cleared d)
include hc

theorem beside_loseOfDesk (desk : Desk) : Beside d False s (s.loseOfDesk d desk) := by
  have h0 := (loseIfOpen_losesHandle hc desk 0).beside
  exact h0.trans (loseIfOpen_losesHandle (h0.cleared hc) desk 1).beside

theorem loseOfDesk_self (desk : Desk) : (s.loseOfDesk d desk).handlesAndNotices desk = lostOfDesk d desk (s.handlesAndNotices desk) := by
  have h0 := loseIfOpen_losesHandle hc desk 0
  have h1 := loseIfOpen_losesHandle (h0.beside.cleared hc) desk 1
  have hother : (s.loseIfOpen d desk 0).handle desk 1 = s.handle desk 1 := h0.others desk 1 fun h => absurd h.2 (by decide)
  refine Prod.ext (Prod.ext ?_ ?_) ?_
  · exact (h1.others desk 0 fun h => absurd h.2 (by decide)).trans h0.handle
  · exact h1.handle.trans (congrArg (Handle.lostOn d) hother)
  · refine h1.told.trans ?_
    rw [hother, h0.told]
    rfl

theorem loseOfDesk_other {desk e : Desk} (hne : desk ≠ e) : (s.loseOfDesk d desk).handlesAndNotices e = s.handlesAndNotices e := by
  have h0 := loseIfOpen_losesHandle hc desk 0
  have h1 := loseIfOpen_losesHandle (h0.beside.cleared hc) desk 1
  have hhandle (g : HandleNo) : (s.loseOfDesk d desk).handle e g = s.handle e g :=
    (h1.others e g fun h => hne h.1).trans (h0.others e g fun h => hne h.1)
  exact Prod.ext (Prod.ext (hhandle 0) (hhandle 1)) ((h1.untold e hne).trans (h0.untold e hne))

theorem beside_loseHandlesOn : Beside d False s (s.loseHandlesOn d) := by
  rw [loseHandlesOn_eq]
  exact beside_foldl (fun u desk h => h.trans (beside_loseOfDesk (h.cleared hc) desk)) allDesks (.refl d False s)

theorem loseHandlesOn_desk (e : Desk) : (s.loseHandlesOn d).handlesAndNotices e = lostOfDesk d e (s.handlesAndNotices e) := by
  rw [loseHandlesOn_eq]
  exact foldl_allDesks_view (view := State.handlesAndNotices) (I := fun u => u.cleared d)
    (fun _ desk hu => (beside_loseOfDesk hu desk).cleared hu)
    (fun _ desk hu => loseOfDesk_self hu desk) (fun _ _ _ hu hne => loseOfDesk_other hu hne) hc e

theorem loseHandlesOn_handle (e : Desk) (g : HandleNo) : (s.loseHandlesOn d).handle e g = (s.handle e g).lostOn d := by
  have hdesk := loseHandlesOn_desk hc e
  simp only [State.handlesAndNotices, lostOfDesk, Prod.mk.injEq] at hdesk
  obtain ⟨⟨h0, h1⟩, _⟩ := hdesk
  obtain rfl | rfl : g = 0 ∨ g = 1 := by decide +revert
  · exact h0
  · exact h1

theorem loseHandlesOn_notices (e : Desk) :
    (s.loseHandlesOn d).desks[e].notices = (s.handle e 1).tells d e 1 ((s.handle e 0).tells d e 0 s.desks[e].notices) := by
  have hdesk := loseHandlesOn_desk hc e
  simp only [State.handlesAndNotices, lostOfDesk, Prod.mk.injEq] at hdesk
  obtain ⟨_, hnotices⟩ := hdesk
  exact hnotices

end All

end Sys2Proof.Machine
end

section
namespace Sys2Proof.Machine

/-! #### The image discarded (R120, R153) -/

section Discarding
variable {d : DriveNo} {Q : Prop} {s₀ s : State}

theorem beside_answerLost (h : Beside d Q s₀ s) (n : SlotNo) (c : Change) : Beside d Q s₀ (s.answerLost d n c) := by
  cases c with
  | newVersion v =>
    unfold State.answerLost
    dsimp only
    split
    next w hw =>
      split
      next hfile => exact beside_failWaiting h hw (by rintro y rfl; cases hfile) ..
      next => exact h
    next => exact h
  | removal desk =>
    unfold State.answerLost
    dsimp only
    split
    next hw =>
      split
      next => exact beside_failWaiting h hw nofun ..
      next => exact h
    next => exact h

theorem beside_setSlot (h : Beside d Q s₀ s) (n : SlotNo) (x : Slot) : Beside d Q s₀ (s.setSlot d n x) := beside_setImage h _

theorem beside_dropHold (h : Beside d Q s₀ s) (n : SlotNo) : Beside d Q s₀ (s.dropHold d n) := by
  unfold State.dropHold
  split
  next => exact h
  next => exact beside_setDesk (beside_setSlot h n _) _ rfl fun _ => rfl

theorem beside_discardSlot (h : Beside d Q s₀ s) (n : SlotNo) : Beside d Q s₀ (s.discardSlot d n) := by
  unfold State.discardSlot
  dsimp only
  split
  next => exact beside_dropHold (beside_answerLost h n _) n
  next => exact beside_dropHold h n

theorem beside_returnWatches (h : Beside d Q s₀ s) : Beside d Q s₀ (s.returnWatches d) :=
  beside_foldl (fun s desk h => beside_setDesk h desk (x := s.desks[desk].watchesReturned d) rfl fun _ => rfl) allDesks h

theorem beside_discardImage (h : Beside d Q s₀ s) : Beside d Q s₀ (s.discardImage d) := by
  unfold State.discardImage
  split
  next => exact h
  next => exact beside_setImage (beside_returnWatches (beside_foldl (fun _ n h => beside_discardSlot h n) _ h)) none

theorem discardImage_images_self (s : State) (d : DriveNo) : (s.discardImage d).images[d] = none := by
  unfold State.discardImage
  split
  next hnone => exact hnone
  next => exact images_setImage ..

end Discarding

/-! #### The format abandoned (R191) -/

section Format
variable (s : State) (d : DriveNo)

theorem abandonFormat_frame :
    s.abandonFormat d = { s with pool := { s.pool with sysWaiters := (s.abandonFormat d).pool.sysWaiters }
                                 sequencer := (s.abandonFormat d).sequencer } := by
  unfold State.abandonFormat
  split
  next => split <;> rfl
  next => rfl

theorem mem_sysWaiters_of_abandonFormat {w : SystemWaiter} (hw : w ∈ (s.abandonFormat d).pool.sysWaiters) :
    w ∈ s.pool.sysWaiters := by
  unfold State.abandonFormat at hw
  split at hw
  next =>
    split at hw
    next => exact (List.mem_filter.1 hw).1
    next => exact hw
  next => exact hw

theorem mem_sysWaiters_abandonFormat {w : SystemWaiter} (hw : w ∈ s.pool.sysWaiters) (hne : w ≠ .format) :
    w ∈ (s.abandonFormat d).pool.sysWaiters := by
  unfold State.abandonFormat
  split
  next =>
    split
    next => exact List.mem_filter.2 ⟨hw, by simp [hne]⟩
    next => exact hw
  next => exact hw

theorem abandonFormat_sequencer {j : FormatJob} (hj : (s.abandonFormat d).sequencer = some j) : j.drive ≠ d := by
  unfold State.abandonFormat at hj
  split at hj
  next k hk =>
    split at hj
    next => cases hj
    next hne =>
      obtain rfl : k = j := Option.some.inj (hk.symm.trans hj)
      exact hne
  next hnone => rw [hnone] at hj; cases hj

end Format

/-! #### The channel and the work of the drive (R43, R64, R74) -/

/-- The channel without a drive: not granted to it, no place in the wait list, no pass on it. -/
def Channel.without (c : Channel) (d : DriveNo) : Channel :=
  let passing := c.pass.any (fun p => p.drive == d)
  { c with grant := if c.grant = some d then none else c.grant, waitList := c.waitList.filter (fun x => x.1 != d)
           pass := if passing then none else c.pass, writeGate := if passing then false else c.writeGate
           writeData := if passing then .none else c.writeData }

theorem abortPass_eq (s : State) (d : DriveNo) : s.abortPass d = s.setChannel (s.channel.without d) := by
  have hset (x y : Channel) : (s.setChannel x).setChannel y = s.setChannel y := rfl
  unfold State.abortPass State.leaveWaitList Channel.without
  cases hp : s.channel.pass with
  | none => by_cases hg : s.channel.grant = some d <;> simp [hp, hg, hset]
  | some p => by_cases hd : p.drive = d <;> by_cases hg : s.channel.grant = some d <;> simp [hp, hd, hg, hset]

section Channel
variable (c : Channel) (d : DriveNo)

theorem without_waitList : (c.without d).waitList = c.waitList.filter (fun x => x.1 ≠ d) := (filter_ne_eq_filter_bne ..).symm

theorem without_grant_ne : (c.without d).grant ≠ some d := by
  unfold Channel.without
  dsimp only
  split
  next => exact nofun
  next hne => exact hne

theorem without_grant_of_ne {e : DriveNo} (hne : e ≠ d) (hg : c.grant = some e) : (c.without d).grant = some e := by
  unfold Channel.without
  dsimp only
  rw [hg, if_neg (by simpa using hne)]

theorem without_pass_ne {p : Pass} (hp : (c.without d).pass = some p) : p.drive ≠ d := by
  unfold Channel.without at hp
  dsimp only at hp
  split at hp
  next => cases hp
  next hnot =>
    rintro rfl
    exact hnot (by rw [hp, Option.any_some, beq_self_eq_true])

theorem without_pass_of_ne {p : Pass} (hp : c.pass = some p) (hne : p.drive ≠ d) : (c.without d).pass = some p := by
  unfold Channel.without
  dsimp only
  rw [hp, Option.any_some, beq_eq_false_iff_ne.2 hne]
  rfl

end Channel

end Sys2Proof.Machine
end

section
namespace Sys2Proof.Machine

/-! #### The teardown up to its losses (R43, R64, R74) -/

theorem foldl_freePage_eq_setPool (ps : List PageNo) (s : State) :
    ∃ pages, ps.foldl (fun s p => State.freePage s p) s = s.setPool { s.pool with pages := pages } := by
  induction ps generalizing s with
  | nil => exact ⟨s.pool.pages, rfl⟩
  | cons p ps ih =>
    obtain ⟨pages, hpages⟩ := ih (s.freePage p)
    exact ⟨pages, hpages⟩

theorem clearWorkList_eq (s : State) (d : DriveNo) :
    ∃ pages, s.clearWorkList d = (s.setSched d { s.scheds[d] with workList := [] }).setPool { s.pool with pages := pages } :=
  foldl_freePage_eq_setPool _ _

theorem clearHand_eq (s : State) (d : DriveNo) :
    ∃ pages, s.clearHand d =
      (s.setSched d { s.scheds[d] with inHand := none, runLength := 0 }).setPool { s.pool with pages := pages } := by
  cases hh : s.scheds[d].inHand with
  | none =>
    refine ⟨s.pool.pages, ?_⟩
    simp only [State.clearHand, hh]
    rw [← hh]
    rfl
  | some h =>
    refine ⟨s.pool.pages.set h.request.page none, ?_⟩
    simp only [State.clearHand, hh]
    rfl

theorem setSched_setSched (s : State) (d : DriveNo) (x y : Scheduler) : (s.setSched d x).setSched d y = s.setSched d y := by
  simp only [State.setSched, Vector.set_set]

/-- The pass, the work and the request in hand gone, the mechanism stopped, the waits for system pages withdrawn (R43, R64). -/
def State.stoppedOn (s : State) (d : DriveNo) : State :=
  let s := ((s.abortPass d).clearWorkList d).clearHand d
  (s.setDrive d s.drives[d].stopped).leaveSystem (SystemWaiter.ofDrive d)

theorem stoppedOn_eq (s : State) (d : DriveNo) :
    ∃ pages, s.stoppedOn d =
      (((s.setChannel (s.channel.without d)).setSched d .idle).setDrive d s.drives[d].stopped).setPool
        { s.pool with pages := pages, sysWaiters := s.pool.sysWaiters.filter (fun w => !SystemWaiter.ofDrive d w) } := by
  obtain ⟨p, hp⟩ := clearWorkList_eq (s.setChannel (s.channel.without d)) d
  obtain ⟨pages, hpages⟩ := clearHand_eq ((s.setChannel (s.channel.without d)).clearWorkList d) d
  have hwork : ((s.setChannel (s.channel.without d)).clearWorkList d).clearHand d =
      ((s.setChannel (s.channel.without d)).setSched d .idle).setPool { s.pool with pages := pages } := by
    have hcomm (t : State) (x : Pool) (q : Scheduler) : (t.setPool x).setSched d q = (t.setSched d q).setPool x := rfl
    rw [hpages, hp, State.setPool_scheds, setSched_scheds_self, hcomm, setSched_setSched]
    rfl
  refine ⟨pages, ?_⟩
  unfold State.stoppedOn
  rw [abortPass_eq, hwork]
  rfl

section TornDown
variable (s : State) (d : DriveNo)

theorem stoppedOn_cleared : (s.stoppedOn d).cleared d := by
  obtain ⟨pages, h⟩ := stoppedOn_eq s d
  have hsched : (s.stoppedOn d).scheds[d] = .idle := by
    rw [h]
    exact setSched_scheds_self ..
  unfold State.cleared
  rw [hsched]
  exact ⟨rfl, rfl⟩

/-- The handles lost and the image discarded too (R120, R144). -/
def State.lostAndDiscarded (s : State) (d : DriveNo) : State := ((s.stoppedOn d).loseHandlesOn d).discardImage d

theorem tearDown_eq (st : DriveState) (cause : Option FaultCause) :
    s.tearDown d st cause =
      ((s.lostAndDiscarded d).abandonFormat d).setDrive d
        (((s.lostAndDiscarded d).abandonFormat d).drives[d].enters st cause) := rfl

theorem beside_lostAndDiscarded : Beside d False (s.stoppedOn d) (s.lostAndDiscarded d) :=
  beside_discardImage (beside_loseHandlesOn (stoppedOn_cleared s d))

theorem beside_discarded : Beside d True ((s.stoppedOn d).loseHandlesOn d) (s.lostAndDiscarded d) :=
  beside_discardImage (.refl d True _)

/-- The drive record a teardown leaves. -/
def DriveUnit.tornDown (u : DriveUnit) (st : DriveState) (cause : Option FaultCause) : DriveUnit := u.stopped.enters st cause

variable (st : DriveState) (cause : Option FaultCause)

/-- What stands after a teardown, and the drive's own record, scheduler and place at the channel. -/
theorem tearDown_frame :
    let t := s.tearDown d st cause
    t = { s with drives := s.drives.set d (s.drives[d].tornDown st cause), scheds := s.scheds.set d .idle
                 channel := s.channel.without d, pool := t.pool, handles := t.handles, desks := t.desks, lines := t.lines
                 images := t.images, sequencer := t.sequencer } := by
  obtain ⟨pages, hstop⟩ := stoppedOn_eq s d
  have hbeside := (beside_lostAndDiscarded s d).frame
  have hformat := abandonFormat_frame (s.lostAndDiscarded d) d
  rw [tearDown_eq]
  generalize (s.lostAndDiscarded d).abandonFormat d = a at hformat ⊢
  generalize s.lostAndDiscarded d = x at hformat hbeside
  generalize s.stoppedOn d = u at hbeside hstop
  have hframe : a = { s with drives := s.drives.set d s.drives[d].stopped, scheds := s.scheds.set d .idle
                             channel := s.channel.without d, pool := a.pool, handles := a.handles, desks := a.desks, lines := a.lines
                             images := a.images, sequencer := a.sequencer } := by
    rw [hformat, hbeside, hstop]
    rfl
  have hdrive : a.drives[d] = s.drives[d].stopped := by
    rw [hframe]
    exact setDrive_drives_self s d _
  rw [hdrive, hframe]
  simp only [State.setDrive, Vector.set_set, DriveUnit.tornDown]

/-- The stopped mechanism and the ended work have told no desk, lost no handle and discarded no image. -/
theorem stoppedOn_rest :
    (s.stoppedOn d).handle = s.handle ∧ (s.stoppedOn d).desks = s.desks ∧ (s.stoppedOn d).images = s.images ∧
      (s.stoppedOn d).pool.sysWaiters = s.pool.sysWaiters.filter (fun w => !SystemWaiter.ofDrive d w) := by
  obtain ⟨pages, hstop⟩ := stoppedOn_eq s d
  rw [hstop]
  exact ⟨rfl, rfl, rfl, rfl⟩

/-- The end of the format and the drive's new state change no handle, no desk and no image. -/
theorem tearDown_rest :
    (s.tearDown d st cause).handle = (s.lostAndDiscarded d).handle ∧ (s.tearDown d st cause).desks = (s.lostAndDiscarded d).desks ∧
      (s.tearDown d st cause).images = (s.lostAndDiscarded d).images := by
  have hformat := abandonFormat_frame (s.lostAndDiscarded d) d
  rw [tearDown_eq]
  generalize (s.lostAndDiscarded d).abandonFormat d = a at hformat ⊢
  generalize s.lostAndDiscarded d = x at hformat ⊢
  rw [hformat]
  exact ⟨rfl, rfl, rfl⟩

theorem tearDown_pool : (s.tearDown d st cause).pool = ((s.lostAndDiscarded d).abandonFormat d).pool := by
  rw [tearDown_eq, State.setDrive_pool]

theorem tearDown_handle (e : Desk) (g : HandleNo) : (s.tearDown d st cause).handle e g = (s.handle e g).lostOn d := by
  obtain ⟨hhandle, _⟩ := tearDown_rest s d st cause
  obtain ⟨hstopped, _⟩ := stoppedOn_rest s d
  rw [hhandle, (beside_discarded s d).handle, loseHandlesOn_handle (stoppedOn_cleared s d), hstopped]

theorem tearDown_notices (e : Desk) :
    (s.tearDown d st cause).desks[e].notices = (s.handle e 1).tells d e 1 ((s.handle e 0).tells d e 0 s.desks[e].notices) := by
  obtain ⟨_, hdesks, _⟩ := tearDown_rest s d st cause
  obtain ⟨hhandle, hstopped, _⟩ := stoppedOn_rest s d
  rw [hdesks, (beside_discarded s d).notices, loseHandlesOn_notices (stoppedOn_cleared s d), hhandle, hstopped]

theorem tearDown_unmounts (e : Desk) (x : DriveNo) :
    (s.tearDown d st cause).desks[e].inProgress = some (.unmount x) ↔ s.desks[e].inProgress = some (.unmount x) := by
  obtain ⟨_, hdesks, _⟩ := tearDown_rest s d st cause
  obtain ⟨_, hstopped, _⟩ := stoppedOn_rest s d
  rw [hdesks, (beside_lostAndDiscarded s d).unmounts, hstopped]

theorem tearDown_images_self : (s.tearDown d st cause).images[d] = none := by
  obtain ⟨_, _, himages⟩ := tearDown_rest s d st cause
  rw [himages]
  exact discardImage_images_self ..

theorem tearDown_images_of_ne {e : DriveNo} (hne : e ≠ d) : (s.tearDown d st cause).images[e] = s.images[e] := by
  obtain ⟨_, _, himages⟩ := tearDown_rest s d st cause
  obtain ⟨_, _, hstopped, _⟩ := stoppedOn_rest s d
  rw [himages, (beside_lostAndDiscarded s d).images e hne, hstopped]

theorem tearDown_sequencer {j : FormatJob} (hj : (s.tearDown d st cause).sequencer = some j) : j.drive ≠ d := by
  rw [tearDown_eq, State.setDrive_sequencer] at hj
  exact abandonFormat_sequencer _ _ hj

theorem lostAndDiscarded_sysWaiters :
    (s.lostAndDiscarded d).pool.sysWaiters = s.pool.sysWaiters.filter (fun w => !SystemWaiter.ofDrive d w) := by
  obtain ⟨_, _, _, hsys⟩ := stoppedOn_rest s d
  rw [(beside_lostAndDiscarded s d).sysWaiters, hsys]

theorem not_ofDrive_of_tearDown {w : SystemWaiter} (hw : w ∈ (s.tearDown d st cause).pool.sysWaiters) :
    SystemWaiter.ofDrive d w = false := by
  rw [tearDown_pool] at hw
  have hmem := mem_sysWaiters_of_abandonFormat _ _ hw
  rw [lostAndDiscarded_sysWaiters, List.mem_filter, Bool.not_eq_true'] at hmem
  exact hmem.2

theorem mem_sysWaiters_tearDown {w : SystemWaiter} (hw : w ∈ s.pool.sysWaiters) (hd : SystemWaiter.ofDrive d w = false)
    (hne : w ≠ .format) : w ∈ (s.tearDown d st cause).pool.sysWaiters := by
  rw [tearDown_pool]
  refine mem_sysWaiters_abandonFormat _ _ ?_ hne
  rw [lostAndDiscarded_sysWaiters, List.mem_filter, hd]
  exact ⟨hw, rfl⟩

end TornDown

/-! #### The teardown with its event (R148, R187, R195) -/

section LeftUse
variable (s : State) (d : DriveNo) (st : DriveState) (cause : Option FaultCause) (ev : Event)

theorem leaveUse_onDesks : (s.tearDown d st cause).OnDesks (s.leaveUse d st cause ev) :=
  (raise_onDesks _ ev).trans (failUnmounts_onDesks _ d)

/-- After its event the drive is as its teardown has left it. -/
theorem leaveUse_frame :
    let t := s.leaveUse d st cause ev
    let torn := s.tearDown d st cause
    t = { s with drives := s.drives.set d (s.drives[d].tornDown st cause), scheds := s.scheds.set d .idle
                 channel := s.channel.without d, pool := { torn.pool with waiters := t.pool.waiters }, handles := torn.handles
                 desks := t.desks, lines := t.lines, images := torn.images, sequencer := torn.sequencer } := by
  have hdesks := leaveUse_onDesks s d st cause ev
  have htorn := tearDown_frame s d st cause
  dsimp only at htorn ⊢
  unfold State.OnDesks at hdesks
  generalize s.leaveUse d st cause ev = t at hdesks ⊢
  generalize s.tearDown d st cause = torn at hdesks htorn ⊢
  rw [hdesks, htorn]

/-- Whether an UNMOUNT waits is the same before the teardown and after its event. -/
theorem raised_unmounts (e : Desk) :
    ((s.tearDown d st cause).raise ev).desks[e].inProgress = some (.unmount d) ↔ s.desks[e].inProgress = some (.unmount d) := by
  obtain ⟨⟨hprogress, _⟩, _⟩ := meets_spec (s.tearDown d st cause).desks[e] ev
  rw [raise_desks, hprogress, tearDown_unmounts]

end LeftUse

/-- Settles O28: the state by the frame of the teardown, the handles and notices desk by desk, and the UNMOUNT that waits last. -/
theorem teardownTakesTheDriveOutOfUse : Obligations.TeardownTakesTheDriveOutOfUse := by
  intro s d st cause ev t
  have hframe : t = _ := leaveUse_frame s d st cause ev
  have hdrives : t.drives = s.drives.set d (s.drives[d].tornDown st cause) := by rw [hframe]
  have hscheds : t.scheds = s.scheds.set d .idle := by rw [hframe]
  have hchannel : t.channel = s.channel.without d := by rw [hframe]
  have himages : t.images = (s.tearDown d st cause).images := by rw [hframe]
  have hsys : t.pool.sysWaiters = (s.tearDown d st cause).pool.sysWaiters := by rw [hframe]
  have hsequencer : t.sequencer = (s.tearDown d st cause).sequencer := by rw [hframe]
  have hsched : t.scheds[d] = .idle := by rw [hscheds]; exact setSched_scheds_self s d _
  have hhandle (e : Desk) (g : HandleNo) : t.handle e g = (s.handle e g).lostOn d := by
    have hhandles : t.handles = (s.tearDown d st cause).handles := by rw [hframe]
    rw [← tearDown_handle s d st cause, State.handle, State.handle, hhandles]
  refine ⟨?_, by rw [hsched]; rfl, by rw [hsched]; rfl, ?_, ?_, fun c hc => ?_, fun p hp => ?_, fun w hw => ?_, fun j hj => ?_,
    fun e g => ?_, fun e hne => ⟨?_, ?_, ?_, fun hg => ?_, fun p hp he => ?_⟩, ?_, fun w hw hd hf => ?_, fun e g ho => ?_, ?_, ?_, ?_, ?_⟩
  · rw [hdrives]; exact setDrive_drives_self s d _
  · rw [himages]; exact tearDown_images_self s d st cause
  · rw [hchannel]; exact without_grant_ne _ d
  · rw [hchannel, without_waitList, List.mem_filter] at hc
    exact absurd rfl (of_decide_eq_true hc.2)
  · rw [hchannel] at hp; exact without_pass_ne _ d hp
  · rw [hsys] at hw; exact not_ofDrive_of_tearDown s d st cause hw
  · rw [hsequencer] at hj; exact tearDown_sequencer s d st cause hj
  · rw [hhandle]; exact lostOn_not_openOn d _
  · rw [hdrives]; exact setDrive_drives_of_ne s _ hne
  · rw [hscheds]; exact setSched_scheds_of_ne s _ hne
  · rw [himages]; exact tearDown_images_of_ne s d st cause hne
  · rw [hchannel]; exact without_grant_of_ne _ d hne hg
  · rw [hchannel]; exact without_pass_of_ne _ d hp (by rw [he]; exact hne)
  · rw [hchannel]; exact without_waitList _ d
  · rw [hsys]; exact mem_sysWaiters_tearDown s d st cause hw hd hf
  · rw [hhandle]; exact lostOn_of_not_openOn ho
  · rw [hframe]
  · rw [hframe]
  · rw [hframe]
  · intro torn raised
    refine ⟨rfl, fun e => ?_⟩
    intro told
    refine ⟨?_, fun hw => ?_, fun hw => ?_⟩
    · have htold (queue : List Notice) (n : HandleNo) : told queue n = (s.handle e n).tells d e n queue := by
        simp only [told]
        cases s.handle e n <;> rfl
      rw [htold, htold]
      exact tearDown_notices s d st cause e
    · have hdesk := failUnmounts_desk raised d e
      have hwaits := (raised_unmounts s d st cause ev e).2 hw
      rw [unmountFailed, if_pos hwaits] at hdesk
      exact Prod.mk.inj hdesk
    · have hdesk := failUnmounts_desk raised d e
      have hwaits := mt (raised_unmounts s d st cause ev e).1 hw
      rw [unmountFailed, if_neg hwaits] at hdesk
      exact Prod.mk.inj hdesk

end Sys2Proof.Machine
end

section
namespace Sys2Proof.Machine

/-! ### The channel (R57 to R63) -/

/-! #### The arbiter's choice (R59, R60) -/

theorem Class.ne_urgent_iff (c : Class) : c ≠ .urgent ↔ c = .routine := by
  cases c <;> decide

/-- Only an empty wait list leaves the arbiter nothing to grant (R60). -/
theorem next_eq_none_iff (c : Channel) : c.next = none ↔ c.waitList = [] := by
  unfold Channel.next
  split
  next x hx =>
    refine ⟨fun h => (nomatch h), fun hnil => ?_⟩
    rw [hnil] at hx
    cases hx
  next => rw [Option.map_eq_none_iff, List.head?_eq_none_iff]

/-- The arbiter grants the earliest-joined drive recorded URGENT, and with none recorded URGENT the earliest-joined (R60). -/
theorem next_eq_some {c : Channel} {d : DriveNo} (h : c.next = some d) :
    ∃ before cls after, c.waitList = before ++ (d, cls) :: after ∧
      ((cls = .urgent ∧ ∀ x ∈ before, x.2 = .routine) ∨
        (cls = .routine ∧ before = [] ∧ ∀ x ∈ c.waitList, x.2 = .routine)) := by
  unfold Channel.next at h
  split at h
  next x hx =>
    obtain ⟨hurgent, before, after, hlist, hbefore⟩ := List.find?_eq_some_iff_append.1 hx
    obtain rfl : x.1 = d := Option.some.inj h
    refine ⟨before, x.2, after, hlist, .inl ⟨beq_iff_eq.1 hurgent, fun y hy => (Class.ne_urgent_iff _).1 ?_⟩⟩
    simpa using hbefore y hy
  next hnone =>
    have hall (x : DriveNo × Class) (hx : x ∈ c.waitList) : x.2 = .routine :=
      (Class.ne_urgent_iff _).1 (by simpa using List.find?_eq_none.1 hnone x hx)
    obtain ⟨x, hhead, rfl⟩ := Option.map_eq_some_iff.1 h
    obtain ⟨after, hlist⟩ := List.head?_eq_some_iff.1 hhead
    exact ⟨[], x.2, after, hlist, .inr ⟨hall x (hlist ▸ List.mem_cons_self), rfl, hall⟩⟩

theorem counts_eq (s : State) (d : DriveNo) (r : SectorRequest) :
    s.counts d r = if r.cls = .urgent ∨ s.settings[d].aging ≤ (s.tick - r.entry).toNat then .urgent else .routine := by
  split
  next h => exact (counts_urgent_iff s d r).2 h
  next h => exact (Class.ne_urgent_iff _).1 (mt (counts_urgent_iff s d r).1 h)

/-! #### Grant and release (R58, R60) -/

/-- The state with the channel granted to a drive that waited for it: off the wait list, with a new run (R60, R62). -/
def State.granted (s : State) (d : DriveNo) : State :=
  (s.setChannel { s.channel with grant := some d, waitList := s.channel.waitList.filter (fun x => x.1 ≠ d) }).setSched d
    { s.scheds[d] with runLength := 1 }

theorem granted_eq (s : State) (d : DriveNo) :
    s.granted d = ((s.leaveWaitList d).setChannel { (s.leaveWaitList d).channel with grant := some d }).setSched d
      { s.scheds[d] with runLength := 1 } := by
  rw [State.granted, filter_ne_eq_filter_bne]
  rfl

theorem granted_inHand (s : State) (d : DriveNo) : (s.granted d).scheds[d].inHand = s.scheds[d].inHand := by
  rw [State.granted, setSched_scheds_self]

section Grant
variable {s : State} {d : DriveNo}

theorem grantChannel_of_nothing_due (h : s.channel.grant ≠ none ∨ s.channel.next = none) : s.grantChannel = s := by
  unfold State.grantChannel
  split
  next hg hn => exact absurd hn (by simp [h.resolve_left (not_not_intro hg)])
  next => rfl

section Due
variable (hg : s.channel.grant = none) (hn : s.channel.next = some d)
include hg hn

theorem grantChannel_of_in_hand {h : InHand} (hh : s.scheds[d].inHand = some h) :
    s.grantChannel = (s.granted d).startPass d h.request := by
  have hhand := (granted_inHand s d).trans hh
  rw [granted_eq] at hhand ⊢
  unfold State.grantChannel
  rw [hg, hn]
  dsimp only
  split
  next x hx => cases hhand.symm.trans hx; rfl
  next hx => cases hhand.symm.trans hx

theorem grantChannel_of_empty_hand (hh : s.scheds[d].inHand = none) : s.grantChannel = s.granted d := by
  have hhand := (granted_inHand s d).trans hh
  rw [granted_eq] at hhand ⊢
  unfold State.grantChannel
  rw [hg, hn]
  dsimp only
  split
  next x hx => cases hhand.symm.trans hx
  next => rfl

end Due

theorem releaseChannel_of_granted (hg : s.channel.grant = some d) :
    s.releaseChannel d =
      ((s.setChannel { s.channel with grant := none }).setSched d { s.scheds[d] with runLength := 0 }).grantChannel := if_pos hg

/-! #### The run (R61 to R63) -/

/-- At the end of its pass the drive makes a choice (R51, R62). -/
def State.choosesAtEnd (s : State) (d : DriveNo) : Prop :=
  (s.drives[d].state = .mounting ∨ s.drives[d].state = .mounted ∨ s.drives[d].state = .formatting) ∧ s.scheds[d].inHand = none ∧
    s.drives[d].motion = .still ∧ (∀ n, s.drives[d].head ≠ .loading n) ∧ s.scheds[d].workList ≠ [] ∧ s.drives[d].pendingRecal = false

theorem choosesAtEnd_iff : (s.mayAct d && !s.drives[d].pendingRecal) = true ↔ s.choosesAtEnd d := by
  simp only [Bool.and_eq_true, mayAct_iff, Bool.not_eq_true', State.choosesAtEnd, and_assoc]

/-- The choice passes in the same run (R62). -/
theorem runGoesOn_iff (s : State) (d : DriveNo) (r : SectorRequest) :
    s.runGoesOn d r = true ↔
      s.drives[d].position = some r.target.cylinder ∧
        (positioningCost s.settings[d] s.drives[d] r.target.cylinder (s.costSkew d) r.target).2 < s.drives[d].period / 15 ∧
          s.scheds[d].runLength < 15 ∧ ((∀ x ∈ s.channel.waitList, x.2 = .routine) ∨ s.isUrgent d r) := by
  unfold State.runGoesOn
  dsimp only
  split
  next hunknown => rw [hunknown]; simp
  next position hpos =>
    have hwaiting : s.channel.waitList.all (fun p => p.2 != .urgent) = true ↔ ∀ x ∈ s.channel.waitList, x.2 = .routine := by
      simp only [List.all_eq_true, bne_iff_ne, Class.ne_urgent_iff]
    have hmax : Config.maxRun = 15 := rfl
    rw [hpos]
    simp only [Bool.and_eq_true, Bool.or_eq_true, decide_eq_true_eq, beq_iff_eq, counts_urgent_iff, hwaiting, hmax, Option.some.injEq,
      and_assoc]
    constructor
    · rintro ⟨rfl, hrest⟩
      exact ⟨rfl, hrest⟩
    · rintro ⟨rfl, hrest⟩
      exact ⟨rfl, hrest⟩

theorem continueRun_of_not_granted (hg : s.channel.grant ≠ some d) : s.continueRun d = s := if_neg hg

section Held
variable (hg : s.channel.grant = some d)
include hg

theorem continueRun_of_not_choosing (hc : ¬s.choosesAtEnd d) : s.continueRun d = s.releaseChannel d :=
  (if_pos hg).trans (if_neg (mt choosesAtEnd_iff.1 hc))

variable (hc : s.choosesAtEnd d)
include hc

theorem continueRun_of_no_choice (hnone : s.chosen d = none) : s.continueRun d = s.releaseChannel d := by
  simp only [State.continueRun, if_pos hg, if_pos (choosesAtEnd_iff.2 hc), hnone]

/-- The choice passes at once, or the channel is released and the choice then goes into hand (R62, R63). -/
theorem continueRun_of_chosen {r : SectorRequest} (hr : s.chosen d = some r) :
    s.continueRun d =
      if s.runGoesOn d r then
        ((s.takeChosen d r).setSched d
          { (s.takeChosen d r).scheds[d] with runLength := (s.takeChosen d r).scheds[d].runLength + 1 }).startPass d r
      else ((s.takeChosen d r).releaseChannel d).putInHand d r := by
  simp only [State.continueRun, if_pos hg, if_pos (choosesAtEnd_iff.2 hc), hr]

end Held

end Grant

/-- Settles O45: the arbiter by the first URGENT waiter, the end of a pass by what the drive chooses. -/
theorem channelGoesToTheEarliestUrgentDrive : Obligations.ChannelGoesToTheEarliestUrgentDrive := by
  refine ⟨fun c => ⟨next_eq_none_iff c, fun d => next_eq_some⟩, fun s d r => ?_, fun s => ⟨grantChannel_of_nothing_due, ?_⟩,
    fun s d => ⟨fun hg => ⟨if_neg hg, continueRun_of_not_granted hg⟩, fun hg => ⟨releaseChannel_of_granted hg, ?_⟩⟩⟩
  · rw [State.enterWaiting, counts_eq]
  · intro d hg hn taken
    exact ⟨fun h => grantChannel_of_in_hand hg hn, grantChannel_of_empty_hand hg hn⟩
  · intro u chooses
    refine ⟨continueRun_of_not_choosing hg, continueRun_of_no_choice hg, fun r hc hr => ?_⟩
    intro goesOn taken
    have hgoes : s.runGoesOn d r = true ↔ goesOn := runGoesOn_iff s d r
    exact ⟨fun h => (continueRun_of_chosen hg hc hr).trans (if_pos (hgoes.2 h)),
      fun h => (continueRun_of_chosen hg hc hr).trans (if_neg (mt hgoes.1 h))⟩

end Sys2Proof.Machine
end

section
namespace Sys2Proof.Machine

/-! ### The read path (R45 to R48, R51, R91, R124 to R131) -/

/-! #### The seq counter stands while drives act (R46) -/

section Seq
variable (s : State) (d : DriveNo)

@[simp] theorem fillPage_seq (p : PageNo) (bytes : List Byte) : (s.fillPage p bytes).seq = s.seq := by
  obtain ⟨pages, hpages⟩ := fillPage_eq_setPool (s := s) (p := p) (bytes := bytes)
  rw [hpages]
  rfl

@[simp] theorem markCarried_seq (q : CatNo) : (s.markCarried d q).seq = s.seq := by
  unfold State.markCarried
  exact List.foldlRecOn (motive := fun t : State => t.seq = s.seq) _ _ rfl fun t ht n _ => ht

@[simp] theorem buildSector_seq (q : CatNo) (p : PageNo) : (s.buildSector d q p).seq = s.seq := by
  have hmarked : (if s.writeState d q = .dirty then (s.markCarried d q).setWriteState d q .writing else s).seq = s.seq := by
    split
    · exact markCarried_seq s d q
    · rfl
  unfold State.buildSector
  dsimp only
  split
  · exact hmarked
  · exact (fillPage_seq ..).trans hmarked

@[simp] theorem startPass_seq (r : SectorRequest) : (s.startPass d r).seq = s.seq := by
  by_cases ho : ∃ q, r.owner = .catalogue q
  · obtain ⟨q, ho⟩ := ho
    rw [startPass_of_catalogue s d ho, buildSector_seq]
    rfl
  · rw [startPass_of_not_catalogue s d (not_exists.1 ho)]
    rfl

@[simp] theorem grantChannel_seq : s.grantChannel.seq = s.seq := by
  by_cases hdue : s.channel.grant ≠ none ∨ s.channel.next = none
  · rw [grantChannel_of_nothing_due hdue]
  obtain ⟨hg, hn⟩ := not_or.1 hdue
  obtain ⟨d, hd⟩ := Option.ne_none_iff_exists'.1 hn
  cases hh : s.scheds[d].inHand with
  | none => rw [grantChannel_of_empty_hand (not_not.1 hg) hd hh]; rfl
  | some h => rw [grantChannel_of_in_hand (not_not.1 hg) hd hh, startPass_seq]; rfl

@[simp] theorem putInHand_seq (r : SectorRequest) : (s.putInHand d r).seq = s.seq := by
  unfold State.putInHand
  dsimp only
  rw [apply_ite State.seq]
  exact ite_self s.seq

@[simp] theorem driveActs_seq : (s.driveActs d).seq = s.seq := by
  cases hh : s.scheds[d].inHand with
  | some h =>
    obtain ⟨r, phase⟩ := h
    by_cases hphase : phase = .positioning
    · subst hphase
      by_cases hready : s.drives[d].motion = .still ∧ s.drives[d].head = .loaded
      · rw [driveActs_of_positioned hh hready]; rfl
      · rw [driveActs_of_positioning hh hready]
    · rw [driveActs_of_other_phase hh hphase]
  | none =>
    by_cases hfree : s.freeToAct d
    · cases hpending : s.drives[d].pendingRecal with
      | true => rw [driveActs_of_pending hh hfree hpending]; rfl
      | false =>
        cases hchosen : s.chosen d with
        | none => rw [driveActs_of_no_choice hh hfree hpending hchosen]
        | some r => rw [driveActs_of_chosen hh hfree hpending hchosen, putInHand_seq]; rfl
    · rw [driveActs_of_not_free hh hfree]

@[simp] theorem runDrives_seq : s.runDrives.seq = s.seq := by
  refine List.foldlRecOn (motive := fun t : State => t.seq = s.seq) _ _ (grantChannel_seq s) fun t ht d _ => ?_
  rw [grantChannel_seq, driveActs_seq, ht]

theorem runDrives_tick : s.runDrives.tick = s.tick := (steady_runDrives (Steady.refl (fun _ => True) True s)).tick

end Seq

/-! #### A request placed (R45 to R48) -/

section Place
variable {s : State} {d : DriveNo} (t : Target) (op : Operation) (p : PageNo) (o : Owner) (c : Class)

theorem place_of_in_use (hu : s.drives[d].state.inUse = true) : s.place d t op p o c = s.joinsAndActs d t op p o c := if_pos hu

theorem place_of_not_in_use (hu : ¬s.drives[d].state.inUse = true) : s.place d t op p o c = (s.freePage p).driveLostTo o := if_neg hu

end Place

theorem driveLostTo_of_no_handle (s : State) {o : Owner} (ho : ∀ desk h j, o ≠ .handleSector desk h j) : s.driveLostTo o = s := by
  unfold State.driveLostTo
  split
  next desk h j => exact absurd rfl (ho desk h j)
  next => rfl

/-- A READ starts at the place of its story sector (R16). -/
theorem startRead_of_sectorAt (s : State) (desk : Desk) (h : HandleNo) {r : ReadHandle} {j l : Nat} (p : PageNo)
    (hl : sectorAt r.extents j = some l) :
    s.startRead desk h r j p =
      (s.setHandle desk h (.reading { r with table := r.table.set j (.reading p) })).place r.drive (targetOfL l) .read p
        (.handleSector desk h j) r.cls := by
  rw [State.startRead, storyTarget, hl, Option.getD_some]

/-! #### Read-ahead (R91, R124) -/

/-- Read-ahead may take a sector: ABSENT, at or above the read-ahead point and not wholly below the delivery point (R124). -/
def ReadHandle.wanted (r : ReadHandle) (j : Nat) : Prop :=
  j < r.table.length ∧ r.readAhead ≤ j ∧ r.table.getD j .absent = .absent ∧ r.delivery < min (512 * (j + 1)) r.length

theorem wanted_iff (r : ReadHandle) (j : Nat) :
    r.wanted j ↔ j ∈ List.range r.table.length ∧
      (decide (r.readAhead ≤ j) && r.table.getD j .absent == .absent && !whollyBelow r.length r.delivery j) = true := by
  simp only [ReadHandle.wanted, whollyBelow, List.mem_range, Bool.and_eq_true, decide_eq_true_eq, beq_iff_eq, Bool.not_eq_true',
    decide_eq_false_iff_not, Nat.not_le, and_assoc]

/-- The target of read-ahead is the lowest sector it may take (R124). -/
theorem target_eq_some {r : ReadHandle} {j : Nat} (hj : r.wanted j) (hlow : ∀ i, i < j → ¬r.wanted i) : r.target = some j := by
  obtain ⟨hmem, htest⟩ := (wanted_iff r j).1 hj
  refine List.find?_range_eq_some.2 ⟨htest, hmem, fun i hi => ?_⟩
  have himem : i ∈ List.range r.table.length := List.mem_range.2 (Nat.lt_trans hi (List.mem_range.1 hmem))
  rw [Bool.not_eq_true', ← Bool.not_eq_true]
  exact fun hitest => hlow i hi ((wanted_iff r i).2 ⟨himem, hitest⟩)

theorem target_eq_none {r : ReadHandle} (hno : ∀ j, ¬r.wanted j) : r.target = none :=
  List.find?_eq_none.2 fun j hmem htest => hno j ((wanted_iff r j).2 ⟨hmem, htest⟩)

/-- The occasion lets a handle of the desk read ahead (R91, R124). -/
def State.allowsReadAhead (s : State) (desk : Desk) (r : ReadHandle) : Prop :=
  r.readingCount < 2 ∧ 8 < s.freeGeneral ∧ s.holdings desk < s.deskSettings[desk].quota ∧ s.pool.waiters = []

theorem allowsReadAhead_iff (s : State) (desk : Desk) (r : ReadHandle) :
    (decide (r.readingCount < 2) && decide (Config.readAheadSlack < s.freeGeneral) && s.belowQuota desk && s.pool.waiters.isEmpty) =
      true ↔ s.allowsReadAhead desk r := by
  have hslack : Config.readAheadSlack = 8 := rfl
  simp only [State.allowsReadAhead, State.belowQuota, hslack, Bool.and_eq_true, decide_eq_true_eq, List.isEmpty_iff, and_assoc]

section ReadAhead
variable {s : State} {desk : Desk} {h : HandleNo} {r : ReadHandle} (hh : s.handle desk h = .reading r) (n : Nat)
include hh

theorem readAheadUpTo_of_allowed {j : Nat} {p : PageNo} (hj : r.target = some j) (ha : s.allowsReadAhead desk r)
    (hp : s.freePageNo true = some p) :
    s.readAheadUpTo (n + 1) desk h = ((s.holdPage p (.handleSector desk h j)).startRead desk h r j p).readAheadUpTo n desk h := by
  have hallows := (allowsReadAhead_iff s desk r).2 ha
  rw [State.readAheadUpTo, hh]
  simp only [hj, hp, if_pos hallows]

theorem readAheadUpTo_of_no_target (hj : r.target = none) : s.readAheadUpTo n desk h = s := by
  cases n with
  | zero => rfl
  | succ n =>
    rw [State.readAheadUpTo, hh]
    simp only [hj]

theorem readAheadUpTo_of_not_allowed (ha : ¬s.allowsReadAhead desk r) : s.readAheadUpTo n desk h = s := by
  cases n with
  | zero => rfl
  | succ n =>
    have hallows := mt (allowsReadAhead_iff s desk r).1 ha
    rw [State.readAheadUpTo, hh]
    cases hj : r.target with
    | none => simp only [hj]
    | some j => simp only [hj, if_neg hallows]

end ReadAhead

/-! #### The end of a READ (R125, R130) -/

/-- A request in progress waits for sector `j` of a handle: a GET on it whose range the sector lies in (R130). -/
def Waiting.needs (h : HandleNo) (j : Nat) (w : Waiting) : Prop :=
  ∃ on offset n, w = .get on h offset n ∧ j ∈ sectorsCovering offset n

section FailGet
variable {s : State} {desk : Desk} {h : HandleNo} {j : Nat} (cause : PassCause)

theorem failGet_of_needed {w : Waiting} (hw : s.desks[desk].inProgress = some w) (hneeds : w.needs h j) :
    s.failGet desk h j cause = s.failWaiting desk w .media [cause.code] := by
  obtain ⟨on, offset, n, rfl, hj⟩ := hneeds
  simp only [State.failGet, hw, beq_self_eq_true, List.contains_iff_mem.2 hj, Bool.and_self, if_true]

theorem failGet_of_not_needed (hno : ∀ w, s.desks[desk].inProgress = some w → ¬w.needs h j) : s.failGet desk h j cause = s := by
  unfold State.failGet
  split
  next on g offset n hw =>
    refine if_neg fun hneeds => hno _ hw ?_
    obtain ⟨hg, hj⟩ := Bool.and_eq_true_iff.1 hneeds
    exact ⟨on, offset, n, by rw [beq_iff_eq.1 hg], List.contains_iff_mem.1 hj⟩
  next => rfl

end FailGet

section ReadEnds
variable {s : State} {desk : Desk} {h : HandleNo} {r : ReadHandle} (hh : s.handle desk h = .reading r) {j : Nat} {p : PageNo}
include hh

theorem readDone_of_reading (hr : r.table.getD j .absent = .reading p) :
    s.readDone desk h j p = (s.setHandle desk h (.reading { r with table := r.table.set j (.present p) })).afterRead desk h := by
  simp only [State.readDone, hh, hr, beq_self_eq_true, if_true]

theorem readFailed_of_reading (hr : r.table.getD j .absent = .reading p) (cause : PassCause) :
    s.readFailed desk h j p cause =
      (((s.setHandle desk h (.reading
        { r with table := r.table.set j .absent, readAhead := if r.readAhead ≤ j then j + 1 else r.readAhead })).freePage p).failGet
          desk h j cause).afterRead desk h := by
  simp only [State.readFailed, hh, hr, beq_self_eq_true, if_true]

/-- A page whose sector was given up is only freed. -/
theorem readEnds_of_not_reading (hr : r.table.getD j .absent ≠ .reading p) (cause : PassCause) :
    s.readDone desk h j p = s.freePage p ∧ s.readFailed desk h j p cause = s.freePage p := by
  simp only [State.readDone, State.readFailed, hh, beq_iff_eq, hr, if_false, and_self]

end ReadEnds

/-! #### A waiting GET examined (R128) -/

section Examine
variable {s : State} {desk : Desk}

theorem examineGet_of_no_get (hno : ∀ on h offset n, s.desks[desk].inProgress ≠ some (.get on h offset n)) :
    s.examineGet desk = s := by
  unfold State.examineGet
  split
  next on h offset n hget => exact absurd hget (hno on h offset n)
  next => rfl

theorem examineGet_of_reading {on : Bool} {h : HandleNo} {offset n : Nat} {r : ReadHandle}
    (hget : s.desks[desk].inProgress = some (.get on h offset n)) (hh : s.handle desk h = .reading r) :
    s.examineGet desk = if r.covers offset n then s.answerGet desk h r on offset n else s := by
  simp only [State.examineGet, hget, hh]

end Examine

/-! #### The delivery point (R129) -/

theorem whollyBelow_iff (length delivery j : Nat) : whollyBelow length delivery j = true ↔ min (512 * (j + 1)) length ≤ delivery :=
  decide_eq_true_iff

theorem tableAfter_eq (r : ReadHandle) (delivery : Nat) :
    tableAfter r delivery = (List.range r.table.length).map (fun j =>
      if min (512 * (j + 1)) r.length ≤ delivery then ReadEntry.absent else r.table.getD j .absent) :=
  List.map_congr_left fun _ _ => if_congr (whollyBelow_iff ..) rfl rfl

theorem givenUpAfter_eq (r : ReadHandle) (delivery : Nat) :
    givenUpAfter r delivery = ((List.range r.table.length).filter (fun j => min (512 * (j + 1)) r.length ≤ delivery)).map
      (fun j => r.table.getD j .absent) := by
  rw [← List.filterMap_eq_map, List.filterMap_filter]
  rfl

/-- Settles O38: a request placed by the state of its drive, the end of a READ by its entry in the table. -/
theorem readsFillTheirSectors : Obligations.ReadsFillTheirSectors := by
  refine ⟨fun s d t op p o c => ?_, fun s desk h r j l p hl => startRead_of_sectorAt s desk h p hl, fun s desk h r hh => ?_,
    fun s desk h r j p cause hh => ?_, fun s desk => ⟨examineGet_of_no_get, fun on h offset n r hget hh => ?_⟩,
    fun s desk h r delivery => ?_, fun s d p rest => ⟨rfl, rfl, rfl, rfl⟩⟩
  · intro inUse ready joined
    have huse : s.drives[d].state.inUse = true ↔ inUse := DriveState.inUse_iff _
    refine ⟨fun hu => ⟨place_of_in_use t op p o c (huse.2 hu), runDrives_seq s, runDrives_tick s⟩, fun desk h j hu ho => ?_,
      fun hu ho => ?_⟩
    · rw [place_of_not_in_use t op p o c (mt huse.1 hu), ho]
      rfl
    · rw [place_of_not_in_use t op p o c (mt huse.1 hu), driveLostTo_of_no_handle _ ho]
  · intro wanted reading granted
    refine ⟨rfl, rfl, fun n j p hj hlow hg hp => readAheadUpTo_of_allowed hh n (target_eq_some hj hlow) hg hp, fun n hno => ?_⟩
    rcases hno with hno | hno
    · exact readAheadUpTo_of_no_target hh n (target_eq_none hno)
    · exact readAheadUpTo_of_not_allowed hh n hno
  · intro goesOn failed number needs
    have hnumber : cause.code = number := by cases cause <;> rfl
    refine ⟨fun hr => ⟨readDone_of_reading hh hr, fun w hw hneeds => ?_, fun hno => ?_⟩,
      fun hr => readEnds_of_not_reading hh hr cause⟩
    · have hfails : failed.failGet desk h j cause =
          ((failed.leaveWaiters desk).setInProgress desk none).fail desk w.kind.code w.flags .media [number] := by
        rw [← hnumber]
        exact failGet_of_needed cause hw hneeds
      exact (readFailed_of_reading hh hr cause).trans (congrArg goesOn hfails)
    · have hstands : failed.failGet desk h j cause = failed := failGet_of_not_needed cause hno
      exact (readFailed_of_reading hh hr cause).trans (congrArg goesOn hstands)
  · intro present
    have hcovers : r.covers offset n = true ↔ present := covers_iff r offset n
    rw [examineGet_of_reading hget hh]
    refine ⟨fun hno => if_neg (mt hcovers.1 hno), fun hyes hn => ?_⟩
    rw [if_pos (hcovers.2 hyes)]
    exact answerGet_eq s desk h r on offset n (if_neg (Nat.ne_of_gt hn))
  · intro below least table given point after
    have htable : tableAfter r delivery = table := tableAfter_eq r delivery
    have hgiven : givenUpAfter r delivery = given := givenUpAfter_eq r delivery
    unfold State.deliver
    rw [htable, hgiven]
    rfl

end Sys2Proof.Machine
end

section
namespace Sys2Proof.Machine

/-! ### A failed attempt (R77 to R80) -/

/-- The third attempt of a request that has not recalibrated (R78). -/
theorem marksRecal_iff (r : SectorRequest) : r.marksRecal = true ↔ r.attempts = 2 ∧ r.recalibrated = false := by
  unfold SectorRequest.marksRecal
  rw [Bool.and_eq_true, decide_eq_true_iff, Bool.not_eq_true', Nat.succ_inj]

theorem retried_eq (r : SectorRequest) :
    r.retried =
      { r with attempts := r.attempts + 1, recalibrated := r.recalibrated || decide (r.attempts = 2 ∧ r.recalibrated = false) } := by
  have hmark : r.marksRecal = decide (r.attempts = 2 ∧ r.recalibrated = false) := Bool.eq_iff_iff.2 (by
    rw [marksRecal_iff, decide_eq_true_iff])
  rw [SectorRequest.retried, hmark]

/-- The request at the end of its drive's work list again (R77). -/
def State.requeues (s : State) (d : DriveNo) (r : SectorRequest) : State :=
  s.setSched d { s.scheds[d] with workList := s.scheds[d].workList ++ [r.retried] }

section Attempt
variable {s : State} {d : DriveNo} {r : SectorRequest} {cause : PassCause}

theorem retryOrFail_at_setting (hlast : s.settings[d].retries ≤ r.attempts + 1) :
    s.retryOrFail d r cause = (s.countDrive d .hardFailures 1).ownerFailed { r with attempts := r.attempts + 1 } cause := if_pos hlast

theorem retryOrFail_below_setting (hmore : r.attempts + 1 < s.settings[d].retries) :
    s.retryOrFail d r cause =
      if r.marksRecal && cause != .wrongCylinder then (s.requeues d r).setDrive d { s.drives[d] with pendingRecal := true }
      else s.requeues d r := if_neg (Nat.not_le.2 hmore)

/-- WRONG-CYLINDER starts its own recalibration, so none becomes pending (R78, R79). -/
theorem pendsRecal_iff :
    (r.marksRecal && cause != .wrongCylinder) = true ↔ (r.attempts = 2 ∧ r.recalibrated = false) ∧ cause ≠ .wrongCylinder := by
  rw [Bool.and_eq_true, marksRecal_iff, bne_iff_ne]

end Attempt

/-- Settles O49: the hard failure at the setting; below it the request back in the work list, with the recalibration of the third. -/
theorem failedAttemptsAreRetried : Obligations.FailedAttemptsAreRetried := by
  intro s d r cause third back requeued
  have hrequeued : s.requeues d r = requeued := by
    rw [State.requeues, retried_eq]
  refine ⟨retryOrFail_at_setting, fun hmore => ?_⟩
  rw [retryOrFail_below_setting hmore, hrequeued]
  exact ⟨fun hthird hcause => if_pos (pendsRecal_iff.2 ⟨hthird, hcause⟩), fun hnot => if_neg (mt pendsRecal_iff.1 hnot)⟩

end Sys2Proof.Machine
end

section
namespace Sys2Proof.Machine

/-! ### What follows at once from a command (R168, R171) -/

/-- Settles O59: settling is steady from its own start, seen at every desk and with the settings and tallies. -/
theorem settlingAnswersOnlyWaitingDesks : Obligations.SettlingAnswersOnlyWaitingDesks := by
  intro s t
  have hsteady : Steady (fun _ => True) True s t := steady_settle (.refl _ _ s)
  obtain ⟨hsettings, hrights, htallies⟩ := hsteady.standing trivial
  exact ⟨fun desk => hsteady.idle desk trivial, hsteady.powerGood, hsteady.tick, hsettings, hrights, htallies, hsteady.pending⟩

end Sys2Proof.Machine
end

section
namespace Sys2Proof.Machine

/-! ### The page pool (R83 to R95) -/

/-! #### Free pages and holdings (R83 to R85) -/

theorem freePageNo_eq_find? (s : State) (general : Bool) :
    s.freePageNo general = Fin.find? (fun p => isGeneral p == general && s.pool.pages[p].isNone) :=
  Fin.find?_eq_find?_finRange.symm

/-- A page of a kind that is free. -/
theorem isFreeOfKind_iff (s : State) (general : Bool) (p : PageNo) :
    (isGeneral p == general && s.pool.pages[p].isNone) = true ↔ general = decide (p.val < 56) ∧ s.pool.pages[p] = none := by
  rw [Bool.and_eq_true, beq_iff_eq, Option.isNone_iff_eq_none, eq_comm]
  rfl

/-- The page granted is the lowest free one of its kind (R83). -/
theorem freePageNo_eq_some_iff (s : State) (general : Bool) (p : PageNo) :
    s.freePageNo general = some p ↔
      general = decide (p.val < 56) ∧ s.pool.pages[p] = none ∧
        ∀ q, q < p → general = decide (q.val < 56) → s.pool.pages[q] ≠ none := by
  simp only [freePageNo_eq_find?, Fin.find?_eq_some_iff, ← Bool.not_eq_true, isFreeOfKind_iff, not_and, and_assoc, ne_eq]

theorem freePageNo_eq_none_iff (s : State) (general : Bool) :
    s.freePageNo general = none ↔ ∀ p : PageNo, general = decide (p.val < 56) → s.pool.pages[p] ≠ none := by
  simp only [freePageNo_eq_find?, Fin.find?_eq_none_iff, ← Bool.not_eq_true, isFreeOfKind_iff, not_and, ne_eq]

theorem freePageNo_true_eq_none_iff (s : State) :
    s.freePageNo true = none ↔ ∀ p : PageNo, p.val < 56 → s.pool.pages[p] ≠ none := by
  simp only [freePageNo_eq_none_iff, true_eq_decide_iff]

theorem belowQuota_iff (s : State) (desk : Desk) : s.belowQuota desk = true ↔ s.holdings desk < s.deskSettings[desk].quota :=
  decide_eq_true_iff

/-- A desk holds the pages of its handle sectors (R84). -/
theorem heldByDesk_eq (desk : Desk) (x : Option HeldPage) :
    heldByDesk desk x =
      (match x with
        | some y => (match y.holder with | .handleSector e _ _ => e == desk | _ => false)
        | none => false) := by
  cases x with
  | none => rfl
  | some y =>
    obtain ⟨holder, bytes, awaited⟩ := y
    cases holder <;> rfl

/-! #### The ask of a GET (R86) -/

section Ask
variable {s : State} {desk : Desk}

theorem askNow_of_below {p : PageNo} (hp : s.freePageNo true = some p) (hq : s.holdings desk < s.deskSettings[desk].quota) :
    s.askNow desk = some p := by
  rw [State.askNow, if_pos ((belowQuota_iff s desk).2 hq), hp]

theorem askNow_eq_none (h : s.freePageNo true = none ∨ s.deskSettings[desk].quota ≤ s.holdings desk) : s.askNow desk = none := by
  unfold State.askNow
  split
  next hq => exact h.resolve_right (Nat.not_le.2 ((belowQuota_iff s desk).1 hq))
  next => rfl

variable {h : HandleNo} {r : ReadHandle} (hh : s.handle desk h = .reading r) (j : Nat) (js : List Nat)
include hh

theorem askForGet_of_page {p : PageNo} (hp : s.askNow desk = some p) :
    s.askForGet desk h (j :: js) = ((s.holdPage p (.handleSector desk h j)).startRead desk h r j p).askForGet desk h js := by
  rw [State.askForGet, hh, hp]

theorem askForGet_of_no_page (hp : s.askNow desk = none) :
    s.askForGet desk h (j :: js) =
      s.setPool { s.pool with waiters := s.pool.waiters ++ [{ desk := desk, handle := h, cls := r.cls, lacks := j :: js }] } := by
  rw [State.askForGet, hh, hp]

end Ask

/-! #### The next waiter (R87, R88) -/

/-- A waiter is eligible while its desk's holdings are below its quota (R87). -/
def State.IsEligible (s : State) (w : Waiter) : Prop := s.holdings w.desk < s.deskSettings[w.desk].quota

theorem isEligibleOf_iff (s : State) (c : Class) (w : Waiter) :
    (w.cls == c && s.belowQuota w.desk) = true ↔ w.cls = c ∧ s.IsEligible w := by
  rw [Bool.and_eq_true, beq_iff_eq, belowQuota_iff]
  rfl

theorem eligible_eq_none_iff (s : State) (c : Class) :
    s.eligible c = none ↔ ∀ w ∈ s.pool.waiters, s.IsEligible w → w.cls ≠ c := by
  simp only [State.eligible, List.find?_eq_none, isEligibleOf_iff, not_and', ne_eq]

theorem eligible_eq_some {s : State} {c : Class} {w : Waiter} (h : s.eligible c = some w) :
    w.cls = c ∧ s.IsEligible w ∧
      ∃ before after, s.pool.waiters = before ++ w :: after ∧ ∀ x ∈ before, s.IsEligible x → x.cls ≠ c := by
  obtain ⟨hw, before, after, hlist, hbefore⟩ := List.find?_eq_some_iff_append.1 h
  obtain ⟨hcls, heligible⟩ := (isEligibleOf_iff s c w).1 hw
  refine ⟨hcls, heligible, before, after, hlist, fun x hx hxe hxc => ?_⟩
  have hno := hbefore x hx
  rw [(isEligibleOf_iff s c x).2 ⟨hxc, hxe⟩] at hno
  cases hno

theorem nextWaiter_eq_none_iff (s : State) : s.nextWaiter = none ↔ ∀ w ∈ s.pool.waiters, ¬s.IsEligible w := by
  have hboth : s.nextWaiter = none ↔ s.eligible .urgent = none ∧ s.eligible .routine = none := by
    unfold State.nextWaiter
    split
    next w hw => simp [hw]
    next hnone => simp [hnone]
  simp only [hboth, eligible_eq_none_iff]
  refine ⟨fun ⟨hurgent, hroutine⟩ w hw he => ?_, fun hno => ?_⟩
  · exact hroutine w hw he ((Class.ne_urgent_iff w.cls).1 (hurgent w hw he))
  · exact ⟨fun w hw he => absurd he (hno w hw), fun w hw he => absurd he (hno w hw)⟩

/-- A free page goes to the oldest eligible waiter of its class, a ROUTINE one only where no eligible one is URGENT (R88). -/
theorem nextWaiter_eq_some {s : State} {w : Waiter} (h : s.nextWaiter = some w) :
    ∃ before after, s.pool.waiters = before ++ w :: after ∧ s.IsEligible w ∧ (∀ x ∈ before, s.IsEligible x → x.cls ≠ w.cls) ∧
      (w.cls = .routine → ∀ x ∈ s.pool.waiters, s.IsEligible x → x.cls = .routine) := by
  unfold State.nextWaiter at h
  split at h
  next v hv =>
    obtain rfl : v = w := Option.some.inj h
    obtain ⟨hcls, heligible, before, after, hlist, hbefore⟩ := eligible_eq_some hv
    exact ⟨before, after, hlist, heligible, hcls ▸ hbefore, fun hroutine => nomatch hcls.symm.trans hroutine⟩
  next hnone =>
    obtain ⟨hcls, heligible, before, after, hlist, hbefore⟩ := eligible_eq_some h
    exact ⟨before, after, hlist, heligible, hcls ▸ hbefore,
      fun _ x hx he => (Class.ne_urgent_iff x.cls).1 ((eligible_eq_none_iff s .urgent).1 hnone x hx he)⟩

/-! #### A grant to a waiter (R88) -/

/-- A page held for a waiter's sector `j`, with the sectors that the waiter still lacks; one that lacks none has left the list. -/
def State.grantedTo (s : State) (w : Waiter) (j : Nat) (rest : List Nat) (p : PageNo) : State :=
  (s.holdPage p (.handleSector w.desk w.handle j)).setPool
    { (s.holdPage p (.handleSector w.desk w.handle j)).pool with
      waiters :=
        if rest = [] then s.pool.waiters.filter (fun x => x.desk ≠ w.desk)
        else s.pool.waiters.map (fun x => if x.desk = w.desk then { x with lacks := rest } else x) }

theorem grantedTo_eq (s : State) (w : Waiter) (j : Nat) (rest : List Nat) (p : PageNo) :
    s.grantedTo w j rest p =
      if rest = [] then (s.holdPage p (.handleSector w.desk w.handle j)).leaveWaiters w.desk
      else (s.holdPage p (.handleSector w.desk w.handle j)).setPool
        { (s.holdPage p (.handleSector w.desk w.handle j)).pool with
          waiters := (s.holdPage p (.handleSector w.desk w.handle j)).pool.waiters.map
            (fun x => if x.desk == w.desk then { x with lacks := rest } else x) } := by
  unfold State.grantedTo
  split
  next => rw [filter_ne_eq_filter_bne]; rfl
  next => simp only [beq_iff_eq]; rfl

section GrantWaiter
variable {s : State} {w : Waiter} {j : Nat} {rest : List Nat} (hlacks : w.lacks = j :: rest) (p : PageNo)
include hlacks

theorem grantWaiter_of_reading {r : ReadHandle} (hh : s.handle w.desk w.handle = .reading r) :
    s.grantWaiter w p = (s.grantedTo w j rest p).startRead w.desk w.handle r j p := by
  have hgranted : (s.grantedTo w j rest p).handle w.desk w.handle = .reading r := hh
  unfold State.grantWaiter
  simp only [hlacks, ← grantedTo_eq, hgranted]

theorem grantWaiter_of_writing {v : WriteHandle} {on : Bool} {h : HandleNo} {offset : Nat} {data : List Byte}
    (hh : s.handle w.desk w.handle = .writing v) (hput : s.desks[w.desk].inProgress = some (.put on h offset data)) :
    s.grantWaiter w p = (s.grantedTo w j rest p).storePut w.desk w.handle v on offset data (some (j, p)) := by
  have hgranted : (s.grantedTo w j rest p).handle w.desk w.handle = .writing v := hh
  have hgrantedPut : (s.grantedTo w j rest p).desks[w.desk].inProgress = some (.put on h offset data) := hput
  unfold State.grantWaiter
  simp only [hlacks, ← grantedTo_eq, hgranted, hgrantedPut]

end GrantWaiter

/-! #### Read-ahead pages and the farthest of them (R92) -/

theorem mem_neededBy_iff (s : State) (desk : Desk) (h : HandleNo) (j : Nat) :
    j ∈ s.neededBy desk h ↔
      ∃ on offset n, s.desks[desk].inProgress = some (.get on h offset n) ∧ j ∈ sectorsCovering offset n := by
  unfold State.neededBy
  cases s.desks[desk].inProgress with
  | none => simp
  | some w =>
    cases w with
    | get on g offset n => by_cases hg : g = h <;> simp [hg]
    | _ => simp

theorem page_isSome_iff (e : ReadEntry) : e.page.isSome = true ↔ ∃ p, e = .reading p ∨ e = .present p := by
  cases e <;> simp [ReadEntry.page]

/-- A read-ahead page, given by its desk, handle, sector and distance: the sector has a page, does not begin below the delivery point,
and the desk's waiting GET does not need it (R92). -/
def State.IsAhead (s : State) (x : Desk × HandleNo × Nat × Nat) : Prop :=
  ∃ r p, s.handle x.1 x.2.1 = .reading r ∧ x.2.2.1 < r.table.length ∧
    (r.table.getD x.2.2.1 .absent = .reading p ∨ r.table.getD x.2.2.1 .absent = .present p) ∧
    r.delivery ≤ 512 * x.2.2.1 ∧ x.2.2.2 = 512 * x.2.2.1 - r.delivery ∧
    ¬∃ on offset n, s.desks[x.1].inProgress = some (.get on x.2.1 offset n) ∧ x.2.2.1 ∈ sectorsCovering offset n

/-- The sectors of a read handle with a read-ahead page, lowest first. -/
def State.aheadSectors (s : State) (desk : Desk) (h : HandleNo) (r : ReadHandle) : List Nat :=
  (List.range r.table.length).filter (fun j =>
    (r.table.getD j .absent).page.isSome && decide (r.delivery ≤ 512 * j) && !(s.neededBy desk h).contains j)

section FarthestOf
variable {s : State} {desk : Desk} {h : HandleNo}

theorem mem_aheadSectors_iff {r : ReadHandle} {j : Nat} :
    j ∈ s.aheadSectors desk h r ↔
      j < r.table.length ∧ (∃ p, r.table.getD j .absent = .reading p ∨ r.table.getD j .absent = .present p) ∧
        r.delivery ≤ 512 * j ∧ j ∉ s.neededBy desk h := by
  simp only [State.aheadSectors, List.mem_filter, List.mem_range, Bool.and_eq_true, page_isSome_iff, decide_eq_true_eq,
    Bool.not_eq_true', List.contains_eq_mem, decide_eq_false_iff_not, and_assoc]

theorem isAhead_iff {r : ReadHandle} (hh : s.handle desk h = .reading r) (j dist : Nat) :
    s.IsAhead (desk, h, j, dist) ↔ j ∈ s.aheadSectors desk h r ∧ dist = 512 * j - r.delivery := by
  rw [mem_aheadSectors_iff, mem_neededBy_iff]
  constructor
  · rintro ⟨r', p, hh', hlen, hpage, hdelivery, hdist, hneeded⟩
    obtain rfl : r = r' := Handle.reading.inj (hh.symm.trans hh')
    exact ⟨⟨hlen, ⟨p, hpage⟩, hdelivery, hneeded⟩, hdist⟩
  · rintro ⟨⟨hlen, ⟨p, hpage⟩, hdelivery, hneeded⟩, hdist⟩
    exact ⟨r, p, hh, hlen, hpage, hdelivery, hdist, hneeded⟩

theorem farthestOf_of_reading {r : ReadHandle} (hh : s.handle desk h = .reading r) :
    s.farthestOf desk h = (s.aheadSectors desk h r).getLast?.map (fun j => (512 * j - r.delivery, j)) := by
  rw [State.farthestOf, hh]
  rfl

theorem le_getLast_aheadSectors {r : ReadHandle} {i j : Nat} (hj : (s.aheadSectors desk h r).getLast? = some j)
    (hi : i ∈ s.aheadSectors desk h r) : i ≤ j := by
  have hsorted : (s.aheadSectors desk h r).Pairwise (· < ·) := List.pairwise_lt_range.filter _
  obtain ⟨lower, hlist⟩ := List.getLast?_eq_some_iff.1 hj
  rw [hlist] at hi hsorted
  rcases List.mem_append.1 hi with hi | hi
  · exact Nat.le_of_lt ((List.pairwise_append.1 hsorted).2.2 i hi j List.mem_cons_self)
  · exact Nat.le_of_eq (List.mem_singleton.1 hi)

theorem farthestOf_eq_none (hnone : s.farthestOf desk h = none) (j dist : Nat) : ¬s.IsAhead (desk, h, j, dist) := by
  intro hahead
  obtain ⟨r, p, hh, -⟩ := id hahead
  rw [farthestOf_of_reading hh, Option.map_eq_none_iff, List.getLast?_eq_none_iff] at hnone
  have hmem := ((isAhead_iff hh j dist).1 hahead).1
  rw [hnone] at hmem
  cases hmem

/-- The farthest read-ahead page of a handle is its highest one. -/
theorem farthestOf_eq_some {y : Nat × Nat} (hsome : s.farthestOf desk h = some y) :
    s.IsAhead (desk, h, y.2, y.1) ∧ ∀ i e, s.IsAhead (desk, h, i, e) → e ≤ y.1 := by
  cases hh : s.handle desk h with
  | reading r =>
    rw [farthestOf_of_reading hh, Option.map_eq_some_iff] at hsome
    obtain ⟨j, hlast, rfl⟩ := hsome
    refine ⟨(isAhead_iff hh ..).2 ⟨List.mem_of_getLast? hlast, rfl⟩, fun i e hahead => ?_⟩
    obtain ⟨hi, rfl⟩ := (isAhead_iff hh i e).1 hahead
    have hle := le_getLast_aheadSectors hlast hi
    omega
  | _ => simp [State.farthestOf, hh] at hsome

end FarthestOf

/-! #### The farthest read-ahead page among some handles (R93, R94) -/

/-- The farthest read-ahead page so far and that of one more handle. -/
def State.farther (s : State) (best : Option (Desk × HandleNo × Nat × Nat)) (p : Desk × HandleNo) :
    Option (Desk × HandleNo × Nat × Nat) :=
  match s.farthestOf p.1 p.2, best with
  | none, best => best
  | some y, none => some (p.1, p.2, y)
  | some y, some b => if b.2.2.1 < y.1 then some (p.1, p.2, y) else some b

theorem farthest_eq_foldl (s : State) (hs : List (Desk × HandleNo)) : s.farthest hs = hs.foldl s.farther none := by
  unfold State.farthest
  congr 1
  funext best p
  unfold State.farther
  cases s.farthestOf p.1 p.2 <;> cases best <;> rfl

/-- Handles in ascending order of desk, those of one desk in ascending order of handle. -/
abbrev HandleOrder : Desk × HandleNo → Desk × HandleNo → Prop := Prod.Lex (· < ·) (· ≤ ·)

/-- What a search of some handles has found: none of them has a read-ahead page, or of the farthest ones the one of the lowest
handle. -/
def State.Leads (s : State) (hs : List (Desk × HandleNo)) : Option (Desk × HandleNo × Nat × Nat) → Prop
  | none => ∀ p ∈ hs, s.farthestOf p.1 p.2 = none
  | some b => (b.1, b.2.1) ∈ hs ∧ s.farthestOf b.1 b.2.1 = some b.2.2 ∧
      ∀ p ∈ hs, ∀ y, s.farthestOf p.1 p.2 = some y → y.1 < b.2.2.1 ∨ (y.1 = b.2.2.1 ∧ HandleOrder (b.1, b.2.1) p)

/-- One more handle, later in the order than those searched. -/
theorem State.Leads.farther {s : State} {hs : List (Desk × HandleNo)} {best : Option (Desk × HandleNo × Nat × Nat)}
    {p : Desk × HandleNo} (hbest : s.Leads hs best) (horder : ∀ q ∈ hs, HandleOrder q p) :
    s.Leads (hs ++ [p]) (s.farther best p) := by
  have hrefl : HandleOrder p p := Prod.Lex.right _ le_rfl
  have hsplit {C : Desk × HandleNo → Prop} (hold : ∀ q ∈ hs, C q) (hnew : C p) : ∀ q ∈ hs ++ [p], C q :=
    List.forall_mem_append.2 ⟨hold, List.forall_mem_singleton.2 hnew⟩
  cases hp : s.farthestOf p.1 p.2 with
  | none =>
    cases best with
    | none =>
      simp only [State.farther, hp]
      exact hsplit hbest hp
    | some b =>
      obtain ⟨hmem, hb, hmax⟩ := hbest
      simp only [State.farther, hp]
      exact ⟨List.mem_append_left _ hmem, hb, hsplit hmax fun y hy => nomatch hp.symm.trans hy⟩
  | some y =>
    have hself : ∀ z, s.farthestOf p.1 p.2 = some z → z = y := fun z hz => Option.some.inj (hz.symm.trans hp)
    have hlast : p ∈ hs ++ [p] := by simp
    cases best with
    | none =>
      simp only [State.farther, hp]
      refine ⟨hlast, hp, hsplit (fun q hq z hz => ?_) fun z hz => .inr ⟨by rw [hself z hz], hrefl⟩⟩
      exact nomatch (hbest q hq).symm.trans hz
    | some b =>
      obtain ⟨hmem, hb, hmax⟩ := hbest
      simp only [State.farther, hp]
      split
      next hlt =>
        refine ⟨hlast, hp, hsplit (fun q hq z hz => .inl ?_) fun z hz => .inr ⟨by rw [hself z hz], hrefl⟩⟩
        rcases hmax q hq z hz with hz | ⟨hz, -⟩ <;> dsimp only <;> omega
      next hle =>
        refine ⟨List.mem_append_left _ hmem, hb, hsplit hmax fun z hz => ?_⟩
        rw [hself z hz]
        rcases Nat.lt_or_eq_of_le (Nat.not_lt.1 hle) with hlt | heq
        · exact .inl hlt
        · exact .inr ⟨heq, horder _ hmem⟩

theorem farthest_leads (s : State) {hs : List (Desk × HandleNo)} (hsorted : hs.Pairwise HandleOrder) : s.Leads hs (s.farthest hs) := by
  rw [farthest_eq_foldl]
  induction hs using List.reverseRecOn with
  | nil => exact fun p hp => nomatch hp
  | append_singleton hs p ih =>
    obtain ⟨hsorted, -, horder⟩ := List.pairwise_append.1 hsorted
    rw [List.foldl_append]
    exact (ih hsorted).farther fun q hq => horder q hq p List.mem_cons_self

/-- The page that a reclaim takes among some desks: of the greatest distance, of equal ones that of the lowest desk and handle
(R93, R94). -/
def State.IsFarthest (s : State) (among : Desk → Prop) (x : Desk × HandleNo × Nat × Nat) : Prop :=
  among x.1 ∧ s.IsAhead x ∧ ∀ y, among y.1 → s.IsAhead y →
    y.2.2.2 < x.2.2.2 ∨ (y.2.2.2 = x.2.2.2 ∧ (x.1 < y.1 ∨ (x.1 = y.1 ∧ x.2.1 ≤ y.2.1)))

/-- The reclaim of the farthest read-ahead page among some handles. -/
def State.reclaimAmong (s : State) (hs : List (Desk × HandleNo)) : Option State :=
  (s.farthest hs).map (fun b => s.reclaim b.1 b.2.1 b.2.2.2)

section ReclaimAmong
variable {s : State} {among : Desk → Prop} {hs : List (Desk × HandleNo)} (hsorted : hs.Pairwise HandleOrder)
  (hmem : ∀ p, p ∈ hs ↔ among p.1)
include hsorted hmem

theorem reclaimAmong_of_isAhead (hahead : ∃ x, among x.1 ∧ s.IsAhead x) :
    ∃ x, s.IsFarthest among x ∧ s.reclaimAmong hs = some (s.reclaim x.1 x.2.1 x.2.2.1) := by
  have hleads := farthest_leads s hsorted
  unfold State.reclaimAmong
  cases hfound : s.farthest hs with
  | none =>
    rw [hfound] at hleads
    obtain ⟨x, hx, hahead⟩ := hahead
    exact absurd hahead (farthestOf_eq_none (hleads (x.1, x.2.1) ((hmem _).2 hx)) x.2.2.1 x.2.2.2)
  | some b =>
    rw [hfound] at hleads
    obtain ⟨hb, hof, hmax⟩ := hleads
    refine ⟨(b.1, b.2.1, b.2.2.2, b.2.2.1), ⟨(hmem _).1 hb, (farthestOf_eq_some hof).1, fun y hy hyahead => ?_⟩, rfl⟩
    cases hyof : s.farthestOf y.1 y.2.1 with
    | none => exact absurd hyahead (farthestOf_eq_none hyof y.2.2.1 y.2.2.2)
    | some z =>
      have hle : y.2.2.2 ≤ z.1 := (farthestOf_eq_some hyof).2 y.2.2.1 y.2.2.2 hyahead
      dsimp only
      rcases hmax (y.1, y.2.1) ((hmem _).2 hy) z hyof with hlt | ⟨heq, horder⟩
      · exact .inl (Nat.lt_of_le_of_lt hle hlt)
      · rcases Nat.lt_or_eq_of_le hle with hlt | hz
        · exact .inl (heq ▸ hlt)
        · exact .inr ⟨hz.trans heq, Prod.lex_iff.1 horder⟩

theorem reclaimAmong_eq_none (hno : ¬∃ x, among x.1 ∧ s.IsAhead x) : s.reclaimAmong hs = none := by
  unfold State.reclaimAmong
  cases hfound : s.farthest hs with
  | none => rfl
  | some b =>
    have hleads := farthest_leads s hsorted
    rw [hfound] at hleads
    obtain ⟨hb, hof, -⟩ := hleads
    exact absurd ⟨(b.1, b.2.1, b.2.2.2, b.2.2.1), (hmem _).1 hb, (farthestOf_eq_some hof).1⟩ hno

end ReclaimAmong

/-! #### The two reclaims (R93, R94) -/

/-- A desk owes a reclaim: it is at or above its quota, less its awaited reclaims, and has a read-ahead page (R93). -/
def State.Owes (s : State) (desk : Desk) : Prop :=
  s.deskSettings[desk].quota ≤ s.holdings desk - s.awaitedOf desk ∧ ∃ x, x.1 = desk ∧ s.IsAhead x

/-- The reclaim that a waiting desk gives rise to (R93). -/
def State.reclaimOf (s : State) (desk : Desk) : Option State :=
  if s.deskSettings[desk].quota ≤ s.holdings desk - s.awaitedOf desk then s.reclaimAmong [(desk, 0), (desk, 1)] else none

theorem deskReclaim_eq (s : State) : s.deskReclaim = s.pool.waiters.findSome? (fun w => s.reclaimOf w.desk) := rfl

theorem handlesOf_sorted (desk : Desk) : [(desk, (0 : HandleNo)), (desk, 1)].Pairwise HandleOrder :=
  List.pairwise_pair.2 (Prod.Lex.right _ (by decide))

theorem mem_handlesOf_iff (desk : Desk) (p : Desk × HandleNo) : p ∈ [(desk, (0 : HandleNo)), (desk, 1)] ↔ p.1 = desk := by
  obtain ⟨e, h⟩ := p
  have hhandle : h = 0 ∨ h = 1 := by fin_cases h <;> decide
  simp only [List.mem_cons, Prod.mk.injEq, List.not_mem_nil, or_false, ← and_or_left, hhandle, and_true]

theorem allHandles_sorted : allHandles.Pairwise HandleOrder := by decide

theorem mem_allHandles (p : Desk × HandleNo) : p ∈ allHandles :=
  List.mem_flatMap.2 ⟨p.1, mem_allDesks p.1, (mem_handlesOf_iff p.1 p).2 rfl⟩

theorem reclaimOf_of_owes {s : State} {desk : Desk} (h : s.Owes desk) :
    ∃ x, s.IsFarthest (fun e => e = desk) x ∧ s.reclaimOf desk = some (s.reclaim x.1 x.2.1 x.2.2.1) := by
  obtain ⟨hquota, hahead⟩ := h
  rw [State.reclaimOf, if_pos hquota]
  exact reclaimAmong_of_isAhead (handlesOf_sorted desk) (mem_handlesOf_iff desk) hahead

theorem reclaimOf_eq_none {s : State} {desk : Desk} (h : ¬s.Owes desk) : s.reclaimOf desk = none := by
  unfold State.reclaimOf
  split
  next hquota =>
    exact reclaimAmong_eq_none (among := fun e => e = desk) (handlesOf_sorted desk) (mem_handlesOf_iff desk)
      fun hahead => h ⟨hquota, hahead⟩
  next => rfl

/-- The desk reclaim is that of the first waiting desk that owes one (R93, log 28). -/
theorem deskReclaim_of_owes {s : State} {w : Waiter} {before after : List Waiter} (hlist : s.pool.waiters = before ++ w :: after)
    (hw : s.Owes w.desk) (hbefore : ∀ x ∈ before, ¬s.Owes x.desk) :
    ∃ x, s.IsFarthest (fun e => e = w.desk) x ∧ s.deskReclaim = some (s.reclaim x.1 x.2.1 x.2.2.1) := by
  obtain ⟨x, hx, hreclaim⟩ := reclaimOf_of_owes hw
  refine ⟨x, hx, ?_⟩
  rw [deskReclaim_eq, List.findSome?_eq_some_iff]
  exact ⟨before, w, after, hlist, hreclaim, fun v hv => reclaimOf_eq_none (hbefore v hv)⟩

theorem deskReclaim_eq_none {s : State} (h : ∀ w ∈ s.pool.waiters, ¬s.Owes w.desk) : s.deskReclaim = none := by
  rw [deskReclaim_eq, List.findSome?_eq_none_iff]
  exact fun w hw => reclaimOf_eq_none (h w hw)

/-- No general page is free, and the sectors that the eligible waiters lack outnumber the awaited reclaims (R94). -/
def State.Pressed (s : State) : Prop :=
  (∀ p : PageNo, p.val < 56 → s.pool.pages[p] ≠ none) ∧ s.awaitedTotal < s.eligibleLacks

theorem pressed_iff (s : State) :
    ((s.freePageNo true).isNone && decide (s.awaitedTotal < s.eligibleLacks)) = true ↔ s.Pressed := by
  rw [Bool.and_eq_true, Option.isNone_iff_eq_none, freePageNo_true_eq_none_iff, decide_eq_true_iff, State.Pressed]

theorem poolReclaim_of_pressed {s : State} (hp : s.Pressed) (hahead : ∃ x, s.IsAhead x) :
    ∃ x, s.IsFarthest (fun _ => True) x ∧ s.poolReclaim = some (s.reclaim x.1 x.2.1 x.2.2.1) := by
  obtain ⟨x, hx⟩ := hahead
  rw [State.poolReclaim, if_pos ((pressed_iff s).2 hp)]
  exact reclaimAmong_of_isAhead allHandles_sorted (fun p => iff_true_intro (mem_allHandles p)) ⟨x, trivial, hx⟩

theorem poolReclaim_eq_none {s : State} (hno : ¬(s.Pressed ∧ ∃ x, s.IsAhead x)) : s.poolReclaim = none := by
  unfold State.poolReclaim
  split
  next hp =>
    exact reclaimAmong_eq_none (among := fun _ => True) allHandles_sorted (fun p => iff_true_intro (mem_allHandles p))
      fun ⟨x, _, hx⟩ => hno ⟨(pressed_iff s).1 hp, x, hx⟩
  next => rfl

/-! #### One grant or one reclaim (R88, R93, R94) -/

section ServeOnce
variable {s : State}

theorem serveOnce_of_grant {p : PageNo} {w : Waiter} (hp : s.freePageNo true = some p) (hw : s.nextWaiter = some w) :
    s.serveOnce = some (s.grantWaiter w p) := by
  rw [State.serveOnce, hp, hw]

/-- Where no page can be granted, the desk reclaim comes before the pool reclaim (log 28). -/
theorem serveOnce_of_no_grant (h : s.freePageNo true = none ∨ s.nextWaiter = none) :
    s.serveOnce = s.deskReclaim.or s.poolReclaim := by
  unfold State.serveOnce
  split
  next p w hp hw => rw [hp, hw] at h; simp at h
  next => cases s.deskReclaim <;> rfl

end ServeOnce

/-! #### A page reclaimed (R95) -/

theorem isPassing_iff (s : State) (d : DriveNo) (p : PageNo) :
    s.isPassing d p = true ↔ ∃ x, s.scheds[d].inHand = some ⟨x, .passing⟩ ∧ x.page = p := by
  unfold State.isPassing
  cases s.scheds[d].inHand with
  | none => simp
  | some x =>
    obtain ⟨r, phase⟩ := x
    cases phase <;> simp

section Reclaim
variable {s : State} {desk : Desk} {h : HandleNo} {r : ReadHandle} (hh : s.handle desk h = .reading r) {j : Nat}
include hh

theorem reclaim_of_absent (he : r.table.getD j .absent = .absent) :
    s.reclaim desk h j = s.setHandle desk h (.reading { r with table := r.table.set j .absent }) := by
  rw [State.reclaim, hh]
  simp only [he]
  rfl

theorem reclaim_of_present {p : PageNo} (he : r.table.getD j .absent = .present p) :
    s.reclaim desk h j = (s.setHandle desk h (.reading { r with table := r.table.set j .absent })).freePage p := by
  rw [State.reclaim, hh]
  simp only [he]
  rfl

theorem reclaim_of_reading {p : PageNo} (he : r.table.getD j .absent = .reading p)
    (hp : ¬∃ x, s.scheds[r.drive].inHand = some ⟨x, .passing⟩ ∧ x.page = p) :
    s.reclaim desk h j = (s.setHandle desk h (.reading { r with table := r.table.set j .absent })).withdraw r.drive p := by
  have hpassing : ¬(s.setHandle desk h (.reading { r with table := r.table.set j .absent })).isPassing r.drive p = true :=
    mt (isPassing_iff ..).1 hp
  rw [State.reclaim, hh]
  simp only [he, if_neg hpassing]

theorem reclaim_of_passing {p : PageNo} (he : r.table.getD j .absent = .reading p)
    (hp : ∃ x, s.scheds[r.drive].inHand = some ⟨x, .passing⟩ ∧ x.page = p) :
    s.reclaim desk h j =
      ((s.setHandle desk h (.reading { r with table := r.table.set j .absent })).setPage p
        ((s.pool.pages[p]).map (fun x => { x with awaited := true }))).withdraw r.drive p := by
  have hpassing : (s.setHandle desk h (.reading { r with table := r.table.set j .absent })).isPassing r.drive p = true :=
    (isPassing_iff ..).2 hp
  rw [State.reclaim, hh]
  simp only [he, if_pos hpassing]
  rfl

end Reclaim

/-! #### System pages (R90) -/

section System
variable {s : State} (n : Nat)

theorem serveSystemUpTo_of_grant {p : PageNo} {w : SystemWaiter} {rest : List SystemWaiter} (hp : s.freePageNo false = some p)
    (hw : s.pool.sysWaiters = w :: rest) : s.serveSystemUpTo (n + 1) = (s.grantSystem w p).serveSystemUpTo n := by
  rw [State.serveSystemUpTo, hp, hw]

theorem serveSystemUpTo_of_no_grant (h : s.freePageNo false = none ∨ s.pool.sysWaiters = []) : s.serveSystemUpTo n = s := by
  cases n with
  | zero => rfl
  | succ n =>
    unfold State.serveSystemUpTo
    split
    next p w rest hp hw => rw [hp, hw] at h; simp at h
    next => rfl

end System

/-- Settles O37: the pool's searches say what they find, a reclaim by the farthest page of the handles that it looks at. -/
theorem generalPagesGoToWaitersInOrder : Obligations.GeneralPagesGoToWaitersInOrder := by
  intro s ofKind held awaited eligible needed ahead farthest owes pressed
  have hheld (desk : Desk) (p : PageNo) : heldByDesk desk s.pool.pages[p] = held desk p := heldByDesk_eq desk _
  have hawaited (desk : Desk) :
      s.awaitedOf desk = ((List.finRange 64).filter (fun p => held desk p && awaited p)).length := by
    simp only [State.awaitedOf, hheld]
    rfl
  have howes (desk : Desk) : s.Owes desk ↔ owes desk := by
    rw [State.Owes, hawaited]
    rfl
  have hpressed : s.Pressed ↔ pressed := Iff.rfl
  refine ⟨freePageNo_eq_some_iff s, freePageNo_eq_none_iff s, fun _ _ => rfl, fun _ => rfl, fun desk => ?_,
    fun desk h r j js hh => ⟨fun p hp hq => askForGet_of_page hh j js (askNow_of_below hp hq),
      fun hno => askForGet_of_no_page hh j js (askNow_eq_none hno), rfl⟩,
    nextWaiter_eq_none_iff s, fun w => nextWaiter_eq_some, fun w j rest p hlacks => ?_, fun p w => serveOnce_of_grant,
    fun hno => ?_, fun n => ?_, rfl, rfl, fun desk h r j hh => ?_, fun n p w rest => serveSystemUpTo_of_grant n,
    serveSystemUpTo_of_no_grant, rfl⟩
  · simp only [State.holdings, hheld]
    rfl
  · intro waiters granted
    exact ⟨fun r => grantWaiter_of_reading hlacks p, fun v on h offset data => grantWaiter_of_writing hlacks p⟩
  · simp only [serveOnce_of_no_grant hno]
    refine ⟨fun w before after hlist hw hbefore => ?_, fun hdesks hp hahead => ?_, fun hdesks hp => ?_⟩
    · obtain ⟨x, hx, hreclaim⟩ := deskReclaim_of_owes hlist ((howes _).2 hw) fun v hv => mt (howes _).1 (hbefore v hv)
      exact ⟨x, hx, by rw [hreclaim]; rfl⟩
    · rw [deskReclaim_eq_none fun w hw => mt (howes _).1 (hdesks w hw), Option.none_or]
      exact poolReclaim_of_pressed (hpressed.2 hp) hahead
    · rw [deskReclaim_eq_none fun w hw => mt (howes _).1 (hdesks w hw), Option.none_or]
      exact poolReclaim_eq_none fun ⟨hpr, hahead⟩ => hp ⟨hpressed.1 hpr, hahead⟩
  · rw [State.serveUpTo]
    cases s.serveOnce <;> rfl
  · intro gone passing
    exact ⟨reclaim_of_absent hh, fun p => reclaim_of_present hh, fun p => reclaim_of_reading hh, fun p => reclaim_of_passing hh⟩

end Sys2Proof.Machine
end

section
namespace Sys2Proof.Machine

/-! ### Lookup and listing of stories (R96 to R98, R118, R119) -/

/-! #### The story slots in ascending order -/

theorem allSlots_pairwise : allSlots.Pairwise (fun m n => m < n) := by
  refine List.pairwise_flatMap.2 ⟨fun q _ => ?_, (List.sortedLT_finRange 29).pairwise.imp fun {p q} hpq m hm n hn => ?_⟩
  · simp [slotsOf, slotAt]
  · rw [mem_slotsOf_iff] at hm hn
    exact Fin.lt_def.2 (by omega)

theorem mem_allSlots (n : SlotNo) : n ∈ allSlots :=
  List.mem_flatMap.2 ⟨catalogueOf n, List.mem_finRange _, mem_slotsOf_iff.2 rfl⟩

theorem allSlots_eq_finRange : allSlots = List.finRange 232 :=
  allSlots_pairwise.eq_of_mem_iff (List.sortedLT_finRange 232).pairwise fun n => by simp only [mem_allSlots, List.mem_finRange]

/-! #### The lookup (R98) -/

section Lookup
variable (img : Image) (slug : Chars)

theorem lookup_eq_find? :
    img.lookup slug = Fin.find? (fun n : SlotNo => (img.slots[n]).state != .free && (img.slots[n]).slug == slug) := by
  rw [Fin.find?_eq_find?_finRange, ← allSlots_eq_finRange]
  rfl

/-- A slot that a lookup takes: it is in use, and the slug is its own. -/
theorem bearsSlug_iff (n : SlotNo) :
    ((img.slots[n]).state != .free && (img.slots[n]).slug == slug) = true ↔
      (img.slots[n]).state ≠ .free ∧ (img.slots[n]).slug = slug := by
  rw [Bool.and_eq_true, bne_iff_ne, beq_iff_eq]

theorem lookup_eq_some_iff (n : SlotNo) :
    img.lookup slug = some n ↔
      (img.slots[n]).state ≠ .free ∧ (img.slots[n]).slug = slug ∧
        ∀ m, m < n → (img.slots[m]).state ≠ .free → (img.slots[m]).slug ≠ slug := by
  simp only [lookup_eq_find?, Fin.find?_eq_some_iff, ← Bool.not_eq_true, bearsSlug_iff, not_and, and_assoc, ne_eq]

theorem lookup_eq_none_iff :
    img.lookup slug = none ↔ ∀ n : SlotNo, (img.slots[n]).state ≠ .free → (img.slots[n]).slug ≠ slug := by
  simp only [lookup_eq_find?, Fin.find?_eq_none_iff, ← Bool.not_eq_true, bearsSlug_iff, not_and, ne_eq]

theorem lookupFiled_eq_some_iff (n : SlotNo) :
    img.lookupFiled slug = some n ↔ img.lookup slug = some n ∧ (img.slots[n]).state = .filed := by
  unfold Image.lookupFiled
  cases img.lookup slug with
  | none => simp only [reduceCtorEq, false_and]
  | some m =>
    by_cases hm : (img.slots[m]).state = .filed
    · simp only [hm, beq_self_eq_true, if_true, Option.some.injEq]
      exact ⟨fun h => ⟨h, h ▸ hm⟩, And.left⟩
    · simp only [beq_iff_eq, if_neg hm, reduceCtorEq, Option.some.injEq, false_iff, not_and]
      rintro rfl
      exact hm

end Lookup

/-! #### The listing (R118) -/

theorem matchesList_iff (t : Slot) (start : Chars) (edition : Nat) :
    t.matchesList start edition = true ↔ t.state ≠ .free ∧ start <+: t.slug ∧ (16 ≤ edition ∨ t.edition = edition) := by
  simp only [Slot.matchesList, Bool.and_eq_true, bne_iff_ne, List.isPrefixOf_iff_prefix, Bool.or_eq_true, decide_eq_true_iff,
    beq_iff_eq, and_assoc]

/-- The matching slots are the one ascending list of them (R118). -/
theorem matching_eq {img : Image} {start : Chars} {edition least : Nat} {found : List SlotNo}
    (hasc : found.Pairwise (fun a b => a < b))
    (hmem : ∀ n : SlotNo, n ∈ found ↔
      least ≤ n.val ∧ (img.slots[n]).state ≠ .free ∧ start <+: (img.slots[n]).slug ∧
        (16 ≤ edition ∨ (img.slots[n]).edition = edition)) :
    img.matching start edition least = found := by
  refine (allSlots_pairwise.filter _).eq_of_mem_iff hasc fun n => ?_
  rw [List.mem_filter, hmem, Bool.and_eq_true, decide_eq_true_iff, matchesList_iff]
  exact and_iff_right (mem_allSlots n)

theorem listFlags_eq (t : Slot) :
    listFlags (t.state == .creating) t.pending.isSome =
      byteOf ((if t.state = .creating then 1 else 0) + (if t.pending.isSome then 2 else 0)) := by
  simp only [listFlags, flagBit, beq_iff_eq]

theorem listCursor_take (found : List SlotNo) :
    listCursor (found.take 3) =
      if 3 ≤ found.length then (match (found.take 3).getLast? with | some n => n.val + 1 | none => 232) else 232 := by
  have hlen : (found.take 3).length = min 3 found.length := List.length_take
  by_cases h : 3 ≤ found.length
  · exact (if_neg (by omega)).trans (if_pos h).symm
  · exact (if_pos (by omega)).trans (if_neg h).symm

section Requests
variable {s : State} {desk : Desk} (hl : s.listens desk)
include hl

theorem exec_list (db edition : Byte) {chars : List Byte} (hlong : chars.length ≤ 16) :
    exec (.list desk (db :: edition :: chars)) s = .next (s.listOwn desk (db :: edition :: chars)) := by
  have hlen : lenAllowed .list (db :: edition :: chars) = true :=
    lenAllowed_of_range (show 3 ≤ chars.length + 2 + 1 by omega) (show chars.length + 2 + 1 ≤ 19 by omega)
  exact congrArg Host.Outcome.next (powered_taking_of_listens hl (fun s => s.listOwn desk _) hlen rfl rfl)

theorem exec_listOn {d : DriveNo} {id : Nat} {start : Chars} {edition : Nat}
    (hc : s.desks[desk].continuation = .list d id start edition) : exec (.listOn desk []) s = .next (s.listOnOwn desk) :=
  congrArg Host.Outcome.next (powered_taking_of_listens hl (fun s => s.listOnOwn desk) rfl rfl (by rw [hc]; rfl))

end Requests

section Own
variable {s : State} {desk : Desk} {db edition : Byte} {chars : List Byte}

theorem listOwn_of_bad_slug (h : slugOf chars = none) :
    s.listOwn desk (db :: edition :: chars) = s.refuseKind desk .list .badSlug := by
  simp only [State.listOwn, h]

theorem listOwn_of_no_drive {start : Chars} (h : slugOf chars = some start) (hd : s.imageOf db = none) :
    s.listOwn desk (db :: edition :: chars) = s.refuseKind desk .list .noDrive := by
  simp only [State.listOwn, h, hd]

theorem listOwn_of_image {start : Chars} {d : DriveNo} {img : Image} (h : slugOf chars = some start)
    (hd : s.imageOf db = some (d, img)) :
    s.listOwn desk (db :: edition :: chars) = s.answerList desk .list d img start edition.toNat 0 := by
  simp only [State.listOwn, h, hd]

variable {d : DriveNo} {id : Nat} {start : Chars} {filter : Nat} (hc : s.desks[desk].continuation = .list d id start filter)
include hc

theorem listOnOwn_of_other_image (h : ∀ img, s.images[d] = some img → img.id ≠ id) :
    s.listOnOwn desk = s.refuseKind desk .listOn .noDrive := by
  unfold State.listOnOwn
  rw [hc]
  dsimp only
  split
  next => rfl
  next img hi => exact if_neg (h img hi)

theorem listOnOwn_of_image {img : Image} (hi : s.images[d] = some img) (hid : img.id = id) :
    s.listOnOwn desk = s.answerList desk .listOn d img start filter s.desks[desk].cursor := by
  unfold State.listOnOwn
  rw [hc]
  dsimp only
  rw [hi]
  exact if_pos hid

end Own

/-- Settles O9: the lookup is a search of the slots in ascending order, and a listing shows the one ascending list of the matches. -/
theorem storiesAreFoundAndListed : Obligations.StoriesAreFoundAndListed := by
  refine ⟨fun img slug => ⟨lookup_eq_some_iff img slug, lookup_eq_none_iff img slug, lookupFiled_eq_some_iff img slug⟩, ?_⟩
  intro desk s hl entry shows matching
  have hshows (k : Kind) (d : DriveNo) (img : Image) (start : Chars) (edition least : Nat) (found : List SlotNo)
      (hfound : matching img start edition least found) :
      s.answerList desk k d img start edition least = shows k.code d img start edition found := by
    have hentry (t : Slot) : t.listEntry = entry t := by
      simp only [Slot.listEntry, listFlags_eq]
      rfl
    simp only [State.answerList, matching_eq hfound.1 hfound.2, listCursor_take, hentry]
    rfl
  refine ⟨fun db edition chars hlong => ⟨fun h => ?_, fun start h hd => ?_, fun start d img found h hd hfound => ?_⟩,
    fun d id start edition hc => ⟨fun h => ?_, fun img found hi hid hfound => ?_⟩⟩
  · rw [exec_list hl _ _ hlong, listOwn_of_bad_slug h]; rfl
  · rw [exec_list hl _ _ hlong, listOwn_of_no_drive h hd]; rfl
  · rw [exec_list hl _ _ hlong, listOwn_of_image h hd, hshows .list d img start edition.toNat 0 found hfound]; rfl
  · rw [exec_listOn hl hc, listOnOwn_of_other_image hc h]; rfl
  · rw [exec_listOn hl hc, listOnOwn_of_image hc hi hid, hshows .listOn d img start edition _ found hfound]; rfl

end Sys2Proof.Machine
end

section
namespace Sys2Proof.Machine

/-! ### HOLD, RELEASE and SPIKE (R106 to R110, R117, R176) -/

/-! #### The story a request names (R96, R98, R186) -/

section Find
variable {s : State} {markMatters : Bool} {db : Byte} {chars : List Byte}

theorem findStory_of_bad_slug (h : slugOf chars = none) : s.findStory markMatters db chars = .error .badSlug := by
  simp only [State.findStory, h]

variable {slug : Chars} (h : slugOf chars = some slug)
include h

theorem findStory_of_no_drive (hd : s.imageOf db = none) : s.findStory markMatters db chars = .error .noDrive := by
  simp only [State.findStory, h, hd]

variable {d : DriveNo} {img : Image} (hd : s.imageOf db = some (d, img))
include hd

theorem findStory_of_unmounting (hm : (markMatters && img.unmounting) = true) :
    s.findStory markMatters db chars = .error .inUse := by
  simp only [State.findStory, h, hd, if_pos hm]

variable (hm : (markMatters && img.unmounting) = false)
include hm

theorem findStory_of_not_found (hn : img.lookupFiled slug = none) : s.findStory markMatters db chars = .error .notFound := by
  simp only [State.findStory, h, hd, hm, hn, Bool.false_eq_true, if_false]

theorem findStory_of_found {n : SlotNo} (hn : img.lookupFiled slug = some n) : s.findStory markMatters db chars = .ok (d, n) := by
  simp only [State.findStory, h, hd, hm, hn, Bool.false_eq_true, if_false]

end Find

section Requests
variable {s : State} {desk : Desk} {db : Byte} {chars : List Byte}

section Listening
variable (hl : s.listens desk) (hshort : 1 ≤ chars.length) (hlong : chars.length ≤ 16)
include hl hshort hlong

theorem exec_hold : exec (.hold desk (db :: chars)) s = .next (s.holdOwn desk (db :: chars)) := by
  have hlen : lenAllowed .hold (db :: chars) = true :=
    lenAllowed_of_range (show 3 ≤ chars.length + 1 + 1 by omega) (show chars.length + 1 + 1 ≤ 18 by omega)
  exact congrArg Host.Outcome.next (powered_taking_of_listens hl (fun s => s.holdOwn desk _) hlen rfl rfl)

theorem exec_release : exec (.release desk (db :: chars)) s = .next (s.releaseOwn desk (db :: chars)) := by
  have hlen : lenAllowed .release (db :: chars) = true :=
    lenAllowed_of_range (show 3 ≤ chars.length + 1 + 1 by omega) (show chars.length + 1 + 1 ≤ 18 by omega)
  exact congrArg Host.Outcome.next (powered_taking_of_listens hl (fun s => s.releaseOwn desk _) hlen rfl rfl)

theorem exec_spike (cls : Byte) : exec (.spike desk (db :: cls :: chars)) s = .next (s.spikeOwn desk (db :: cls :: chars)) := by
  have hlen : lenAllowed .spike (db :: cls :: chars) = true :=
    lenAllowed_of_range (show 4 ≤ chars.length + 2 + 1 by omega) (show chars.length + 2 + 1 ≤ 19 by omega)
  exact congrArg Host.Outcome.next (powered_taking_of_listens hl (fun s => s.spikeOwn desk _) hlen rfl rfl)

end Listening

theorem holdOwn_of_error {r : Reason} (h : s.findStory false db chars = .error r) :
    s.holdOwn desk (db :: chars) = s.refuse desk 0x30 noFlags r := by
  simp only [State.holdOwn, h]
  rfl

theorem holdOwn_of_found {d : DriveNo} {n : SlotNo} (h : s.findStory false db chars = .ok (d, n)) :
    s.holdOwn desk (db :: chars) = s.holdStory desk d n := by
  simp only [State.holdOwn, h]

theorem releaseOwn_of_error {r : Reason} (h : s.findStory false db chars = .error r) :
    s.releaseOwn desk (db :: chars) = s.refuse desk 0x31 noFlags r := by
  simp only [State.releaseOwn, h]
  rfl

theorem releaseOwn_of_found {d : DriveNo} {n : SlotNo} (h : s.findStory false db chars = .ok (d, n)) :
    s.releaseOwn desk (db :: chars) = s.releaseStory desk d n := by
  simp only [State.releaseOwn, h]

theorem spikeOwn_of_error {cls : Byte} {r : Reason} (h : s.findStory true db chars = .error r) :
    s.spikeOwn desk (db :: cls :: chars) = s.refuse desk 0x32 (loweredFlag (s.lowers desk cls)) r := by
  simp only [State.spikeOwn, h]
  rfl

section Found
variable {cls : Byte} {d : DriveNo} {n : SlotNo} (h : s.findStory true db chars = .ok (d, n))
include h

theorem spikeOwn_of_refused {r : Reason} (hr : s.spikeTest desk d n = some r) :
    s.spikeOwn desk (db :: cls :: chars) = s.refuse desk 0x32 (loweredFlag (s.lowers desk cls)) r := by
  simp only [State.spikeOwn, h, hr]
  rfl

theorem spikeOwn_of_passed (hr : s.spikeTest desk d n = none) :
    s.spikeOwn desk (db :: cls :: chars) =
      ((s.placeChange d n (.removal desk)).setInProgress desk (some (.spike d n (s.lowers desk cls)))).settle := by
  simp only [State.spikeOwn, h, hr]

end Found

end Requests

/-! #### The tests of a story that was found -/

theorem heldElsewhere_iff (t : Slot) (desk : Desk) : t.heldElsewhere desk = true ↔ ∃ e, t.holder = some e ∧ e ≠ desk := by
  unfold Slot.heldElsewhere
  cases t.holder with
  | none => simp
  | some e => simp

theorem beingRemoved_iff (t : Slot) : t.beingRemoved = true ↔ ∃ e, t.pending = some (.removal e) := by
  unfold Slot.beingRemoved
  split
  next e he => exact iff_of_true rfl ⟨e, he⟩
  next hno => exact iff_of_false Bool.false_ne_true fun ⟨e, he⟩ => hno e he

theorem tooManyHolds_iff (s : State) (desk : Desk) (t : Slot) :
    s.tooManyHolds desk t = true ↔ t.holder ≠ some desk ∧ 8 ≤ s.desks[desk].holds := by
  rw [State.tooManyHolds, Bool.and_eq_true, bne_iff_ne, decide_eq_true_iff]
  rfl

theorem readOnly_iff (u : DriveUnit) : u.readOnly = true ↔ u.isProtected = true ∨ u.damaged = true := by
  rw [DriveUnit.readOnly, Bool.or_eq_true]

theorem lowers_eq (s : State) (desk : Desk) (cls : Byte) :
    s.lowers desk cls = (decide (cls ≠ 0) && !s.deskSettings[desk].urgent) := by
  have hclass : (classOf cls == .urgent) = decide (cls ≠ 0) := by
    unfold classOf
    split
    next h => rw [eq_of_beq h]; rfl
    next h => rw [decide_eq_true (by simpa using h)]; rfl
  rw [State.lowers, hclass]

/-- The handle is open for writing on a slot. -/
def Handle.writesOn (d : DriveNo) (n : SlotNo) : Handle → Bool
  | .writing w => w.drive == d && w.slot == n
  | _ => false

theorem writesOn_iff (d : DriveNo) (n : SlotNo) (x : Handle) :
    x.writesOn d n = true ↔ ∃ w, x = .writing w ∧ w.drive = d ∧ w.slot = n := by
  cases x <;> simp [Handle.writesOn]

theorem deskWriterOn_eq (s : State) (desk : Desk) (d : DriveNo) (n : SlotNo) :
    s.deskWriterOn desk d n = [(0 : HandleNo), 1].any (fun h => (s.handle desk h).writesOn d n) := rfl

theorem writerOn_eq (s : State) (d : DriveNo) (n : SlotNo) :
    s.writerOn d n = allHandles.any (fun p => (s.handle p.1 p.2).writesOn d n) := rfl

theorem deskWriterOn_iff (s : State) (desk : Desk) (d : DriveNo) (n : SlotNo) :
    s.deskWriterOn desk d n = true ↔ ∃ h w, s.handle desk h = .writing w ∧ w.drive = d ∧ w.slot = n := by
  have hall : ∀ h : HandleNo, h ∈ [(0 : HandleNo), 1] := by decide
  simp only [deskWriterOn_eq, List.any_eq_true, writesOn_iff, hall, true_and]

theorem writerOn_iff (s : State) (d : DriveNo) (n : SlotNo) :
    s.writerOn d n = true ↔ ∃ e h w, s.handle e h = .writing w ∧ w.drive = d ∧ w.slot = n := by
  simp only [writerOn_eq, List.any_eq_true, writesOn_iff, mem_allHandles, true_and, Prod.exists]

/-! #### A hold ended, with its event and without (R106, R147) -/

section Holds
variable {s : State} {d : DriveNo} {n : SlotNo}

theorem dropHold_of_unheld (hh : (s.slot d n).holder = none) : s.dropHold d n = s := by
  unfold State.dropHold
  rw [hh]

theorem dropHold_of_held {e : Desk} (hh : (s.slot d n).holder = some e) :
    s.dropHold d n =
      (s.setSlot d n { s.slot d n with holder := none }).setDesk e { s.desks[e] with holds := s.desks[e].holds - 1 } := by
  unfold State.dropHold
  rw [hh]

theorem releaseWithEvent_of_unheld (hh : (s.slot d n).holder = none) : s.releaseWithEvent d n = s := by
  simp only [State.releaseWithEvent, hh]

theorem releaseWithEvent_of_held {e : Desk} (hh : (s.slot d n).holder = some e) :
    s.releaseWithEvent d n =
      ((s.setSlot d n { s.slot d n with holder := none }).setDesk e { s.desks[e] with holds := s.desks[e].holds - 1 }).raise
        (.released d (s.slot d n).slug e (s.slot d n).version) := by
  rw [← dropHold_of_held hh]
  simp only [State.releaseWithEvent, hh]

end Holds

/-! #### HOLD on its story (R107) -/

section Story
variable {s : State} {d : DriveNo} {img : Image} (hi : s.images[d] = some img) {n : SlotNo} {desk : Desk}
include hi

theorem holdStory_of_held_elsewhere (ho : ∃ e, (img.slots[n]).holder = some e ∧ e ≠ desk) :
    s.holdStory desk d n = s.refuse desk 0x30 noFlags .heldElsewhere := by
  rw [State.holdStory, slot_of_image hi]
  exact if_pos ((heldElsewhere_iff ..).2 ho)

section Unopposed
variable (ho : ¬∃ e, (img.slots[n]).holder = some e ∧ e ≠ desk)
include ho

theorem holdStory_of_removal (hr : ∃ e, (img.slots[n]).pending = some (.removal e)) :
    s.holdStory desk d n = s.refuse desk 0x30 noFlags .inUse := by
  rw [State.holdStory, slot_of_image hi]
  exact (if_neg (mt (heldElsewhere_iff ..).1 ho)).trans (if_pos ((beingRemoved_iff _).2 hr))

variable (hr : ¬∃ e, (img.slots[n]).pending = some (.removal e))
include hr

theorem holdStory_of_full (hf : (img.slots[n]).holder ≠ some desk ∧ 8 ≤ s.desks[desk].holds) :
    s.holdStory desk d n = s.refuse desk 0x30 noFlags .tooManyHolds := by
  rw [State.holdStory, slot_of_image hi]
  exact ((if_neg (mt (heldElsewhere_iff ..).1 ho)).trans (if_neg (mt (beingRemoved_iff _).1 hr))).trans
    (if_pos ((tooManyHolds_iff ..).2 hf))

theorem holdStory_of_room (hf : ¬((img.slots[n]).holder ≠ some desk ∧ 8 ≤ s.desks[desk].holds)) :
    s.holdStory desk d n =
      if (img.slots[n]).holder = some desk then s.done desk 0x30 noFlags [] .clear
      else (s.takeHoldWithEvent d n desk).done desk 0x30 noFlags [] .clear := by
  rw [State.holdStory, slot_of_image hi]
  exact ((if_neg (mt (heldElsewhere_iff ..).1 ho)).trans (if_neg (mt (beingRemoved_iff _).1 hr))).trans
    (if_neg (mt (tooManyHolds_iff ..).1 hf))

end Unopposed

theorem takeHoldWithEvent_of_image :
    s.takeHoldWithEvent d n desk =
      ((s.setImage d (some { img with slots := img.slots.set n { img.slots[n] with holder := some desk } })).setDesk desk
        { s.desks[desk] with holds := s.desks[desk].holds + 1 }).raise
          (.held d (img.slots[n]).slug desk (img.slots[n]).version) := by
  rw [State.takeHoldWithEvent, State.takeHold, slot_of_image hi, setSlot_of_image hi]
  rfl

/-! #### RELEASE of its story (R108) -/

theorem releaseStory_of_not_holder (hh : (img.slots[n]).holder ≠ some desk) :
    s.releaseStory desk d n = s.refuse desk 0x31 noFlags .notHolder := by
  rw [State.releaseStory, slot_of_image hi]
  exact if_pos hh

section Holder
variable (hh : (img.slots[n]).holder = some desk)
include hh

theorem releaseStory_of_writing (hw : ∃ h w, s.handle desk h = .writing w ∧ w.drive = d ∧ w.slot = n) :
    s.releaseStory desk d n = s.refuse desk 0x31 noFlags .inUse := by
  rw [State.releaseStory, slot_of_image hi]
  exact (if_neg (not_not.2 hh)).trans (if_pos ((deskWriterOn_iff ..).2 hw))

theorem releaseStory_of_not_writing (hw : ¬∃ h w, s.handle desk h = .writing w ∧ w.drive = d ∧ w.slot = n) :
    s.releaseStory desk d n =
      (((s.setImage d (some { img with slots := img.slots.set n { img.slots[n] with holder := none } })).setDesk desk
        { s.desks[desk] with holds := s.desks[desk].holds - 1 }).raise
          (.released d (img.slots[n]).slug desk (img.slots[n]).version)).done desk 0x31 noFlags [] .clear := by
  have hslot : (s.slot d n).holder = some desk := by rw [slot_of_image hi, hh]
  rw [State.releaseStory, if_neg (not_not.2 hslot), if_neg (mt (deskWriterOn_iff ..).1 hw), releaseWithEvent_of_held hslot,
    slot_of_image hi, setSlot_of_image hi]
  rfl

end Holder

/-! #### SPIKE of its story (R117) -/

/-- The three tests of a story that was found, in their order. -/
theorem spikeTest_of_image :
    s.spikeTest desk d n =
      if s.drives[d].readOnly then some .isProtected
      else if (img.slots[n]).heldElsewhere desk then some .heldElsewhere
      else if s.writerOn d n || (img.slots[n]).pending.isSome then some .inUse
      else none := by
  rw [State.spikeTest, slot_of_image hi]

theorem placeChange_of_image (c : Change) :
    s.placeChange d n c =
      (s.setImage d (some { img with slots := img.slots.set n { img.slots[n] with pending := some c, carried := false } })).markDirty d
        (catalogueOf n) := by
  rw [State.placeChange, slot_of_image hi, setSlot_of_image hi]
  rfl

end Story

/-- Settles O10: the refusals of the search for the story first, then those of the story that was found. -/
theorem holdAndReleaseClaimTheStory : Obligations.HoldAndReleaseClaimTheStory := by
  refine ⟨?_, ?_⟩
  · intro desk db chars s hl hshort hlong run no
    have refused {r : Reason} (h : s.findStory false db chars = .error r) : no r :=
      (exec_hold hl hshort hlong).trans (congrArg Host.Outcome.next (holdOwn_of_error h))
    refine ⟨fun h => refused (findStory_of_bad_slug h), fun slug h =>
      ⟨fun hd => refused (findStory_of_no_drive h hd), fun d img hd =>
        ⟨fun hn => refused (findStory_of_not_found h hd rfl hn), fun n hn => ?_⟩⟩⟩
    intro t others removal full
    obtain ⟨_, hi⟩ := imageOf_eq_some hd
    have hrun : run = .next (s.holdStory desk d n) :=
      (exec_hold hl hshort hlong).trans (congrArg Host.Outcome.next (holdOwn_of_found (findStory_of_found h hd rfl hn)))
    refine ⟨fun ho => ?_, fun ho hr => ?_, fun ho hr hf => ?_, fun hr hown => ?_, fun hr hfree hroom => ?_⟩
    · exact hrun.trans (congrArg _ (holdStory_of_held_elsewhere hi ho))
    · exact hrun.trans (congrArg _ (holdStory_of_removal hi ho hr))
    · exact hrun.trans (congrArg _ (holdStory_of_full hi ho hr hf))
    · have ho : ¬others := fun ⟨e, he, hne⟩ => hne (Option.some.inj (he.symm.trans hown))
      rw [hrun, holdStory_of_room hi ho hr fun hf => hf.1 hown, if_pos hown]
    · have ho : ¬others := fun ⟨e, he, _⟩ => Option.some_ne_none e (he.symm.trans hfree)
      have hnot : t.holder ≠ some desk := by rw [hfree]; exact nofun
      rw [hrun, holdStory_of_room hi ho hr fun hf => by omega, if_neg hnot, takeHoldWithEvent_of_image hi]
  · intro desk db chars s hl hshort hlong run no
    have refused {r : Reason} (h : s.findStory false db chars = .error r) : no r :=
      (exec_release hl hshort hlong).trans (congrArg Host.Outcome.next (releaseOwn_of_error h))
    refine ⟨fun h => refused (findStory_of_bad_slug h), fun slug h =>
      ⟨fun hd => refused (findStory_of_no_drive h hd), fun d img hd =>
        ⟨fun hn => refused (findStory_of_not_found h hd rfl hn), fun n hn => ?_⟩⟩⟩
    intro t writing
    obtain ⟨_, hi⟩ := imageOf_eq_some hd
    have hrun : run = .next (s.releaseStory desk d n) :=
      (exec_release hl hshort hlong).trans (congrArg Host.Outcome.next (releaseOwn_of_found (findStory_of_found h hd rfl hn)))
    exact ⟨fun hh => hrun.trans (congrArg _ (releaseStory_of_not_holder hi hh)),
      fun hh hw => hrun.trans (congrArg _ (releaseStory_of_writing hi hh hw)),
      fun hh hw => hrun.trans (congrArg _ (releaseStory_of_not_writing hi hh hw))⟩

/-- Settles O11: the refusals of the search for the story first, then those of the story that was found, each with the flag. -/
theorem spikePlacesARemoval : Obligations.SpikePlacesARemoval := by
  intro desk db cls chars s hl hshort hlong run lowered no
  have hlowered : s.lowers desk cls = lowered := lowers_eq s desk cls
  have refused {r : Reason} (h : s.findStory true db chars = .error r) : no r := by
    have hno := (exec_spike hl hshort hlong cls).trans (congrArg Host.Outcome.next (spikeOwn_of_error h))
    rw [hlowered] at hno
    exact hno
  refine ⟨fun h => refused (findStory_of_bad_slug h), fun slug h =>
    ⟨fun hd => refused (findStory_of_no_drive h hd), fun d img hd =>
      ⟨fun hu => refused (findStory_of_unmounting h hd hu), fun hu hn => refused (findStory_of_not_found h hd hu hn),
        fun n hu hn => ?_⟩⟩⟩
  intro t readOnly others busy
  obtain ⟨_, hi⟩ := imageOf_eq_some hd
  have hfound := findStory_of_found (markMatters := true) h hd hu hn
  have tested {r : Reason} (hr : s.spikeTest desk d n = some r) : no r := by
    have hno := (exec_spike hl hshort hlong cls).trans (congrArg Host.Outcome.next (spikeOwn_of_refused hfound hr))
    rw [hlowered] at hno
    exact hno
  have hreadOnly : s.drives[d].readOnly = true ↔ readOnly := readOnly_iff _
  have hothers : t.heldElsewhere desk = true ↔ others := heldElsewhere_iff t desk
  have hbusy : (s.writerOn d n || t.pending.isSome) = true ↔ busy := by
    rw [Bool.or_eq_true, writerOn_iff, or_comm]
  refine ⟨fun hp => tested ?_, fun hp ho => tested ?_, fun hp ho hb => tested ?_, fun hp ho hb => ?_⟩
  · rw [spikeTest_of_image hi, if_pos (hreadOnly.2 hp)]
  · rw [spikeTest_of_image hi, if_neg (mt hreadOnly.1 hp), if_pos (hothers.2 ho)]
  · rw [spikeTest_of_image hi, if_neg (mt hreadOnly.1 hp), if_neg (mt hothers.1 ho), if_pos (hbusy.2 hb)]
  · have hpassed : s.spikeTest desk d n = none := by
      rw [spikeTest_of_image hi, if_neg (mt hreadOnly.1 hp), if_neg (mt hothers.1 ho), if_neg (mt hbusy.1 hb)]
    have hrun : run = _ := (exec_spike hl hshort hlong cls).trans (congrArg Host.Outcome.next (spikeOwn_of_passed hfound hpassed))
    rw [hrun, placeChange_of_image hi, hlowered]

end Sys2Proof.Machine
end

section
namespace Sys2Proof.Machine

/-! ### Reservations (R100, R101) -/

/-! #### The sectors of extents -/

theorem sectorsOf_cons (e : Extent) (es : List Extent) : sectorsOf (e :: es) = List.range' e.start e.count ++ sectorsOf es := rfl

theorem length_sectorsOf (es : List Extent) : (sectorsOf es).length = totalCount es := by
  induction es with
  | nil => rfl
  | cons e es ih => rw [sectorsOf_cons, List.length_append, List.length_range', totalCount_cons, ih]

/-! #### The free sectors in their runs -/

/-- The free sectors from a place on, in ascending order (R100). -/
def freeFrom (pos : Nat) (allocated : List Nat) : List Nat :=
  (List.range' pos (Config.dataSectors - pos)).filter (fun l => !allocated.contains l)

theorem mem_freeFrom {pos : Nat} {allocated : List Nat} {l : Nat} (hpos : pos ≤ Config.dataSectors) :
    l ∈ freeFrom pos allocated ↔ pos ≤ l ∧ l < Config.dataSectors ∧ l ∉ allocated := by
  simp only [freeFrom, List.mem_filter, List.mem_range'_1, Bool.not_eq_true', List.contains_eq_mem, decide_eq_false_iff_not,
    Nat.add_sub_cancel' hpos, and_assoc]

theorem freeFrom_pairwise (pos : Nat) (allocated : List Nat) : (freeFrom pos allocated).Pairwise (fun a b => a < b) :=
  (List.pairwise_lt_range' 1).filter _

/-- Up to the first allocated sector every sector is free. -/
theorem freeFrom_cons {pos m : Nat} {ls : List Nat} (hle : pos ≤ m) (hlt : m < Config.dataSectors) (hm : ∀ l ∈ ls, m < l) :
    freeFrom pos (m :: ls) = List.range' pos (m - pos) ++ freeFrom (m + 1) ls := by
  have hsplit : List.range' pos (Config.dataSectors - pos) =
      List.range' pos (m - pos) ++ m :: List.range' (m + 1) (Config.dataSectors - (m + 1)) := by
    have hcount : Config.dataSectors - pos = (m - pos) + (Config.dataSectors - (m + 1) + 1) := by omega
    rw [hcount, ← List.range'_append_1, Nat.add_sub_cancel' hle, List.range'_succ]
  have hbelow : ∀ l ∈ List.range' pos (m - pos), (!(m :: ls).contains l) = true := fun l hl => by
    have hlm : l < m := by have := (List.mem_range'_1.1 hl).2; omega
    simp only [List.contains_eq_mem, List.mem_cons, Bool.not_eq_true', decide_eq_false_iff_not, not_or]
    exact ⟨Nat.ne_of_lt hlm, fun hmem => Nat.lt_asymm hlm (hm l hmem)⟩
  have habove : ∀ l ∈ List.range' (m + 1) (Config.dataSectors - (m + 1)), (!(m :: ls).contains l) = !ls.contains l := fun l hl => by
    have hlm : l ≠ m := by have := (List.mem_range'_1.1 hl).1; omega
    simp only [List.contains_eq_mem, List.mem_cons, hlm, false_or]
  rw [freeFrom, hsplit, List.filter_append, List.filter_eq_self.2 hbelow, List.filter_cons_of_neg (by simp), List.filter_congr habove]
  rfl

/-- The runs hold the free sectors, each once, in ascending order. -/
theorem sectorsOf_freeRuns {pos : Nat} {ls : List Nat} (hasc : ls.Pairwise (fun a b => a < b)) (hin : ∀ l ∈ ls, pos ≤ l)
    (hlt : ∀ l ∈ ls, l < Config.dataSectors) : sectorsOf (freeRuns pos ls) = freeFrom pos ls := by
  induction ls generalizing pos with
  | nil =>
    have hfree : freeFrom pos [] = List.range' pos (Config.dataSectors - pos) := List.filter_eq_self.2 fun _ _ => rfl
    rw [freeRuns, hfree]
    split
    · rw [sectorsOf_cons]; exact List.append_nil _
    · rw [Nat.sub_eq_zero_of_le (by omega)]; rfl
  | cons m ls ih =>
    obtain ⟨hm, hasc⟩ := List.pairwise_cons.1 hasc
    obtain ⟨hpos, -⟩ := List.forall_mem_cons.1 hin
    obtain ⟨hmlt, hlt⟩ := List.forall_mem_cons.1 hlt
    have hrest : sectorsOf (freeRuns (m + 1) ls) = freeFrom (m + 1) ls := ih hasc (fun l hl => hm l hl) hlt
    rw [freeFrom_cons hpos hmlt hm, freeRuns]
    split
    next => rw [sectorsOf_cons, hrest]
    next hge =>
      obtain rfl : m = pos := by omega
      rw [Nat.max_eq_right (Nat.le_succ m), hrest, Nat.sub_self]
      rfl

/-- Taking runs takes the lowest sectors. -/
theorem sectorsOf_takeRuns (n : Nat) (rs : List Extent) : sectorsOf (takeRuns n rs) = (sectorsOf rs).take n := by
  induction rs generalizing n with
  | nil => exact List.take_nil.symm
  | cons r rs ih =>
    rw [takeRuns, sectorsOf_cons]
    split
    next hn => rw [hn]; rfl
    next =>
      split
      next hle =>
        rw [List.take_append_of_le_length (by rwa [List.length_range']), List.take_range'_of_length_ge hle]
        exact List.append_nil _
      next hlt =>
        have hwhole : (List.range' r.start r.count).take n = List.range' r.start r.count :=
          List.take_of_length_le (by rw [List.length_range']; omega)
        rw [sectorsOf_cons, ih, List.take_append, List.length_range', hwhole]

/-! #### Where runs begin -/

/-- The extent is not empty and begins where a run of free sectors begins. -/
def Extent.Heads (allocated : List Nat) (e : Extent) : Prop := 1 ≤ e.count ∧ (e.start = 0 ∨ e.start - 1 ∈ allocated)

theorem freeRuns_start {pos : Nat} {ls : List Nat} {e : Extent} (he : e ∈ freeRuns pos ls) :
    1 ≤ e.count ∧ (e.start = pos ∨ e.start - 1 ∈ ls) := by
  induction ls generalizing pos with
  | nil =>
    rw [freeRuns] at he
    split at he
    next hlt =>
      obtain rfl := List.mem_singleton.1 he
      exact ⟨Nat.sub_pos_of_lt hlt, .inl rfl⟩
    next => cases he
  | cons m ls ih =>
    rw [freeRuns] at he
    split at he
    next hlt =>
      rcases List.mem_cons.1 he with rfl | he
      · exact ⟨Nat.sub_pos_of_lt hlt, .inl rfl⟩
      · obtain ⟨hcount, hstart⟩ := ih he
        refine ⟨hcount, .inr ?_⟩
        rcases hstart with hstart | hstart
        · rw [hstart]; exact List.mem_cons_self
        · exact List.mem_cons_of_mem _ hstart
    next hge =>
      obtain ⟨hcount, hstart⟩ := ih he
      refine ⟨hcount, ?_⟩
      rcases hstart with hstart | hstart
      · rcases Nat.lt_or_ge m pos with hlt | hle
        · exact .inl (hstart.trans (Nat.max_eq_left hlt))
        · rw [hstart, Nat.max_eq_right (by omega)]
          exact .inr List.mem_cons_self
      · exact .inr (List.mem_cons_of_mem _ hstart)

theorem freeRuns_heads {ls : List Nat} {e : Extent} (he : e ∈ freeRuns 0 ls) : e.Heads ls := freeRuns_start he

theorem takeRuns_heads {allocated : List Nat} {n : Nat} {rs : List Extent} (hr : ∀ e ∈ rs, e.Heads allocated) :
    ∀ e ∈ takeRuns n rs, e.Heads allocated := by
  induction rs generalizing n with
  | nil => exact fun _ he => nomatch he
  | cons r rs ih =>
    obtain ⟨⟨hcount, hstart⟩, hr⟩ := List.forall_mem_cons.1 hr
    rw [takeRuns]
    split
    next => exact fun _ he => nomatch he
    next hn =>
      split
      next => exact List.forall_mem_singleton.2 ⟨Nat.pos_of_ne_zero hn, hstart⟩
      next => exact List.forall_mem_cons.2 ⟨⟨hcount, hstart⟩, ih hr⟩

section Heads
variable {allocated : List Nat} {es : List Extent} (hheads : ∀ e ∈ es, e.Heads allocated)
  (hfree : ∀ l ∈ sectorsOf es, l ∉ allocated)
include hheads hfree

/-- As many sectors begin a run as there are extents. -/
theorem length_filter_begins :
    ((sectorsOf es).filter (fun l => l == 0 || allocated.contains (l - 1))).length = es.length := by
  induction es with
  | nil => rfl
  | cons e es ih =>
    obtain ⟨⟨hcount, hstart⟩, hheads⟩ := List.forall_mem_cons.1 hheads
    rw [sectorsOf_cons, List.forall_mem_append] at hfree
    obtain ⟨hown, hfree⟩ := hfree
    obtain ⟨c, hc⟩ : ∃ c, e.count = c + 1 := ⟨e.count - 1, by omega⟩
    rw [hc, List.range'_succ] at hown
    have hfirst : (e.start == 0 || allocated.contains (e.start - 1)) = true := by
      simpa only [Bool.or_eq_true, beq_iff_eq, List.contains_eq_mem, decide_eq_true_iff] using hstart
    have hothers : (List.range' (e.start + 1) c).filter (fun l => l == 0 || allocated.contains (l - 1)) = [] := by
      refine List.filter_eq_nil_iff.2 fun l hl => ?_
      have hl := List.mem_range'_1.1 hl
      have hbefore : l - 1 ∉ allocated := by
        refine hown (l - 1) ?_
        rw [← List.range'_succ]
        exact List.mem_range'_1.2 (by omega)
      have hne : l ≠ 0 := by omega
      simp only [Bool.or_eq_true, beq_iff_eq, hne, List.contains_eq_mem, decide_eq_true_iff, hbefore, or_self, not_false_eq_true]
    rw [sectorsOf_cons, hc, List.range'_succ, List.filter_append, List.filter_cons, if_pos hfirst, hothers, List.length_append,
      ih hheads hfree, List.length_singleton, List.length_cons, Nat.add_comm]

/-- An allocated sector lies before each extent but the first, so that no two run on into each other. -/
theorem pairwise_apart (hasc : (sectorsOf es).Pairwise (fun a b => a < b)) :
    es.Pairwise (fun a b => a.start + a.count < b.start) := by
  have hordered : es.Pairwise (fun a b => ∀ l ∈ a.sectors, ∀ m ∈ b.sectors, l < m) := (List.pairwise_flatMap.1 hasc).2
  refine hordered.imp_of_mem fun {a b} ha hb hab => ?_
  obtain ⟨hcount, -⟩ := hheads a ha
  obtain ⟨hcount', hstart⟩ := hheads b hb
  have hlast : a.start + a.count - 1 ∈ a.sectors := List.mem_range'_1.2 (by omega)
  have hfirst : b.start ∈ b.sectors := List.mem_range'_1.2 (by omega)
  have hlt := hab _ hlast _ hfirst
  rcases hstart with hstart | hstart
  · omega
  · have hne : a.start + a.count ≠ b.start := fun heq =>
      hfree _ (List.mem_flatMap.2 ⟨a, ha, hlast⟩) (by rw [heq]; exact hstart)
    omega

end Heads

/-- The lowest members of an ascending list: whatever lies below one of them is one of them. -/
theorem mem_take_of_lt {xs : List Nat} (hasc : xs.Pairwise (fun a b => a < b)) {n l m : Nat} (hl : l ∈ xs.take n) (hm : m ∈ xs)
    (hlt : m < l) : m ∈ xs.take n := by
  rw [← List.take_append_drop n xs, List.pairwise_append] at hasc
  rw [← List.take_append_drop n xs, List.mem_append] at hm
  obtain ⟨-, -, hcross⟩ := hasc
  exact hm.resolve_right fun hdrop => Nat.lt_asymm hlt (hcross l hl m hdrop)

/-! #### The reservation (R101) -/

/-- The extents that a reservation takes when it is granted. -/
def Image.lowestRuns (img : Image) (n : Nat) : List Extent := takeRuns n (freeRuns 0 img.allocated)

section Reserve
variable {img : Image} (hmap : img.mapSound)
include hmap

theorem sectorsOf_freeRuns_image : sectorsOf (freeRuns 0 img.allocated) = freeFrom 0 img.allocated :=
  sectorsOf_freeRuns hmap.1 (fun _ _ => Nat.zero_le _) hmap.2

variable (n : Nat)

theorem reserve_eq :
    img.reserve n =
      if (freeFrom 0 img.allocated).length < n then .error .diskFull
      else if 8 < (img.lowestRuns n).length then .error .fragmented else .ok (img.lowestRuns n) := by
  rw [← sectorsOf_freeRuns_image hmap, length_sectorsOf]
  rfl

theorem sectorsOf_lowestRuns : sectorsOf (img.lowestRuns n) = (freeFrom 0 img.allocated).take n := by
  rw [Image.lowestRuns, sectorsOf_takeRuns, sectorsOf_freeRuns_image hmap]

theorem lowestRuns_free : ∀ l ∈ sectorsOf (img.lowestRuns n), l < 2280 ∧ l ∉ img.allocated := by
  rw [sectorsOf_lowestRuns hmap]
  exact fun l hl => ((mem_freeFrom (Nat.zero_le _)).1 (List.mem_of_mem_take hl)).2

omit hmap in
theorem lowestRuns_heads : ∀ e ∈ img.lowestRuns n, e.Heads img.allocated := takeRuns_heads fun _ => freeRuns_heads

end Reserve

/-- Settles O51: the runs taken hold the lowest free sectors, and each begins where a run of free sectors begins. -/
theorem reservationGivesTheLowestFreeRuns : Obligations.ReservationGivesTheLowestFreeRuns := by
  intro img n hmap freeOnes runs free
  have hones : freeOnes = freeFrom 0 img.allocated := by
    simp only [freeOnes, List.range_eq_range']
    rfl
  have hfree := lowestRuns_free hmap n
  have hheads : ∀ e ∈ img.lowestRuns n, e.Heads img.allocated := lowestRuns_heads n
  have hsectors : sectorsOf (img.lowestRuns n) = freeOnes.take n := by rw [hones, sectorsOf_lowestRuns hmap]
  have hruns : (img.lowestRuns n).length = runs := by
    rw [← length_filter_begins hheads fun l hl => (hfree l hl).2, hsectors]
  have hreserve := reserve_eq hmap n
  rw [← hones, hruns] at hreserve
  by_cases hfull : freeOnes.length < n
  · rw [if_pos hfull] at hreserve
    rw [hreserve]
    refine ⟨iff_of_true rfl hfull, iff_of_false nofun fun h => Nat.not_lt.2 h.1 hfull, fun r hr => ?_, nofun⟩
    cases hr
    exact .inl rfl
  · rw [if_neg hfull] at hreserve
    by_cases hmany : 8 < runs
    · rw [if_pos hmany] at hreserve
      rw [hreserve]
      refine ⟨iff_of_false nofun hfull, iff_of_true rfl ⟨Nat.not_lt.1 hfull, hmany⟩, fun r hr => ?_, nofun⟩
      cases hr
      exact .inr rfl
    · rw [if_neg hmany] at hreserve
      rw [hreserve]
      refine ⟨iff_of_false nofun hfull, iff_of_false nofun fun h => hmany h.2, nofun, fun es hes => ?_⟩
      obtain rfl : img.lowestRuns n = es := Except.ok.inj hes
      have hasc : (freeFrom 0 img.allocated).Pairwise (fun a b => a < b) := freeFrom_pairwise 0 img.allocated
      have htaken : (sectorsOf (img.lowestRuns n)).Pairwise (fun a b => a < b) := by
        rw [sectorsOf_lowestRuns hmap]
        exact hasc.sublist (List.take_sublist _ _)
      refine ⟨by rw [hruns]; exact Nat.not_lt.1 hmany, ?_, fun e he => (hheads e he).1,
        pairwise_apart hheads (fun l hl => (hfree l hl).2) htaken, htaken, hfree, fun l m hl hm hlt => ?_⟩
      · rw [hsectors, List.length_take, Nat.min_eq_left (Nat.not_lt.1 hfull)]
      · rw [sectorsOf_lowestRuns hmap] at hl ⊢
        exact mem_take_of_lt hasc hl ((mem_freeFrom (Nat.zero_le _)).2 ⟨Nat.zero_le m, hm⟩) hlt

end Sys2Proof.Machine
end

section
namespace Sys2Proof.Machine

/-! ### Versions bound to readers, and reservations given back (R102 to R105) -/

/-! #### One part written twice, and an event beside the images -/

theorem setHandle_setHandle (s : State) (desk : Desk) (h : HandleNo) (x y : Handle) :
    (s.setHandle desk h x).setHandle desk h y = s.setHandle desk h y := by
  simp only [State.setHandle, Fin.getElem_fin, Vector.getElem_set_self, Vector.set_set]

theorem setSlot_setSlot (s : State) (d : DriveNo) (n : SlotNo) (x y : Slot) :
    (s.setSlot d n x).setSlot d n y = s.setSlot d n y := by
  have himage : (Image.setSlot · n y) ∘ (Image.setSlot · n x) = (Image.setSlot · n y) := by
    funext img
    simp only [Function.comp_apply, Image.setSlot, Vector.set_set]
  rw [State.setSlot, State.setSlot, images_setImage, setImage_setImage, Option.map_map, himage]
  rfl

theorem slot_setSlot {s : State} {d : DriveNo} {img : Image} (hi : s.images[d] = some img) (n : SlotNo) (x : Slot) :
    (s.setSlot d n x).slot d n = x := by
  rw [setSlot_of_image hi, slot_of_image (images_setImage ..)]
  exact Vector.getElem_set_self ..

theorem raise_images (s : State) (ev : Event) : (s.raise ev).images = s.images := by
  have h := raise_onDesks s ev
  unfold State.OnDesks at h
  rw [h]

theorem raise_setImage (s : State) (d : DriveNo) (x : Option Image) (ev : Event) :
    (s.setImage d x).raise ev = (s.raise ev).setImage d x := by
  have key (l : List Desk) : l.foldl (fun s desk => s.setDesk desk (s.desks[desk].meets ev)) (s.setImage d x) =
      (l.foldl (fun s desk => s.setDesk desk (s.desks[desk].meets ev)) s).setImage d x := by
    induction l generalizing s with
    | nil => rfl
    | cons e l ih => exact ih (s.setDesk e (s.desks[e].meets ev))
  exact key allDesks

theorem raise_setSlot (s : State) (d : DriveNo) (n : SlotNo) (x : Slot) (ev : Event) :
    (s.setSlot d n x).raise ev = (s.raise ev).setSlot d n x := by
  rw [State.setSlot, State.setSlot, raise_setImage, raise_images]

/-! #### Reservations given back (R102, R103) -/

theorem markFree_eq (img : Image) (ls : List Nat) :
    img.markFree ls = { img with allocated := img.allocated.filter (fun l => l ∉ ls) } := by
  simp only [Image.markFree, List.contains_eq_mem, decide_not]

/-- The sectors of the suspect list stay allocated. -/
theorem giveBack_eq (img : Image) (es : List Extent) :
    img.giveBack es = { img with allocated := img.allocated.filter (fun l => l ∉ sectorsOf es ∨ l ∈ img.suspect) } := by
  have hfreed (l : Nat) : l ∉ (sectorsOf es).filter (fun l => !img.suspect.contains l) ↔ l ∉ sectorsOf es ∨ l ∈ img.suspect := by
    simp only [List.mem_filter, Bool.not_eq_true', List.contains_eq_mem, decide_eq_false_iff_not, not_and, not_not, imp_iff_not_or]
  simp only [Image.giveBack, markFree_eq, hfreed]

section GiveBack
variable {s : State} {d : DriveNo} {img : Image} (hi : s.images[d] = some img) (es : List Extent)
include hi

theorem giveBack_of_image : s.giveBack d es = s.setImage d (some (img.giveBack es)) := by
  rw [State.giveBack, hi, Option.map_some]

theorem giveBack_slot (n : SlotNo) : (s.giveBack d es).slot d n = img.slots[n] := by
  rw [giveBack_of_image hi, slot_of_image (images_setImage ..)]
  rfl

end GiveBack

/-! #### Handles bound again (R104) -/

/-- Every handle bound to the current version of a slot becomes bound to a retired entry. -/
def State.rebindAll (s : State) (d : DriveNo) (n : SlotNo) (id : Nat) : State :=
  allHandles.foldl (fun s p => s.setHandle p.1 p.2 ((s.handle p.1 p.2).rebind d n id)) s

section Rebind
variable (s : State) (d : DriveNo) (n : SlotNo) (id : Nat)

theorem rebindAll_frame : s.rebindAll d n id = { s with handles := (s.rebindAll d n id).handles } := by
  have key (l : List (Desk × HandleNo)) (t : State) :
      ∃ handles, l.foldl (fun s p => s.setHandle p.1 p.2 ((s.handle p.1 p.2).rebind d n id)) t = { t with handles := handles } := by
    induction l generalizing t with
    | nil => exact ⟨t.handles, rfl⟩
    | cons p l ih =>
      obtain ⟨handles, h⟩ := ih (t.setHandle p.1 p.2 ((t.handle p.1 p.2).rebind d n id))
      exact ⟨handles, h⟩
  obtain ⟨handles, h⟩ := key allHandles s
  unfold State.rebindAll
  rw [h]

theorem rebind_reading (r : ReadHandle) :
    (Handle.reading r).rebind d n id =
      if r.drive = d ∧ r.slot = n ∧ r.binding = .current then .reading { r with binding := .retired id } else .reading r := by
  simp only [Handle.rebind, Bool.and_eq_true, beq_iff_eq, and_assoc]

/-- A handle bound to a retired entry is not bound again. -/
theorem rebind_rebind (x : Handle) : (x.rebind d n id).rebind d n id = x.rebind d n id := by
  cases x with
  | free | writing w | lost l => rfl
  | reading r =>
    rw [rebind_reading]
    split
    next => rw [rebind_reading, if_neg nofun]
    next h => rw [rebind_reading, if_neg h]

theorem rebindAll_handle (e : Desk) (h : HandleNo) : (s.rebindAll d n id).handle e h = (s.handle e h).rebind d n id := by
  have key (l : List (Desk × HandleNo)) (t : State) :
      (l.foldl (fun s p => s.setHandle p.1 p.2 ((s.handle p.1 p.2).rebind d n id)) t).handle e h =
        if (e, h) ∈ l then (t.handle e h).rebind d n id else t.handle e h := by
    induction l generalizing t with
    | nil => exact (if_neg List.not_mem_nil).symm
    | cons p l ih =>
      rw [List.foldl_cons, ih]
      by_cases hp : p.1 = e ∧ p.2 = h
      · obtain ⟨rfl, rfl⟩ := hp
        rw [State.setHandle_handle_self, rebind_rebind, ite_self, if_pos List.mem_cons_self]
      · have hne : (e, h) ≠ p := fun heq => hp ⟨congrArg Prod.fst heq.symm, congrArg Prod.snd heq.symm⟩
        rw [State.setHandle_handle_of_ne _ _ _ _ _ _ hp]
        simp only [List.mem_cons, hne, false_or]
  rw [State.rebindAll, key, if_pos (mem_allHandles _)]

end Rebind

/-! #### A version retired (R105) -/

/-- The image with the current version of a slot on the retired list and no reader of the slot's next version. -/
def Image.retires (img : Image) (n : SlotNo) : Image :=
  { img with retired := img.retired ++ [⟨img.nextRetired, (img.slots[n]).extents, (img.slots[n]).readers⟩],
             nextRetired := img.nextRetired + 1, slots := img.slots.set n { img.slots[n] with readers := 0 } }

section Retire
variable {s : State} {d : DriveNo} {img : Image} (hi : s.images[d] = some img) {n : SlotNo}
include hi

theorem retire_of_unread (hr : (img.slots[n]).readers = 0) :
    s.retire d n = s.setImage d (some (img.markFree (sectorsOf (img.slots[n]).extents))) := by
  simp only [State.retire, hi, if_pos hr]

theorem retire_of_read (hr : (img.slots[n]).readers ≠ 0) :
    s.retire d n = (s.setImage d (some (img.retires n))).rebindAll d n img.nextRetired := by
  simp only [State.retire, hi, if_neg hr]
  rfl

theorem retire_handle_of_read (hr : (img.slots[n]).readers ≠ 0) (e : Desk) (h : HandleNo) :
    (s.retire d n).handle e h = (s.handle e h).rebind d n img.nextRetired := by
  rw [retire_of_read hi hr, rebindAll_handle]
  rfl

/-- Whether it had readers or not, the slot of a version that is retired has none. -/
theorem retire_images : ∃ x : Image, (s.retire d n).images[d] = some x ∧ x.slots[n] = { img.slots[n] with readers := 0 } := by
  by_cases hr : (img.slots[n]).readers = 0
  · refine ⟨img.markFree (sectorsOf (img.slots[n]).extents), ?_, ?_⟩
    · rw [retire_of_unread hi hr, images_setImage]
    · rw [← hr]; rfl
  · refine ⟨img.retires n, ?_, Vector.getElem_set_self ..⟩
    rw [retire_of_read hi hr, rebindAll_frame]
    exact images_setImage ..

theorem retire_desks : (s.retire d n).desks = s.desks := by
  by_cases hr : (img.slots[n]).readers = 0
  · rw [retire_of_unread hi hr]; rfl
  · rw [retire_of_read hi hr, rebindAll_frame]; rfl

/-- Only read handles are bound again, so that no write handle loses the mark of its desk's reset. -/
theorem retire_resetSince (v : NewVersion) : (s.retire d n).resetSince v = s.resetSince v := by
  by_cases hr : (img.slots[n]).readers = 0
  · rw [retire_of_unread hi hr]; rfl
  · rw [State.resetSince, State.resetSince, retire_handle_of_read hi hr]
    cases s.handle v.desk v.handle with
    | free | writing w | lost l => rfl
    | reading r =>
      rw [rebind_reading]
      by_cases h : r.drive = d ∧ r.slot = n ∧ r.binding = .current
      · rw [if_pos h]
      · rw [if_neg h]

end Retire

/-! #### A binding given up (R104, R105) -/

section Unbind
variable {s : State} {d : DriveNo} {img : Image} (hi : s.images[d] = some img) (n : SlotNo)
include hi

theorem unbind_current :
    s.unbind d n .current =
      s.setImage d (some { img with slots := img.slots.set n { img.slots[n] with readers := (img.slots[n]).readers - 1 } }) := by
  simp only [State.unbind, hi]
  rfl

theorem unbind_of_unknown {id : Nat} (hno : ∀ x ∈ img.retired, x.id ≠ id) : s.unbind d n (.retired id) = s := by
  have hfind : img.retired.find? (fun r => r.id == id) = none := List.find?_eq_none.2 (by simpa using hno)
  simp only [State.unbind, hi, hfind]

section Known
variable {x : Retired} {before after : List Retired} (hlist : img.retired = before ++ x :: after)
  (hone : ∀ y ∈ before ++ after, y.id ≠ x.id)
include hlist hone

omit hi in
theorem find?_retired : img.retired.find? (fun r => r.id == x.id) = some x := by
  refine List.find?_eq_some_iff_append.2 ⟨beq_self_eq_true _, before, after, hlist, fun y hy => ?_⟩
  simpa using hone y (List.mem_append_left _ hy)

theorem unbind_of_last (hr : x.readers ≤ 1) :
    s.unbind d n (.retired x.id) =
      s.setImage d (some { img with retired := before ++ after,
                                    allocated := img.allocated.filter (fun l => l ∉ sectorsOf x.extents) }) := by
  have hrest : img.retired.filter (fun y => y.id != x.id) = before ++ after := by
    rw [hlist, List.filter_append, List.filter_cons_of_neg (by simp), ← List.filter_append]
    exact List.filter_eq_self.2 fun y hy => bne_iff_ne.2 (hone y hy)
  simp only [State.unbind, hi, find?_retired hlist hone, if_pos hr, hrest, markFree_eq]

theorem unbind_of_more (hr : 2 ≤ x.readers) :
    s.unbind d n (.retired x.id) =
      s.setImage d (some { img with retired := before ++ { x with readers := x.readers - 1 } :: after }) := by
  have hkeep (l : List Retired) (hl : ∀ y ∈ l, y.id ≠ x.id) :
      l.map (fun y => if y.id == x.id then { y with readers := y.readers - 1 } else y) = l :=
    (List.map_congr_left fun y hy => if_neg (by simpa using hl y hy)).trans (List.map_id l)
  have hfewer : img.retired.map (fun y => if y.id == x.id then { y with readers := y.readers - 1 } else y) =
      before ++ { x with readers := x.readers - 1 } :: after := by
    obtain ⟨hbefore, hafter⟩ := List.forall_mem_append.1 hone
    rw [hlist, List.map_append, List.map_cons, hkeep before hbefore, hkeep after hafter, if_pos (beq_self_eq_true _)]
  simp only [State.unbind, hi, find?_retired hlist hone, if_neg (Nat.not_le.2 hr), hfewer]

end Known

end Unbind

end Sys2Proof.Machine
end

section
namespace Sys2Proof.Machine

/-! ### The end of a catalogue-sector write (R106, R107, R112 to R115) -/

/-! #### What a slot's carried change comes to -/

section Slots
variable {s : State} {d : DriveNo} {n : SlotNo}

section Version
variable {v : NewVersion} (hc : (s.slot d n).carried = true) (hp : (s.slot d n).pending = some (.newVersion v))
include hc hp

theorem commitSlot_of_version : s.commitSlot d n = s.commitVersion d n v := by simp only [State.commitSlot, hc, hp]

theorem failSlot_of_version (r : Reason) : s.failSlot d r n = s.failVersion d n v r := by simp only [State.failSlot, hc, hp]

end Version

section Removal
variable {desk : Desk} (hc : (s.slot d n).carried = true) (hp : (s.slot d n).pending = some (.removal desk))
include hc hp

theorem commitSlot_of_removal : s.commitSlot d n = s.commitRemoval d n desk := by simp only [State.commitSlot, hc, hp]

theorem failSlot_of_removal (r : Reason) : s.failSlot d r n = s.failRemoval d n desk r := by simp only [State.failSlot, hc, hp]

end Removal

theorem commitSlot_of_uncarried (h : (s.slot d n).carried = false ∨ (s.slot d n).pending = none) : s.commitSlot d n = s := by
  rcases h with h | h
  · simp only [State.commitSlot, h]
  · cases hc : (s.slot d n).carried <;> simp only [State.commitSlot, h, hc]

theorem failSlot_of_uncarried (h : (s.slot d n).carried = false ∨ (s.slot d n).pending = none) (r : Reason) :
    s.failSlot d r n = s := by
  rcases h with h | h
  · simp only [State.failSlot, h]
  · cases hc : (s.slot d n).carried <;> simp only [State.failSlot, h, hc]

/-- A hold released with its event, and the slot then rewritten: the event sees the desks alone, so the slot is written once. -/
theorem setSlot_releaseWithEvent {e : Desk} (hh : (s.slot d n).holder = some e) (x : Slot) :
    (s.releaseWithEvent d n).setSlot d n x =
      ((s.setDesk e { s.desks[e] with holds := s.desks[e].holds - 1 }).raise
        (.released d (s.slot d n).slug e (s.slot d n).version)).setSlot d n x := by
  have hcomm (c : DeskContext) (y : Slot) : (s.setSlot d n y).setDesk e c = (s.setDesk e c).setSlot d n y := rfl
  rw [releaseWithEvent_of_held hh, hcomm, raise_setSlot, setSlot_setSlot]

end Slots

/-! #### Replies to the owner of a change -/

section Answers
variable {s : State} {desk : Desk} {mine : Waiting → Bool}

theorem answer_of_mine {w : Waiting} (hw : s.desks[desk].inProgress = some w) (hm : mine w = true) (fields : List Byte) (r : Reason) :
    s.answerDone desk mine fields = (s.setInProgress desk none).done desk w.kind.code w.flags fields .clear ∧
      s.answerFailed desk mine r = ((s.leaveWaiters desk).setInProgress desk none).fail desk w.kind.code w.flags r [] := by
  constructor
  · simp only [State.answerDone, hw, if_pos hm]
  · simp only [State.answerFailed, hw, if_pos hm]
    rfl

theorem answer_of_not_mine (hno : ∀ w, s.desks[desk].inProgress = some w → mine w = false) (fields : List Byte) (r : Reason) :
    s.answerDone desk mine fields = s ∧ s.answerFailed desk mine r = s := by
  cases hw : s.desks[desk].inProgress with
  | none => simp only [State.answerDone, State.answerFailed, hw, and_self]
  | some w => simp only [State.answerDone, State.answerFailed, hw, hno w hw, Bool.false_eq_true, if_false, and_self]

end Answers

theorem isFile_iff (h : HandleNo) (w : Waiting) : Waiting.isFile h w = true ↔ w = .file h := by
  cases w <;> simp [Waiting.isFile]

theorem isSpike_iff (d : DriveNo) (n : SlotNo) (w : Waiting) : Waiting.isSpike d n w = true ↔ ∃ lowered, w = .spike d n lowered := by
  cases w <;> simp [Waiting.isSpike]

/-! #### The write state afterwards (R114, R115) -/

section WriteOver
variable {s : State} {d : DriveNo} {img : Image} (hi : s.images[d] = some img) {q : CatNo} (p : PageNo)
include hi

theorem writeState_freePage : (s.freePage p).writeState d q = img.writes[q] := writeState_of_image hi q

theorem setWriteState_freePage (w : WriteState) :
    (s.freePage p).setWriteState d q w = (s.freePage p).setImage d (some { img with writes := img.writes.set q w }) :=
  setWriteState_of_image (s := s.freePage p) hi q w

theorem writeOver_of_writing (hw : img.writes[q] = .writing) :
    s.writeOver d q p = (s.freePage p).setImage d (some { img with writes := img.writes.set q .clean }) := by
  simp only [State.writeOver, writeState_freePage hi, hw, setWriteState_freePage hi]

theorem writeOver_of_writingDirty (hw : img.writes[q] = .writingDirty) :
    s.writeOver d q p =
      ((s.freePage p).setImage d (some { img with writes := img.writes.set q .dirty })).joinSystem (.catalogue d q) := by
  simp only [State.writeOver, writeState_freePage hi, hw, setWriteState_freePage hi]

theorem writeOver_of_other (hw : img.writes[q] = .clean ∨ img.writes[q] = .dirty) : s.writeOver d q p = s.freePage p := by
  rcases hw with hw | hw <;> simp only [State.writeOver, writeState_freePage hi, hw]

end WriteOver

/-! #### A carried new version (R112, R115) -/

theorem resetSince_iff (s : State) (v : NewVersion) :
    s.resetSince v = true ↔ ∃ w, s.handle v.desk v.handle = .writing w ∧ w.orphan = true := by
  unfold State.resetSince
  cases s.handle v.desk v.handle <;> simp

theorem commitReleases_iff (t : Slot) (v : NewVersion) (reset : Bool) :
    commitReleases t v reset = true ↔ v.keepHold = false ∧ t.holder = some v.desk ∧ ¬reset = true := by
  simp only [commitReleases, Bool.and_eq_true, Bool.not_eq_true', beq_iff_eq, Bool.not_eq_true]
  exact ⟨fun ⟨⟨hr, hk⟩, hh⟩ => ⟨hk, hh, hr⟩, fun ⟨hk, hh, hr⟩ => ⟨⟨hr, hk⟩, hh⟩⟩

/-- The state in which a new version takes its slot: the current version of a FILED slot retired or freed first (R105, R112). -/
def State.madeWay (s : State) (d : DriveNo) (n : SlotNo) : State := if (s.slot d n).state = .filed then s.retire d n else s

/-- The end of a commit: the handle FREE, the event, the reply (R112). -/
def State.tellsFiled (s : State) (d : DriveNo) (t : Slot) (v : NewVersion) (released : Bool) : State :=
  ((s.setHandle v.desk v.handle .free).raise (.filed d t.slug v.desk (versionAfter t v) v.first released)).answerDone v.desk
    (Waiting.isFile v.handle) (twoBytes (versionAfter t v))

section Version
variable {s : State} {d : DriveNo} {img : Image} (hi : s.images[d] = some img) {n : SlotNo} (v : NewVersion)
include hi

theorem madeWay_spec :
    (∃ x : Image, (s.madeWay d n).images[d] = some x ∧ ∃ k, x.slots[n] = { img.slots[n] with readers := k }) ∧
      (s.madeWay d n).desks = s.desks ∧ (s.madeWay d n).resetSince v = s.resetSince v := by
  unfold State.madeWay
  split
  next =>
    obtain ⟨x, hx, hslot⟩ := retire_images (n := n) hi
    exact ⟨⟨x, hx, 0, hslot⟩, retire_desks hi, retire_resetSince hi v⟩
  next => exact ⟨⟨img, hi, (img.slots[n]).readers, rfl⟩, rfl, rfl⟩

/-- The committed slot keeps its hold, and the commit ends what is left of it. -/
theorem commitVersion_eq :
    s.commitVersion d n v =
      let u := (s.madeWay d n).setSlot d n ((img.slots[n]).committed v)
      let released := commitReleases img.slots[n] v (s.resetSince v)
      (if released then u.dropHold d n else u).tellsFiled d img.slots[n] v released := by
  obtain ⟨⟨x, hx, k, hslot⟩, -, hreset⟩ := madeWay_spec (n := n) hi v
  have hslot : (s.madeWay d n).slot d n = { img.slots[n] with readers := k } := (slot_of_image hx n).trans hslot
  have hunfold : s.commitVersion d n v =
      let t := (s.madeWay d n).slot d n
      let u := (s.madeWay d n).setSlot d n (t.committed v)
      let released := commitReleases t v ((s.madeWay d n).resetSince v)
      (if released then u.dropHold d n else u).tellsFiled d t v released := rfl
  rw [hunfold, hslot, hreset]
  rfl

theorem commitVersion_keeping (hr : commitReleases img.slots[n] v (s.resetSince v) = false) :
    s.commitVersion d n v = ((s.madeWay d n).setSlot d n ((img.slots[n]).committed v)).tellsFiled d img.slots[n] v false := by
  rw [commitVersion_eq hi, hr]
  rfl

theorem commitVersion_releasing (hr : commitReleases img.slots[n] v (s.resetSince v) = true) :
    s.commitVersion d n v =
      (((s.madeWay d n).setSlot d n { (img.slots[n]).committed v with holder := none }).setDesk v.desk
        { s.desks[v.desk] with holds := s.desks[v.desk].holds - 1 }).tellsFiled d img.slots[n] v true := by
  obtain ⟨⟨x, hx, -⟩, hdesks, -⟩ := madeWay_spec (n := n) hi v
  obtain ⟨-, hholder, -⟩ := (commitReleases_iff ..).1 hr
  have hslot := slot_setSlot hx n ((img.slots[n]).committed v)
  have hheld : (((s.madeWay d n).setSlot d n ((img.slots[n]).committed v)).slot d n).holder = some v.desk := by
    rw [hslot]; exact hholder
  have hdesks : ((s.madeWay d n).setSlot d n ((img.slots[n]).committed v)).desks = s.desks := hdesks
  rw [commitVersion_eq hi, hr]
  dsimp only
  rw [if_pos rfl, dropHold_of_held hheld, hslot, setSlot_setSlot, hdesks]

/-- The reservation given back and the handle FREE: how the failure of a new version begins (R115). -/
def State.givenUp (s : State) (d : DriveNo) (v : NewVersion) : State := (s.giveBack d v.extents).setHandle v.desk v.handle .free

omit hi in
theorem failVersion_eq (r : Reason) :
    s.failVersion d n v r =
      (if ((s.givenUp d v).slot d n).state = .creating then (s.givenUp d v).freeCreating d n
        else (s.givenUp d v).setSlot d n { (s.givenUp d v).slot d n with pending := none, carried := false }).answerFailed v.desk
          (Waiting.isFile v.handle) r := rfl

theorem givenUp_slot : (s.givenUp d v).slot d n = img.slots[n] := giveBack_slot hi v.extents n

theorem failVersion_of_filed (hs : (img.slots[n]).state ≠ .creating) (r : Reason) :
    s.failVersion d n v r =
      ((s.givenUp d v).setSlot d n { img.slots[n] with pending := none, carried := false }).answerFailed v.desk
        (Waiting.isFile v.handle) r := by
  rw [failVersion_eq, givenUp_slot hi, if_neg hs]

theorem failVersion_of_unheld (hs : (img.slots[n]).state = .creating) (hh : (img.slots[n]).holder = none) (r : Reason) :
    s.failVersion d n v r = ((s.givenUp d v).setSlot d n Slot.free).answerFailed v.desk (Waiting.isFile v.handle) r := by
  rw [failVersion_eq, givenUp_slot hi, if_pos hs, State.freeCreating, releaseWithEvent_of_unheld (by rw [givenUp_slot hi, hh])]

theorem failVersion_of_held (hs : (img.slots[n]).state = .creating) {e : Desk} (hh : (img.slots[n]).holder = some e) (r : Reason) :
    s.failVersion d n v r =
      ((((s.givenUp d v).setDesk e { (s.givenUp d v).desks[e] with holds := (s.givenUp d v).desks[e].holds - 1 }).raise
        (.released d (img.slots[n]).slug e (img.slots[n]).version)).setSlot d n Slot.free).answerFailed v.desk
          (Waiting.isFile v.handle) r := by
  rw [failVersion_eq, givenUp_slot hi, if_pos hs, State.freeCreating, setSlot_releaseWithEvent (by rw [givenUp_slot hi, hh]),
    givenUp_slot hi]

end Version

/-! #### A carried removal (R113, R115) -/

section Removal
variable {s : State} {d : DriveNo} {img : Image} (hi : s.images[d] = some img) {n : SlotNo} (desk : Desk)
include hi

/-- The slot keeps all but its readers when its version is retired. -/
theorem retire_slot : (s.retire d n).slot d n = { img.slots[n] with readers := 0 } := by
  obtain ⟨x, hx, hslot⟩ := retire_images (n := n) hi
  exact (slot_of_image hx n).trans hslot

theorem commitRemoval_eq :
    s.commitRemoval d n desk =
      ((((s.retire d n).releaseWithEvent d n).setSlot d n Slot.free).raise
        (.spiked d (img.slots[n]).slug desk (img.slots[n]).version)).answerDone desk (Waiting.isSpike d n)
          (twoBytes (img.slots[n]).version) := by
  rw [State.commitRemoval, slot_of_image hi]

theorem commitRemoval_of_unheld (hh : (img.slots[n]).holder = none) :
    s.commitRemoval d n desk =
      (((s.retire d n).setSlot d n Slot.free).raise (.spiked d (img.slots[n]).slug desk (img.slots[n]).version)).answerDone desk
        (Waiting.isSpike d n) (twoBytes (img.slots[n]).version) := by
  rw [commitRemoval_eq hi, releaseWithEvent_of_unheld (by rw [retire_slot hi]; exact hh)]

theorem commitRemoval_of_held {e : Desk} (hh : (img.slots[n]).holder = some e) :
    s.commitRemoval d n desk =
      (((((s.retire d n).setDesk e { (s.retire d n).desks[e] with holds := (s.retire d n).desks[e].holds - 1 }).raise
        (.released d (img.slots[n]).slug e (img.slots[n]).version)).setSlot d n Slot.free).raise
          (.spiked d (img.slots[n]).slug desk (img.slots[n]).version)).answerDone desk (Waiting.isSpike d n)
            (twoBytes (img.slots[n]).version) := by
  rw [commitRemoval_eq hi, setSlot_releaseWithEvent (by rw [retire_slot hi]; exact hh), retire_slot hi]

theorem failRemoval_of_image (r : Reason) :
    s.failRemoval d n desk r =
      (s.setSlot d n { img.slots[n] with pending := none, carried := false }).answerFailed desk (Waiting.isSpike d n) r := by
  rw [State.failRemoval, slot_of_image hi]

end Removal

/-- Settles O41: the owner's turn first, then each carried change by its kind, then the replies and the write state. -/
theorem catalogueWritesCommitOrFailWhole : Obligations.CatalogueWritesCommitOrFailWhole := by
  refine ⟨?_, ?_,
    fun s desk mine fields r => ⟨fun w hw hm => answer_of_mine hw hm fields r, fun hno => answer_of_not_mine hno fields r⟩,
    fun w h d n => ⟨isFile_iff h w, isSpike_iff d n w⟩,
    fun s d img q p hi => ⟨writeOver_of_writing hi p, writeOver_of_writingDirty hi p, writeOver_of_other hi p⟩⟩
  · rintro s d q p r cause ho rfl rfl damaged
    refine ⟨?_, ?_, ?_, map_val_slotsOf q⟩
    · rw [State.ownerDone, ho]; rfl
    · rw [State.ownerFailed, ho]; rfl
    · rw [State.ownerProtected, ho]; rfl
  · intro s d img n r hi t dropped
    have hslot : s.slot d n = t := slot_of_image hi n
    refine ⟨fun h => ⟨commitSlot_of_uncarried (by rwa [hslot]), failSlot_of_uncarried (by rwa [hslot]) r⟩, fun v hc hp => ?_,
      fun desk hc hp => ?_⟩
    · intro number filed retired reset releases told
      have hcommit : s.commitSlot d n = s.commitVersion d n v := commitSlot_of_version (by rwa [hslot]) (by rwa [hslot])
      have hfail : s.failSlot d r n = s.failVersion d n v r := failSlot_of_version (by rwa [hslot]) (by rwa [hslot]) r
      have hretired : s.madeWay d n = retired := by rw [State.madeWay, hslot]
      have hreleases : commitReleases t v (s.resetSince v) = true ↔ releases := by rw [commitReleases_iff, resetSince_iff]
      refine ⟨fun hno => ?_, fun hyes => ?_, fun hs => ?_, fun hs hh => ?_, fun e hs hh => ?_⟩
      · rw [hcommit, commitVersion_keeping hi v (Bool.eq_false_iff.2 (mt hreleases.1 hno)), hretired]; rfl
      · rw [hcommit, commitVersion_releasing hi v (hreleases.2 hyes), hretired]; rfl
      · exact hfail.trans (failVersion_of_filed hi v hs r)
      · exact hfail.trans (failVersion_of_unheld hi v hs hh r)
      · exact hfail.trans (failVersion_of_held hi v hs hh r)
    · intro told
      have hcommit : s.commitSlot d n = s.commitRemoval d n desk := commitSlot_of_removal (by rwa [hslot]) (by rwa [hslot])
      have hfail : s.failSlot d r n = s.failRemoval d n desk r := failSlot_of_removal (by rwa [hslot]) (by rwa [hslot]) r
      exact ⟨fun hh => hcommit.trans (commitRemoval_of_unheld hi desk hh), fun e hh => hcommit.trans (commitRemoval_of_held hi desk hh),
        hfail.trans (failRemoval_of_image hi desk r)⟩

end Sys2Proof.Machine
end

section
namespace Sys2Proof.Machine

/-! ### Lost handles (R104, R141, R144, R145) -/

section FailOnHandle
variable {s : State} {desk : Desk} {h : HandleNo} {placed : Bool}

theorem failOnHandle_of_waiting {w : Waiting} (hw : s.desks[desk].inProgress = some w) (hon : w.handle = some h)
    (hnot : ¬(placed = true ∧ w = .file h)) (r : Reason) : s.failOnHandle desk h placed r = s.failWaiting desk w r [] := by
  have htest : (w.handle == some h && !(placed && w == .file h)) = true := by
    rw [hon, beq_self_eq_true, Bool.true_and, Bool.not_eq_true', Bool.eq_false_iff, ne_eq, Bool.and_eq_true, beq_iff_eq]
    exact hnot
  simp only [State.failOnHandle, hw, if_pos htest]

theorem failOnHandle_of_other
    (hno : ∀ w, s.desks[desk].inProgress = some w → w.handle ≠ some h ∨ (placed = true ∧ w = .file h)) (r : Reason) :
    s.failOnHandle desk h placed r = s := by
  cases hw : s.desks[desk].inProgress with
  | none => simp only [State.failOnHandle, hw]
  | some w =>
    have htest : ¬(w.handle == some h && !(placed && w == .file h)) = true := by
      rw [Bool.and_eq_true, beq_iff_eq, Bool.not_eq_true', Bool.eq_false_iff, ne_eq, Bool.and_eq_true, beq_iff_eq, not_and_or, not_not]
      exact hno w hw
    simp only [State.failOnHandle, hw, if_neg htest]

end FailOnHandle

/-- What a lost handle keeps of a read handle (R144). -/
def ReadHandle.lost (r : ReadHandle) (cause : Reason) : LostHandle :=
  { drive := r.drive, slot := r.slot, slug := r.slug, cls := r.cls, length := r.length, cause := cause }

/-- What a lost handle keeps of a write handle (R144). -/
def WriteHandle.lost (w : WriteHandle) (cause : Reason) : LostHandle :=
  { drive := w.drive, slot := w.slot, slug := w.slug, cls := w.cls, length := w.length, cause := cause }

/-- A write handle's pages and reservation given up, and in NEW mode its slot and hold (R143, R144). -/
def State.dropsStory (s : State) (w : WriteHandle) : State :=
  let given := (s.giveUpWrites w.drive w.table).giveBack w.drive w.reservation
  if w.mode = .new then (given.releaseWithEvent w.drive w.slot).setSlot w.drive w.slot Slot.free else given

theorem dropWrite_eq (s : State) (desk : Desk) (h : HandleNo) (w : WriteHandle) :
    s.dropWrite desk h w = (s.dropsStory w).setHandle desk h .free := by
  simp only [State.dropWrite, State.dropsStory, beq_iff_eq]
  rfl

section LoseHandle
variable {s : State} {desk : Desk} {h : HandleNo} (cause : Reason)

section Reading
variable {r : ReadHandle} (hh : s.handle desk h = .reading r)
include hh

theorem loseHandle_of_reading_withImage :
    s.loseHandle desk h cause .withImage =
      (((s.post desk (.handleLost desk h cause)).giveUpReads r.drive r.table).setHandle desk h (.lost (r.lost cause))).failOnHandle
        desk h false cause := by
  simp only [State.loseHandle, hh]
  rfl

theorem loseHandle_of_reading_imageStands :
    s.loseHandle desk h cause .imageStands =
      ((((s.post desk (.handleLost desk h cause)).giveUpReads r.drive r.table).unbind r.drive r.slot r.binding).setHandle desk h
        (.lost (r.lost cause))).failOnHandle desk h false cause := by
  rw [← setHandle_setHandle _ desk h .free]
  simp only [State.loseHandle, hh]
  rfl

end Reading

section Writing
variable {w : WriteHandle} (hh : s.handle desk h = .writing w)
include hh

section Present
variable (ho : w.orphan = false)
include ho

theorem loseHandle_of_writing_withImage :
    s.loseHandle desk h cause .withImage =
      (((s.post desk (.handleLost desk h cause)).giveUpWrites w.drive w.table).setHandle desk h (.lost (w.lost cause))).failOnHandle
        desk h w.placed cause := by
  simp only [State.loseHandle, hh, ho]
  rfl

theorem loseHandle_of_writing_imageStands :
    s.loseHandle desk h cause .imageStands =
      (((s.post desk (.handleLost desk h cause)).dropsStory w).setHandle desk h (.lost (w.lost cause))).failOnHandle
        desk h w.placed cause := by
  rw [← setHandle_setHandle _ desk h .free, ← dropWrite_eq]
  simp only [State.loseHandle, hh, ho]
  rfl

end Present

section Orphan
variable (ho : w.orphan = true)
include ho

theorem loseHandle_of_orphan_withImage :
    s.loseHandle desk h cause .withImage = (s.giveUpWrites w.drive w.table).setHandle desk h .free := by
  simp only [State.loseHandle, hh, ho]
  rfl

theorem loseHandle_of_orphan_imageStands :
    s.loseHandle desk h cause .imageStands = (s.dropsStory w).setHandle desk h .free := by
  rw [← setHandle_setHandle _ desk h .free, ← dropWrite_eq]
  simp only [State.loseHandle, hh, ho]
  rfl

end Orphan

end Writing

theorem loseHandle_of_not_open (hh : s.handle desk h = .free ∨ ∃ l, s.handle desk h = .lost l) (how : Loss) :
    s.loseHandle desk h cause how = s := by
  rcases hh with hh | ⟨l, hh⟩ <;> simp only [State.loseHandle, hh]

end LoseHandle

end Sys2Proof.Machine
end

section
namespace Sys2Proof.Machine

/-! ### An image discarded (R120, R153) -/

/-- A desk and its line, before and after the loss of some of its holds and of the changes that some requests wait for: a waiting
request that is asked for is answered FAILED DRIVE-LOST, any other waits on. -/
structure Bereaved (asked : Waiting → Prop) (holds : Nat) (x y : DeskContext × LineUnit) : Prop where
  holds : y.1.holds = x.1.holds - holds
  notices : y.1.notices = x.1.notices
  watches : y.1.watches = x.1.watches
  answered : ∀ w, x.1.inProgress = some w → asked w →
    y.1.inProgress = none ∧ y.1.continuation = .none ∧ y.1.cursor = 0 ∧
      y.2 = { x.2 with
        replies := x.2.replies ++ [⟨w.kind.code, .failed, some .driveLost, x.1.notices.length, w.flags, [], none⟩] }
  unasked : (∀ w, x.1.inProgress = some w → ¬asked w) →
    y.1.inProgress = x.1.inProgress ∧ y.1.continuation = x.1.continuation ∧ y.1.cursor = x.1.cursor ∧ y.2 = x.2

section Bereaved
variable {asked also : Waiting → Prop} {j k : Nat} {x y z : DeskContext × LineUnit}

theorem Bereaved.refl (x : DeskContext × LineUnit) : Bereaved (fun _ => False) 0 x x :=
  ⟨rfl, rfl, rfl, fun _ _ => False.elim, fun _ => ⟨rfl, rfl, rfl, rfl⟩⟩

theorem Bereaved.trans (h : Bereaved asked j x y) (g : Bereaved also k y z) : Bereaved (fun w => asked w ∨ also w) (j + k) x z where
  holds := by rw [g.holds, h.holds, Nat.sub_sub]
  notices := g.notices.trans h.notices
  watches := g.watches.trans h.watches
  answered w hw hasks := by
    by_cases ha : asked w
    · obtain ⟨hnone, hcont, hcur, hline⟩ := h.answered w hw ha
      obtain ⟨gnone, gcont, gcur, gline⟩ := g.unasked (by rw [hnone]; exact nofun)
      exact ⟨gnone.trans hnone, gcont.trans hcont, gcur.trans hcur, gline.trans hline⟩
    · obtain ⟨hsame, -, -, hline⟩ := h.unasked fun v hv => by
        obtain rfl : w = v := Option.some.inj (hw.symm.trans hv)
        exact ha
      obtain ⟨gnone, gcont, gcur, gline⟩ := g.answered w (hsame.trans hw) (hasks.resolve_left ha)
      exact ⟨gnone, gcont, gcur, by rw [gline, hline, h.notices]⟩
  unasked hno := by
    obtain ⟨hsame, hcont, hcur, hline⟩ := h.unasked fun w hw ha => hno w hw (.inl ha)
    obtain ⟨gsame, gcont, gcur, gline⟩ := g.unasked fun w hw ha => hno w (hsame ▸ hw) (.inr ha)
    exact ⟨gsame.trans hsame, gcont.trans hcont, gcur.trans hcur, gline.trans hline⟩

theorem Bereaved.of_iff (h : Bereaved asked k x y) (hiff : ∀ w, also w ↔ asked w) : Bereaved also k x y :=
  (funext fun w => propext (hiff w) : also = asked) ▸ h

end Bereaved

/-- A desk and its line. -/
def State.deskAndLine (s : State) (e : Desk) : DeskContext × LineUnit := (s.desks[e], s.lines[e])

/-- The requests of a desk that wait for the change on a slot: the FILE of a new version, the SPIKE of a removal (R109). -/
def Change.AskedBy (d : DriveNo) (n : SlotNo) (e : Desk) (w : Waiting) : Change → Prop
  | .newVersion v => v.desk = e ∧ w = .file v.handle
  | .removal desk => desk = e ∧ ∃ lowered, w = .spike d n lowered

section AnswerLost
variable {s : State} {d : DriveNo} {n : SlotNo}

theorem bereaved_of_failed {e : Desk} {w : Waiting} {asked : Waiting → Prop} (hw : s.desks[e].inProgress = some w) (ha : asked w) :
    Bereaved asked 0 (s.deskAndLine e) ((s.failWaiting e w .driveLost []).deskAndLine e) := by
  have hview : (s.failWaiting e w .driveLost []).deskAndLine e = (_, _) :=
    Prod.ext (failWaiting_desks_self s e w .driveLost []) (failWaiting_lines_self s e w .driveLost [])
  rw [hview]
  refine ⟨rfl, rfl, rfl, fun v hv _ => ?_, fun hno => absurd ha (hno w hw)⟩
  obtain rfl : w = v := Option.some.inj (hw.symm.trans hv)
  exact ⟨rfl, rfl, rfl, rfl⟩

/-- A desk that nothing is answered to. -/
theorem bereaved_of_same {e : Desk} {t : State} {asked : Waiting → Prop} (hsame : t.deskAndLine e = s.deskAndLine e)
    (hno : ∀ w, s.desks[e].inProgress = some w → ¬asked w) : Bereaved asked 0 (s.deskAndLine e) (t.deskAndLine e) := by
  rw [hsame]
  exact ⟨rfl, rfl, rfl, fun w hw ha => absurd ha (hno w hw), fun _ => ⟨rfl, rfl, rfl, rfl⟩⟩

theorem failWaiting_deskAndLine_of_ne {desk e : Desk} (w : Waiting) (r : Reason) (fields : List Byte) (hne : desk ≠ e) :
    (s.failWaiting desk w r fields).deskAndLine e = s.deskAndLine e :=
  Prod.ext (failWaiting_desks_of_ne s w r fields hne) (failWaiting_lines_of_ne s w r fields hne)

/-- The desk whose change it is. -/
def Change.desk : Change → Desk
  | .newVersion v => v.desk
  | .removal desk => desk

/-- The owner's request is answered if it waits still, and nothing else happens (R120). -/
theorem answerLost_cases (s : State) (d : DriveNo) (n : SlotNo) (c : Change) :
    (∃ w, s.desks[c.desk].inProgress = some w ∧ c.AskedBy d n c.desk w ∧
      s.answerLost d n c = s.failWaiting c.desk w .driveLost []) ∨
    (s.answerLost d n c = s ∧ ∀ w, s.desks[c.desk].inProgress = some w → ¬c.AskedBy d n c.desk w) := by
  cases c with
  | newVersion v =>
    unfold State.answerLost Change.desk Change.AskedBy
    dsimp only
    split
    next w hw =>
      split
      next hf => exact .inl ⟨w, hw, ⟨rfl, hf⟩, rfl⟩
      next hf =>
        refine .inr ⟨rfl, fun x hx ha => hf ?_⟩
        exact (Option.some.inj (hw.symm.trans hx)).trans ha.2
    next hnone => exact .inr ⟨rfl, fun w hw => by rw [hnone] at hw; cases hw⟩
  | removal desk =>
    unfold State.answerLost Change.desk Change.AskedBy
    dsimp only
    split
    next e m lowered hw =>
      split
      next hs =>
        obtain ⟨rfl, rfl⟩ := hs
        exact .inl ⟨_, hw, ⟨rfl, lowered, rfl⟩, rfl⟩
      next hs =>
        refine .inr ⟨rfl, fun x hx ⟨_, b, ha⟩ => hs ?_⟩
        have heq := (Option.some.inj (hw.symm.trans hx)).trans ha
        injection heq with he hm
        exact ⟨he, hm⟩
    next hno => exact .inr ⟨rfl, fun w hw ⟨_, b, ha⟩ => hno d n b (ha ▸ hw)⟩

theorem askedBy_desk {c : Change} {e : Desk} {w : Waiting} (h : c.AskedBy d n e w) : c.desk = e := by
  cases c <;> exact h.1

theorem bereaved_answerLost (c : Change) (e : Desk) :
    Bereaved (fun w => c.AskedBy d n e w) 0 (s.deskAndLine e) ((s.answerLost d n c).deskAndLine e) := by
  by_cases he : c.desk = e
  · subst he
    rcases answerLost_cases s d n c with ⟨w, hw, ha, heq⟩ | ⟨heq, hno⟩
    · rw [heq]; exact bereaved_of_failed hw ha
    · exact bereaved_of_same (by rw [heq]) hno
  · refine bereaved_of_same ?_ fun w _ ha => he (askedBy_desk ha)
    rcases answerLost_cases s d n c with ⟨w, -, -, heq⟩ | ⟨heq, -⟩
    · rw [heq]; exact failWaiting_deskAndLine_of_ne w _ _ he
    · rw [heq]

theorem answerLost_slot (c : Change) : (s.answerLost d n c).slot = s.slot := by
  rcases answerLost_cases s d n c with ⟨w, -, -, heq⟩ | ⟨heq, -⟩ <;> rw [heq]
  rfl

end AnswerLost

/-! #### One slot of the image -/

section DiscardSlot
variable {s : State} {d : DriveNo} {n : SlotNo}

/-- A hold that vanishes tells nobody (R120). -/
theorem bereaved_dropHold (e : Desk) :
    Bereaved (fun _ => False) (if (s.slot d n).holder = some e then 1 else 0) (s.deskAndLine e) ((s.dropHold d n).deskAndLine e) := by
  cases hh : (s.slot d n).holder with
  | none =>
    rw [dropHold_of_unheld hh, if_neg nofun]
    exact .refl _
  | some a =>
    rw [dropHold_of_held hh]
    by_cases hae : a = e
    · subst hae
      rw [if_pos rfl]
      have hdesk := setDesk_desks_self (s.setSlot d n { s.slot d n with holder := none }) a
        { s.desks[a] with holds := s.desks[a].holds - 1 }
      simp only [State.deskAndLine, hdesk]
      exact ⟨rfl, rfl, rfl, fun _ _ => False.elim, fun _ => ⟨rfl, rfl, rfl, rfl⟩⟩
    · rw [if_neg fun h => hae (Option.some.inj h)]
      have hdesk := setDesk_desks_of_ne (s.setSlot d n { s.slot d n with holder := none })
        { s.desks[a] with holds := s.desks[a].holds - 1 } hae
      exact bereaved_of_same (Prod.ext hdesk rfl) fun _ _ => id

/-- What one slot of a discarded image means to a desk: its pending change and its hold. -/
theorem bereaved_discardSlot {t : Slot} (ht : s.slot d n = t) (e : Desk) :
    Bereaved (fun w => ∃ c, t.pending = some c ∧ c.AskedBy d n e w) (if t.holder = some e then 1 else 0) (s.deskAndLine e)
      ((s.discardSlot d n).deskAndLine e) := by
  unfold State.discardSlot
  rw [ht]
  cases hp : t.pending with
  | none =>
    have hdrop := bereaved_dropHold (s := s) (d := d) (n := n) e
    rw [ht] at hdrop
    exact hdrop.of_iff fun w => iff_of_false (fun ⟨c, hc, _⟩ => nomatch hc) id
  | some c =>
    have hdrop := bereaved_dropHold (s := s.answerLost d n c) (d := d) (n := n) e
    rw [answerLost_slot, ht] at hdrop
    have hboth := (bereaved_answerLost (s := s) (d := d) (n := n) c e).trans hdrop
    rw [Nat.zero_add] at hboth
    refine hboth.of_iff fun w => ?_
    rw [or_false]
    exact ⟨fun ⟨c', hc', ha⟩ => Option.some.inj hc' ▸ ha, fun ha => ⟨c, rfl, ha⟩⟩

theorem slot_setSlot_of_ne {m : SlotNo} (hne : n ≠ m) (x : Slot) : (s.setSlot d n x).slot d m = s.slot d m := by
  cases hi : s.images[d] with
  | none => simp only [State.setSlot, State.slot, images_setImage, hi, Option.map_none]
  | some img =>
    rw [setSlot_of_image hi, slot_of_image hi, slot_of_image (images_setImage ..)]
    exact Vector.getElem_set_ne n.isLt m.isLt fun h => hne (Fin.ext h)

theorem discardSlot_slot_of_ne {m : SlotNo} (hne : n ≠ m) : (s.discardSlot d n).slot d m = s.slot d m := by
  have hdrop (u : State) : (u.dropHold d n).slot d m = u.slot d m := by
    cases hh : (u.slot d n).holder with
    | none => rw [dropHold_of_unheld hh]
    | some e => rw [dropHold_of_held hh, State.setDesk_slot, slot_setSlot_of_ne hne]
  unfold State.discardSlot
  cases (s.slot d n).pending with
  | none => exact hdrop s
  | some c => exact (hdrop _).trans (by rw [answerLost_slot])

/-! #### All slots of the image -/

/-- The slots that are still to come stand as they were, so that each is met with its own change and hold. -/
theorem bereaved_discardSlots {slots : Vector Slot 232} (ns : List SlotNo) (hnodup : ns.Nodup) (hns : ∀ m ∈ ns, s.slot d m = slots[m])
    (e : Desk) :
    Bereaved (fun w => ∃ m ∈ ns, ∃ c, (slots[m]).pending = some c ∧ c.AskedBy d m e w)
      (ns.filter (fun m => (slots[m]).holder = some e)).length (s.deskAndLine e)
      ((ns.foldl (fun s m => State.discardSlot s d m) s).deskAndLine e) := by
  induction ns generalizing s with
  | nil => exact (Bereaved.refl _).of_iff fun w => iff_of_false (fun ⟨_, hm, _⟩ => nomatch hm) id
  | cons n ns ih =>
    obtain ⟨hnot, hnodup⟩ := List.nodup_cons.1 hnodup
    obtain ⟨hn, hns⟩ := List.forall_mem_cons.1 hns
    have hrest := ih (s := s.discardSlot d n) hnodup fun m hm => by
      have hne : n ≠ m := fun heq => hnot (heq.symm ▸ hm)
      rw [discardSlot_slot_of_ne hne]
      exact hns m hm
    have hboth := (bereaved_discardSlot hn e).trans hrest
    have hcount : (if (slots[n]).holder = some e then 1 else 0) + (ns.filter (fun m => (slots[m]).holder = some e)).length =
        ((n :: ns).filter (fun m => (slots[m]).holder = some e)).length := by
      by_cases hh : (slots[n]).holder = some e
      · rw [if_pos hh, List.filter_cons_of_pos (by simpa using hh), List.length_cons, Nat.add_comm]
      · rw [if_neg hh, List.filter_cons_of_neg (by simpa using hh), Nat.zero_add]
    rw [hcount] at hboth
    exact hboth.of_iff fun w => by simp only [List.mem_cons, exists_eq_or_imp]

end DiscardSlot

/-! #### The watches (R153) -/

theorem returned_eq (d : DriveNo) (w : Watch) : w.returned d = if w.drive = d then { w with matched := none } else w := by
  simp only [Watch.returned, beq_iff_eq]

theorem watchesReturned_getElem (c : DeskContext) (d : DriveNo) (i : WatchNo) :
    ((c.watchesReturned d).watches)[i] = ((c.watches)[i]).map (Watch.returned d) := by
  unfold DeskContext.watchesReturned
  fin_cases i <;> simp

theorem returnWatches_desks (s : State) (d : DriveNo) (e : Desk) :
    (s.returnWatches d).desks[e] = s.desks[e].watchesReturned d :=
  foldl_allDesks_view (view := fun s e => s.desks[e]) (g := fun _ c => c.watchesReturned d) (I := fun _ => True) (fun _ _ => id)
    (fun s a _ => setDesk_desks_self s a _) (fun s _ _ _ hne => setDesk_desks_of_ne s _ hne) trivial e

theorem returnWatches_lines (s : State) (d : DriveNo) : (s.returnWatches d).lines = s.lines := by
  have key (l : List Desk) (t : State) : (l.foldl (fun s desk => s.setDesk desk (s.desks[desk].watchesReturned d)) t).lines = t.lines := by
    induction l generalizing t with
    | nil => rfl
    | cons a l ih => exact ih _
  exact key allDesks s

/-! #### The whole image -/

/-- The slots that a discarded image has something to end of. -/
def Image.concerned (img : Image) : List SlotNo :=
  allSlots.filter (fun n => (img.slots[n]).pending.isSome || (img.slots[n]).holder.isSome)

/-- The requests of a desk that wait for the changes on an image's slots. -/
def Image.AskedBy (img : Image) (d : DriveNo) (e : Desk) (w : Waiting) : Prop :=
  ∃ (n : SlotNo) (c : Change), (img.slots[n]).pending = some c ∧ c.AskedBy d n e w

section Discard
variable {s : State} {d : DriveNo}

theorem discardImage_of_no_image (hnone : s.images[d] = none) : s.discardImage d = s := by
  simp only [State.discardImage, hnone]

theorem discardImage_images : (s.discardImage d).images = s.images.set d none := by
  refine Vector.ext fun i hlt => ?_
  by_cases hd : i = d.val
  · subst hd
    rw [Vector.getElem_set_self]
    exact discardImage_images_self s d
  · rw [Vector.getElem_set_ne _ _ fun h => hd h.symm]
    exact (beside_discardImage (.refl d True s)).images ⟨i, hlt⟩ fun h => hd (congrArg Fin.val h)

theorem discardImage_drives : (s.discardImage d).drives = s.drives := by
  rw [(beside_discardImage (.refl d True s)).frame]

theorem discardImage_handles : (s.discardImage d).handles = s.handles := ((beside_discardImage (.refl d True s)).quiet trivial).1

variable {img : Image} (hi : s.images[d] = some img)
include hi

theorem discardImage_of_image :
    s.discardImage d = ((img.concerned.foldl (fun s n => State.discardSlot s d n) s).returnWatches d).setImage d none := by
  simp only [State.discardImage, hi]
  rfl

/-- The slots passed over have neither a change nor a hold. -/
theorem bereaved_concerned (e : Desk) :
    Bereaved (img.AskedBy d e) ((List.finRange 232).filter (fun n => (img.slots[n]).holder = some e)).length (s.deskAndLine e)
      ((img.concerned.foldl (fun s n => State.discardSlot s d n) s).deskAndLine e) := by
  have hnodup : img.concerned.Nodup := by
    rw [Image.concerned, allSlots_eq_finRange]
    exact (List.nodup_finRange 232).filter _
  have hall := bereaved_discardSlots (slots := img.slots) img.concerned hnodup (fun m _ => slot_of_image hi m) e
  have hcount : img.concerned.filter (fun m => (img.slots[m]).holder = some e) =
      (List.finRange 232).filter (fun n => (img.slots[n]).holder = some e) := by
    rw [Image.concerned, allSlots_eq_finRange, List.filter_filter]
    refine List.filter_congr fun m _ => ?_
    by_cases hh : (img.slots[m]).holder = some e
    · rw [decide_eq_true hh, hh, Option.isSome_some, Bool.or_true, Bool.and_true]
    · rw [decide_eq_false hh, Bool.false_and]
  rw [hcount] at hall
  refine hall.of_iff fun w => ⟨fun ⟨n, c, hc, ha⟩ => ⟨n, ?_, c, hc, ha⟩, fun ⟨n, _, c, hc, ha⟩ => ⟨n, c, hc, ha⟩⟩
  exact List.mem_filter.2 ⟨mem_allSlots n, by rw [hc]; rfl⟩

/-- After the slots only the watches change. -/
theorem discardImage_deskAndLine (e : Desk) :
    (s.discardImage d).desks[e] = (img.concerned.foldl (fun s n => State.discardSlot s d n) s).desks[e].watchesReturned d ∧
      (s.discardImage d).lines[e] = (img.concerned.foldl (fun s n => State.discardSlot s d n) s).lines[e] := by
  rw [discardImage_of_image hi]
  generalize img.concerned.foldl (fun s n => State.discardSlot s d n) s = u
  exact ⟨by rw [State.setImage_desks, returnWatches_desks], by rw [State.setImage_lines, returnWatches_lines]⟩

end Discard

/-- They are FILEs of its new versions and SPIKEs of its slots. -/
theorem askedBy_iff (img : Image) (d : DriveNo) (e : Desk) (w : Waiting) :
    img.AskedBy d e w ↔
      (∃ (n : SlotNo) (v : NewVersion), (img.slots[n]).pending = some (.newVersion v) ∧ v.desk = e ∧ w = .file v.handle) ∨
        ∃ (n : SlotNo) (lowered : Bool), (img.slots[n]).pending = some (.removal e) ∧ w = .spike d n lowered := by
  constructor
  · rintro ⟨n, c, hc, ha⟩
    cases c with
    | newVersion v => exact .inl ⟨n, v, hc, ha⟩
    | removal desk =>
      obtain ⟨rfl, lowered, hw⟩ := ha
      exact .inr ⟨n, lowered, hc, hw⟩
  · rintro (⟨n, v, hc, ha⟩ | ⟨n, lowered, hc, hw⟩)
    · exact ⟨n, .newVersion v, hc, ha⟩
    · exact ⟨n, .removal e, hc, rfl, lowered, hw⟩

/-- Settles O42: the versions by the image's record, a lost handle by its state, an image slot by slot as each desk sees it. -/
theorem lossesAndVersionsBoundToReaders : Obligations.LossesAndVersionsBoundToReaders := by
  refine ⟨?_, ?_, ?_⟩
  · intro s d img n hi t freed becomes
    refine ⟨fun hr => ?_, fun hr => ?_, unbind_current hi n, fun id => unbind_of_unknown hi n,
      fun x before after hlist hone => ⟨unbind_of_last hi n hlist hone, unbind_of_more hi n hlist hone⟩, fun es => ?_⟩
    · rw [retire_of_unread hi hr, markFree_eq]
    · refine ⟨?_, fun e h => ?_⟩
      · rw [retire_of_read hi hr]
        exact rebindAll_frame ..
      · rw [retire_handle_of_read hi hr]
        cases s.handle e h with
        | free | writing w | lost l => rfl
        | reading r => exact rebind_reading d n img.nextRetired r
    · rw [giveBack_of_image hi, giveBack_eq]
  · intro s desk h cause told lost
    refine ⟨fun r hh => ⟨loseHandle_of_reading_withImage cause hh, loseHandle_of_reading_imageStands cause hh⟩,
      fun w hh => ⟨fun ho => ⟨loseHandle_of_writing_withImage cause hh ho, loseHandle_of_writing_imageStands cause hh ho⟩,
        fun ho => ⟨loseHandle_of_orphan_withImage cause hh ho, loseHandle_of_orphan_imageStands cause hh ho⟩⟩,
      fun how hh => loseHandle_of_not_open cause hh how,
      fun placed => ⟨fun w hw hon hnot => failOnHandle_of_waiting hw hon hnot cause, fun hno => failOnHandle_of_other hno cause⟩⟩
  · intro s d t
    refine ⟨discardImage_of_no_image, fun img hi =>
      ⟨discardImage_images, discardImage_drives, discardImage_handles, fun desk => ?_⟩⟩
    intro owner c
    obtain ⟨hdesk, hline⟩ := discardImage_deskAndLine hi desk
    have hslots := (bereaved_concerned hi desk).of_iff fun w => (askedBy_iff img d desk w).symm
    have hdesk : t.desks[desk] = _ := hdesk
    have hline : t.lines[desk] = _ := hline
    refine ⟨?_, ?_, fun i => ?_, fun w hw ho => ?_, fun hno => ?_⟩
    · rw [hdesk]; exact hslots.holds
    · rw [hdesk]; exact hslots.notices
    · rw [hdesk, watchesReturned_getElem, funext (returned_eq d)]
      exact congrArg (fun v : Vector (Option Watch) 4 => (v[i]).map _) hslots.watches
    · rw [hdesk, hline]; exact hslots.answered w hw ho
    · obtain ⟨hsame, hcont, -, hkept⟩ := hslots.unasked hno
      rw [hdesk, hline]
      exact ⟨hsame, hcont, hkept⟩

end Sys2Proof.Machine
end

section
namespace Sys2Proof.Machine

/-! ### CLOSE and DROP (R122, R131, R143) -/

section Listening
variable {s : State} {desk : Desk} (hl : s.listens desk)
include hl

theorem exec_close (hb : Byte) : exec (.close desk [hb]) s = .next (s.closeOwn desk [hb]) :=
  congrArg Host.Outcome.next (powered_taking_of_listens hl (fun s => s.closeOwn desk _) rfl rfl rfl)

theorem exec_drop (hb : Byte) : exec (.drop desk [hb]) s = .next (s.dropOwn desk [hb]) :=
  congrArg Host.Outcome.next (powered_taking_of_listens hl (fun s => s.dropOwn desk _) rfl rfl rfl)

end Listening

section Own
variable (s : State) (desk : Desk)

theorem closeOwn_byteOf (h : HandleNo) : s.closeOwn desk [byteOf h.val] = s.closeOf desk h := by
  simp only [State.closeOwn, handleOf_byteOf]

theorem dropOwn_byteOf (h : HandleNo) : s.dropOwn desk [byteOf h.val] = s.dropOf desk h := by
  simp only [State.dropOwn, handleOf_byteOf]

variable {hb : Byte} (h : 1 < hb.toNat)
include h

theorem closeOwn_of_bad_handle : s.closeOwn desk [hb] = s.refuse desk 0x28 noFlags .badHandle := by
  simp only [State.closeOwn, handleOf_eq_none h]
  rfl

theorem dropOwn_of_bad_handle : s.dropOwn desk [hb] = s.refuse desk 0x27 noFlags .badHandle := by
  simp only [State.dropOwn, handleOf_eq_none h]
  rfl

end Own

/-! #### CLOSE and DROP on a handle in each state (R122) -/

section OfHandle
variable {s : State} {desk : Desk} {h : HandleNo}

theorem closeOf_of_free (hh : s.handle desk h = .free) : s.closeOf desk h = s.refuse desk 0x28 noFlags .badHandle := by
  rw [State.closeOf, hh]; rfl

theorem dropOf_of_free (hh : s.handle desk h = .free) : s.dropOf desk h = s.refuse desk 0x27 noFlags .badHandle := by
  rw [State.dropOf, hh]; rfl

theorem closeOf_of_lost {l : LostHandle} (hh : s.handle desk h = .lost l) :
    s.closeOf desk h = (s.setHandle desk h .free).done desk 0x28 noFlags [] .clear := by
  rw [State.closeOf, hh]; rfl

theorem dropOf_of_lost {l : LostHandle} (hh : s.handle desk h = .lost l) :
    s.dropOf desk h = (s.setHandle desk h .free).done desk 0x27 noFlags [] .clear := by
  rw [State.dropOf, hh]; rfl

theorem closeOf_of_reading {r : ReadHandle} (hh : s.handle desk h = .reading r) :
    s.closeOf desk h = ((s.closeRead desk h r).done desk 0x28 noFlags [] .clear).settle := by
  rw [State.closeOf, hh]; rfl

theorem dropOf_of_reading {r : ReadHandle} (hh : s.handle desk h = .reading r) :
    s.dropOf desk h = s.refuse desk 0x27 noFlags .badHandle := by
  rw [State.dropOf, hh]; rfl

variable {w : WriteHandle} (hh : s.handle desk h = .writing w)
include hh

theorem closeOf_of_writing : s.closeOf desk h = s.refuse desk 0x28 noFlags .badHandle := by
  rw [State.closeOf, hh]; rfl

theorem dropOf_of_committing (hw : w.state = .committing) : s.dropOf desk h = s.refuse desk 0x27 noFlags .badHandle := by
  simp only [State.dropOf, hh, hw]; rfl

/-- A handle that is WRITE-OPEN or FAILED is dropped. -/
theorem dropOf_of_not_committing (hw : w.state ≠ .committing) :
    s.dropOf desk h = ((s.dropWrite desk h w).done desk 0x27 noFlags [] .clear).settle := by
  cases hstate : w.state with
  | committing => exact absurd hstate hw
  | isOpen => simp only [State.dropOf, hh, hstate]; rfl
  | failed cause => simp only [State.dropOf, hh, hstate]; rfl

end OfHandle

/-- Settles O14: the handle's state decides; a write handle that may be dropped is given up as `dropWrite_eq` says. -/
theorem closeAndDropFreeTheHandle : Obligations.CloseAndDropFreeTheHandle := by
  refine ⟨?_, fun desk hb s hl hhb => ⟨?_, ?_⟩⟩
  · intro desk h s hl close drop noClose noDrop
    have hclose : close = .next (s.closeOf desk h) := by rw [← closeOwn_byteOf]; exact exec_close hl _
    have hdrop : drop = .next (s.dropOf desk h) := by rw [← dropOwn_byteOf]; exact exec_drop hl _
    refine ⟨fun hh => ⟨?_, ?_⟩, fun l hh => ⟨?_, ?_⟩, fun r hh => ⟨?_, ?_⟩, fun w hh => ⟨?_, fun hw => ?_, fun hw => ?_⟩⟩
    · exact hclose.trans (congrArg _ (closeOf_of_free hh))
    · exact hdrop.trans (congrArg _ (dropOf_of_free hh))
    · exact hclose.trans (congrArg _ (closeOf_of_lost hh))
    · exact hdrop.trans (congrArg _ (dropOf_of_lost hh))
    · exact hdrop.trans (congrArg _ (dropOf_of_reading hh))
    · exact hclose.trans (congrArg _ (closeOf_of_reading hh))
    · exact hclose.trans (congrArg _ (closeOf_of_writing hh))
    · exact hdrop.trans (congrArg _ (dropOf_of_committing hh hw))
    · rw [hdrop, dropOf_of_not_committing hh hw, dropWrite_eq]
      rfl
  · rw [exec_close hl, closeOwn_of_bad_handle s desk hhb]
  · rw [exec_drop hl, dropOwn_of_bad_handle s desk hhb]

end Sys2Proof.Machine
end

section
namespace Sys2Proof.Machine

/-! ### FILE (R122, R142) -/

theorem exec_file {s : State} {desk : Desk} (hl : s.listens desk) (hb c1 c0 keep : Byte) :
    exec (.file desk [hb, c1, c0, keep]) s = .next (s.fileOwn desk [hb, c1, c0, keep]) :=
  congrArg Host.Outcome.next (powered_taking_of_listens hl (fun s => s.fileOwn desk _) rfl rfl rfl)

theorem fileOwn_byteOf (s : State) (desk : Desk) (h : HandleNo) (c1 c0 keep : Byte) :
    s.fileOwn desk [byteOf h.val, c1, c0, keep] = s.fileOf desk h (checkOfTwo c1 c0) keep := by
  simp only [State.fileOwn, handleOf_byteOf]

theorem fileOwn_of_bad_handle (s : State) (desk : Desk) {hb : Byte} (h : 1 < hb.toNat) (c1 c0 keep : Byte) :
    s.fileOwn desk [hb, c1, c0, keep] = s.refuse desk 0x26 noFlags .badHandle := by
  simp only [State.fileOwn, handleOf_eq_none h]
  rfl

/-- Of the two choices a FILE may name, 1 keeps the hold (R142). -/
theorem keepHold_eq {keep : Byte} (h : keep.toNat ≤ 1) : (keep != 0) = decide (keep = 1) := by
  obtain rfl | rfl : keep = 0 ∨ keep = 1 := by bv_omega
  · rfl
  · rfl

section OfHandle
variable {s : State} {desk : Desk} {h : HandleNo} (check : Check) (keep : Byte)

theorem fileOf_of_free (hh : s.handle desk h = .free) :
    s.fileOf desk h check keep = s.refuse desk 0x26 noFlags .badHandle := by
  rw [State.fileOf, hh]; rfl

theorem fileOf_of_reading {r : ReadHandle} (hh : s.handle desk h = .reading r) :
    s.fileOf desk h check keep = s.refuse desk 0x26 noFlags .badHandle := by
  rw [State.fileOf, hh]; rfl

theorem fileOf_of_lost {l : LostHandle} (hh : s.handle desk h = .lost l) :
    s.fileOf desk h check keep = s.fail desk 0x26 noFlags l.cause [] := by
  rw [State.fileOf, hh]; rfl

variable {w : WriteHandle} (hh : s.handle desk h = .writing w)
include hh

theorem fileOf_of_committing (hw : w.state = .committing) :
    s.fileOf desk h check keep = s.refuse desk 0x26 noFlags .badHandle := by
  simp only [State.fileOf, hh, hw]; rfl

theorem fileOf_of_failed {c : Reason} (hw : w.state = .failed c) :
    s.fileOf desk h check keep = s.fail desk 0x26 noFlags c [] := by
  simp only [State.fileOf, hh, hw]; rfl

theorem fileOf_of_open (hw : w.state = .isOpen) : s.fileOf desk h check keep = s.fileOpen desk h w check keep := by
  simp only [State.fileOf, hh, hw]

end OfHandle

/-- A write handle whose FILE has been taken (R142). -/
def WriteHandle.committing (w : WriteHandle) (keepHold : Bool) : WriteHandle := { w with state := .committing, keepHold := keepHold }

/-- FILE waits on a handle that is COMMITTING (R142). -/
def State.fileWaits (s : State) (desk : Desk) (h : HandleNo) (w : WriteHandle) (keepHold : Bool) : State :=
  (s.setHandle desk h (.writing (w.committing keepHold))).setInProgress desk (some (.file h))

section OfOpenHandle
variable {s : State} {w : WriteHandle} {check : Check} {keep : Byte} (desk : Desk) (h : HandleNo)

theorem fileOpen_of_refused {r : Reason} (ht : s.fileTest w check keep = some r) :
    s.fileOpen desk h w check keep = s.refuse desk 0x26 noFlags r := by
  rw [State.fileOpen, ht]; rfl

theorem fileOpen_of_passed (ht : s.fileTest w check keep = none) :
    s.fileOpen desk h w check keep = ((s.fileWaits desk h w (keep != 0)).placeVersion desk h).settle := by
  rw [State.fileOpen, ht]; rfl

variable (s w) (keepHold : Bool)

theorem fileWaits_handle_self : (s.fileWaits desk h w keepHold).handle desk h = .writing (w.committing keepHold) := by
  rw [State.fileWaits, State.setInProgress, State.setDesk_handle, State.setHandle_handle_self]

theorem fileWaits_slot (d : DriveNo) (n : SlotNo) : (s.fileWaits desk h w keepHold).slot d n = s.slot d n := rfl

variable {s w}

/-- While a sector is still to be written the version is not placed. -/
theorem placeVersion_fileWaits_of_unwritten (hu : ∃ e ∈ w.table, e ≠ .written) :
    (s.fileWaits desk h w keepHold).placeVersion desk h = s.fileWaits desk h w keepHold :=
  placeVersion_of_not_due (fileWaits_handle_self s w desk h keepHold) fun ⟨_, _, hall⟩ =>
    let ⟨e, he, hne⟩ := hu
    hne (hall e he)

theorem placeVersion_fileWaits_of_written (hp : w.placed = false) (hall : ∀ e ∈ w.table, e = .written) :
    (s.fileWaits desk h w keepHold).placeVersion desk h =
      ((s.fileWaits desk h w keepHold).setHandle desk h (.writing { w.committing keepHold with placed := true })).placeChange w.drive
        w.slot (.newVersion ((w.committing keepHold).newVersion desk h ((s.slot w.drive w.slot).state == .creating))) := by
  rw [placeVersion_of_due (fileWaits_handle_self s w desk h keepHold) ⟨rfl, hp, hall⟩, fileWaits_slot]
  rfl

end OfOpenHandle

/-- Settles O17: the handle's state, then the four tests in their order; the version goes to its slot when none is left to write. -/
theorem fileCommitsOrIsRefused : Obligations.FileCommitsOrIsRefused := by
  refine ⟨?_, fun desk hb c1 c0 keep s hl hhb => ?_⟩
  · intro desk h c1 c0 keep s hl run no
    have hrun : run = .next (s.fileOf desk h (checkOfTwo c1 c0) keep) := by
      rw [← fileOwn_byteOf]; exact exec_file hl ..
    refine ⟨fun hh => ?_, fun r hh => ?_, fun l hh => ?_, fun w hh => ⟨fun hw => ?_, fun c hw => ?_, fun hw => ?_⟩⟩
    · exact hrun.trans (congrArg _ (fileOf_of_free _ keep hh))
    · exact hrun.trans (congrArg _ (fileOf_of_reading _ keep hh))
    · exact hrun.trans (congrArg _ (fileOf_of_lost _ keep hh))
    · exact hrun.trans (congrArg _ (fileOf_of_committing _ keep hh hw))
    · exact hrun.trans (congrArg _ (fileOf_of_failed _ keep hh hw))
    · intro readOnly checked committing
      have hopen : run = .next (s.fileOpen desk h w (checkOfTwo c1 c0) keep) :=
        hrun.trans (congrArg _ (fileOf_of_open _ keep hh hw))
      have refused {r : Reason} (ht : s.fileTest w (checkOfTwo c1 c0) keep = some r) : no r :=
        hopen.trans (congrArg _ (fileOpen_of_refused desk h ht))
      have hreadOnly : s.drives[w.drive].readOnly = true ↔ readOnly := readOnly_iff _
      have hchecked : checkOfTwo c1 c0 ≠ w.check ↔ ¬checked := not_congr (eq_comm.trans (checkOfTwo_eq_iff ..))
      refine ⟨fun hk => refused ?_, fun hk hr => refused ?_, fun hk hr hm => refused ?_, fun hk hr hm hc => refused ?_,
        fun hk hr hm hc hp => ?_⟩
      · rw [State.fileTest, if_pos hk]
      · rw [State.fileTest, if_neg (Nat.not_lt.2 hk), if_pos (hreadOnly.2 hr)]
      · rw [State.fileTest, if_neg (Nat.not_lt.2 hk), if_neg (mt hreadOnly.1 hr), if_pos hm]
      · rw [State.fileTest, if_neg (Nat.not_lt.2 hk), if_neg (mt hreadOnly.1 hr), if_neg (not_not.2 hm), if_pos (hchecked.2 hc)]
      · have hpassed : s.fileTest w (checkOfTwo c1 c0) keep = none := by
          rw [State.fileTest, if_neg (Nat.not_lt.2 hk), if_neg (mt hreadOnly.1 hr), if_neg (not_not.2 hm),
            if_neg (mt hchecked.1 (not_not.2 hc))]
        rw [hopen, fileOpen_of_passed desk h hpassed, keepHold_eq hk]
        refine ⟨fun hu => ?_, fun hall => ?_⟩
        · rw [placeVersion_fileWaits_of_unwritten desk h _ hu]; rfl
        · rw [placeVersion_fileWaits_of_written desk h _ hp hall]; rfl
  · rw [exec_file hl, fileOwn_of_bad_handle s desk hhb]

end Sys2Proof.Machine
end

section
namespace Sys2Proof.Machine

/-! ### OPEN-READ and OPEN-WRITE (R123, R132 to R134, R176, R186) -/

/-! #### The lowest FREE handle and the lowest FREE slot (R97, R122) -/

section FreeHandle
variable {s : State} {desk : Desk}

theorem freeHandle_of_none_free (h : ∀ g : HandleNo, s.handle desk g ≠ .free) : s.freeHandle desk = none := by
  rw [State.freeHandle, if_neg (h 0), if_neg (h 1)]

theorem freeHandle_of_lowest {h : HandleNo} (hlow : s.lowestFreeHandle desk h) : s.freeHandle desk = some h := by
  obtain ⟨hfree, hbelow⟩ := hlow
  rw [State.freeHandle]
  match h with
  | 0 => exact if_pos hfree
  | 1 => exact (if_neg (hbelow 0 (by decide))).trans (if_pos hfree)

end FreeHandle

section FreeSlot
variable (img : Image)

theorem freeSlot_eq_find? : img.freeSlot = Fin.find? (fun n : SlotNo => (img.slots[n]).state == .free) := by
  rw [Fin.find?_eq_find?_finRange, ← allSlots_eq_finRange]
  rfl

theorem freeSlot_eq_some_iff (n : SlotNo) :
    img.freeSlot = some n ↔ (img.slots[n]).state = .free ∧ ∀ m, m < n → (img.slots[m]).state ≠ .free := by
  simp only [freeSlot_eq_find?, Fin.find?_eq_some_iff, ← Bool.not_eq_true, beq_iff_eq, ne_eq]

theorem freeSlot_eq_none_iff : img.freeSlot = none ↔ ∀ n : SlotNo, (img.slots[n]).state ≠ .free := by
  simp only [freeSlot_eq_find?, Fin.find?_eq_none_iff, ← Bool.not_eq_true, beq_iff_eq, ne_eq]

end FreeSlot

theorem classFor_eq (s : State) (desk : Desk) (cls : Byte) :
    s.classFor desk cls = if cls = 0 ∨ s.lowers desk cls = true then .routine else .urgent := by
  rw [State.classFor]
  cases s.lowers desk cls with
  | true => simp
  | false => simp [classOf]

/-! #### OPEN-READ (R104, R123, R124) -/

section OpenRead
variable {s : State} {desk : Desk} {db cls : Byte} {chars : List Byte}

theorem exec_openRead (hl : s.listens desk) (hshort : 1 ≤ chars.length) (hlong : chars.length ≤ 16) :
    exec (.openRead desk (db :: cls :: chars)) s = .next (s.openReadOwn desk (db :: cls :: chars)) := by
  have hlen : lenAllowed .openRead (db :: cls :: chars) = true :=
    lenAllowed_of_range (show 4 ≤ chars.length + 2 + 1 by omega) (show chars.length + 2 + 1 ≤ 19 by omega)
  exact congrArg Host.Outcome.next (powered_taking_of_listens hl (fun s => s.openReadOwn desk _) hlen rfl rfl)

theorem openReadOwn_of_error {r : Reason} (h : s.findStory true db chars = .error r) :
    s.openReadOwn desk (db :: cls :: chars) = s.refuse desk 0x20 (loweredFlag (s.lowers desk cls)) r := by
  simp only [State.openReadOwn, h]
  rfl

section Found
variable {d : DriveNo} {n : SlotNo} (h : s.findStory true db chars = .ok (d, n))
include h

theorem openReadOwn_of_no_handle (hno : ∀ g : HandleNo, s.handle desk g ≠ .free) :
    s.openReadOwn desk (db :: cls :: chars) = s.refuse desk 0x20 (loweredFlag (s.lowers desk cls)) .noHandle := by
  simp only [State.openReadOwn, h, freeHandle_of_none_free hno]
  rfl

theorem openReadOwn_of_free_handle {g : HandleNo} (hlow : s.lowestFreeHandle desk g) :
    s.openReadOwn desk (db :: cls :: chars) = s.openRead desk d n (s.classFor desk cls) (s.lowers desk cls) g := by
  simp only [State.openReadOwn, h, freeHandle_of_lowest hlow]

end Found

/-- The story gains a reader, the handle is bound to its current version, and read-ahead begins after the reply. -/
theorem openRead_of_image {d : DriveNo} {img : Image} (hi : s.images[d] = some img) (n : SlotNo) (c : Class) (lowered : Bool)
    (h : HandleNo) :
    s.openRead desk d n c lowered h =
      (((((s.setImage d (some (img.setSlot n { img.slots[n] with readers := (img.slots[n]).readers + 1 }))).setHandle desk h
        (.reading ((img.slots[n]).opened d n c))).done desk 0x20 ⟨lowered, false, false, false⟩
          (byteOf h.val :: twoBytes (img.slots[n]).length ++ twoBytes (img.slots[n]).version) .clear)).readAhead desk h).settle := by
  rw [State.openRead, slot_of_image hi, setSlot_of_image hi]
  rfl

end OpenRead

/-- Settles O12: the refusals of the search for the story, then NO-HANDLE, each with the flag; then `openRead_of_image`. -/
theorem openReadBindsTheCurrentVersion : Obligations.OpenReadBindsTheCurrentVersion := by
  intro desk db cls chars s hl hshort hlong run lowered flags no
  have hlowered : s.lowers desk cls = lowered := lowers_eq s desk cls
  have hrun : run = .next (s.openReadOwn desk (db :: cls :: chars)) := exec_openRead hl hshort hlong
  have refused {r : Reason} (h : s.findStory true db chars = .error r) : no r := by
    refine hrun.trans (congrArg _ ((openReadOwn_of_error h).trans ?_))
    rw [hlowered]
    rfl
  refine ⟨fun h => refused (findStory_of_bad_slug h), fun slug h =>
    ⟨fun hd => refused (findStory_of_no_drive h hd), fun d img hd =>
      ⟨fun hu => refused (findStory_of_unmounting h hd hu), fun hu hn => refused (findStory_of_not_found h hd hu hn),
        fun n hu hn => ?_⟩⟩⟩
  have hfound := findStory_of_found (markMatters := true) h hd hu hn
  obtain ⟨_, hi⟩ := imageOf_eq_some hd
  refine ⟨fun hno => ?_, fun g hlow => ?_⟩
  · refine hrun.trans (congrArg _ ((openReadOwn_of_no_handle hfound hno).trans ?_))
    rw [hlowered]
    rfl
  · rw [hrun, openReadOwn_of_free_handle hfound hlow, openRead_of_image hi, classFor_eq, hlowered]
    rfl

/-! #### OPEN-WRITE up to the choice of its mode (R132, R186) -/

/-- What an OPEN-WRITE asks for, its mode and class settled (R132). -/
def WriteOrder.ofFields (m : WriteMode) (c : Class) (edition l1 l0 : Byte) (slug : Chars) : WriteOrder :=
  { mode := m, cls := c, edition := edition.toNat, length := l1.toNat * 256 + l0.toNat, slug := slug }

section OpenWriteOwn
variable {s : State} {desk : Desk} {db mode cls edition l1 l0 : Byte} {chars : List Byte}

theorem exec_openWrite (hl : s.listens desk) (hshort : 1 ≤ chars.length) (hlong : chars.length ≤ 16) :
    exec (.openWrite desk (db :: mode :: cls :: edition :: l1 :: l0 :: chars)) s =
      .next (s.openWriteOwn desk (db :: mode :: cls :: edition :: l1 :: l0 :: chars)) := by
  have hlen : lenAllowed .openWrite (db :: mode :: cls :: edition :: l1 :: l0 :: chars) = true :=
    lenAllowed_of_range (show 8 ≤ chars.length + 6 + 1 by omega) (show chars.length + 6 + 1 ≤ 23 by omega)
  exact congrArg Host.Outcome.next (powered_taking_of_listens hl (fun s => s.openWriteOwn desk _) hlen rfl rfl)

theorem openWriteOwn_of_bad_slug (h : slugOf chars = none) :
    s.openWriteOwn desk (db :: mode :: cls :: edition :: l1 :: l0 :: chars) =
      s.refuse desk 0x21 (loweredFlag (s.lowers desk cls)) .badSlug := by
  simp only [State.openWriteOwn, h]
  rfl

variable {slug : Chars} (h : slugOf chars = some slug)
include h

theorem openWriteOwn_of_out_of_range (hr : ¬(mode.toNat ≤ 1 ∧ edition.toNat ≤ 15)) :
    s.openWriteOwn desk (db :: mode :: cls :: edition :: l1 :: l0 :: chars) =
      s.refuse desk 0x21 (loweredFlag (s.lowers desk cls)) .outOfRange := by
  simp only [State.openWriteOwn, h]
  exact if_pos (by omega)

variable (hr : mode.toNat ≤ 1 ∧ edition.toNat ≤ 15)
include hr

theorem openWriteOwn_of_too_long (hs : ¬l1.toNat * 256 + l0.toNat ≤ 61440) :
    s.openWriteOwn desk (db :: mode :: cls :: edition :: l1 :: l0 :: chars) =
      s.refuse desk 0x21 (loweredFlag (s.lowers desk cls)) .tooLong := by
  simp only [State.openWriteOwn, h]
  exact (if_neg (by omega)).trans (if_pos (Nat.not_le.1 hs))

variable (hs : l1.toNat * 256 + l0.toNat ≤ 61440)
include hs

theorem openWriteOwn_of_no_drive (hd : s.imageOf db = none) :
    s.openWriteOwn desk (db :: mode :: cls :: edition :: l1 :: l0 :: chars) =
      s.refuse desk 0x21 (loweredFlag (s.lowers desk cls)) .noDrive := by
  simp only [State.openWriteOwn, h, hd]
  exact (if_neg (by omega)).trans (if_neg (Nat.not_lt.2 hs))

theorem openWriteOwn_of_image {d : DriveNo} {img : Image} (hd : s.imageOf db = some (d, img)) :
    s.openWriteOwn desk (db :: mode :: cls :: edition :: l1 :: l0 :: chars) =
      s.openWriteOn desk d img
        (.ofFields (if mode = 0 then .new else .replace) (s.classFor desk cls) edition l1 l0 slug) (s.lowers desk cls) := by
  simp only [State.openWriteOwn, h, hd]
  exact (if_neg (by omega)).trans (if_neg (Nat.not_lt.2 hs))

end OpenWriteOwn

section OpenWriteOn
variable {s : State} {desk : Desk} {d : DriveNo} {img : Image} (o : WriteOrder) (lowered : Bool)

theorem openWriteOn_of_unmounting (hu : img.unmounting = true) :
    s.openWriteOn desk d img o lowered = s.refuse desk 0x21 (loweredFlag lowered) .inUse := by
  rw [State.openWriteOn]
  exact if_pos hu

variable (hu : img.unmounting = false)
include hu

theorem openWriteOn_of_readOnly (hr : s.drives[d].readOnly = true) :
    s.openWriteOn desk d img o lowered = s.refuse desk 0x21 (loweredFlag lowered) .isProtected := by
  simp only [State.openWriteOn, hu, hr, Bool.false_eq_true, if_false, if_true]
  rfl

variable (hr : s.drives[d].readOnly = false)
include hr

theorem openWriteOn_of_no_handle (hno : ∀ g : HandleNo, s.handle desk g ≠ .free) :
    s.openWriteOn desk d img o lowered = s.refuse desk 0x21 (loweredFlag lowered) .noHandle := by
  simp only [State.openWriteOn, hu, hr, Bool.false_eq_true, if_false, freeHandle_of_none_free hno]
  rfl

variable {h : HandleNo} (hlow : s.lowestFreeHandle desk h) {o}
include hlow

theorem openWriteOn_of_mode_error {r : Reason} (hm : s.modeTest desk d img o = .error r) :
    s.openWriteOn desk d img o lowered = s.refuse desk 0x21 (loweredFlag lowered) r := by
  simp only [State.openWriteOn, hu, hr, Bool.false_eq_true, if_false, freeHandle_of_lowest hlow, hm]
  rfl

variable {n : SlotNo} (hm : s.modeTest desk d img o = .ok n)
include hm

/-- The reservation is the last test (R133). -/
theorem openWriteOn_of_reserve_error {r : Reason} (hres : img.reserve (sectorsFor o.length) = .error r) :
    s.openWriteOn desk d img o lowered = s.refuse desk 0x21 (loweredFlag lowered) r := by
  simp only [State.openWriteOn, hu, hr, Bool.false_eq_true, if_false, freeHandle_of_lowest hlow, hm, hres]
  rfl

theorem openWriteOn_of_granted {es : List Extent} (hres : img.reserve (sectorsFor o.length) = .ok es) :
    s.openWriteOn desk d img o lowered =
      (((s.setImage d (some (img.markAllocated (sectorsOf es)))).takeStory desk d n o).setHandle desk h
        (.writing (openedWrite d n o es))).done desk 0x21 (loweredFlag lowered) [byteOf h.val, byteOf (sectorsFor o.length)] .clear := by
  simp only [State.openWriteOn, hu, hr, Bool.false_eq_true, if_false, freeHandle_of_lowest hlow, hm, hres]
  rfl

end OpenWriteOn

/-! #### The tests of each mode (R133) -/

section NewMode
variable {s : State} {desk : Desk} {img : Image} {slug : Chars}

theorem newTest_of_exists {n : SlotNo} (hn : img.lookup slug = some n) : s.newTest desk img slug = .error .existsAlready := by
  rw [State.newTest, hn]
  rfl

variable (hn : img.lookup slug = none)
include hn

theorem newTest_of_no_slot (hno : ∀ n : SlotNo, (img.slots[n]).state ≠ .free) :
    s.newTest desk img slug = .error .catalogueFull := by
  rw [State.newTest, hn, (freeSlot_eq_none_iff img).2 hno]
  rfl

theorem newTest_of_slot {n : SlotNo} (hfree : (img.slots[n]).state = .free) (hlow : ∀ m, m < n → (img.slots[m]).state ≠ .free) :
    s.newTest desk img slug = if 8 ≤ s.desks[desk].holds then .error .tooManyHolds else .ok n := by
  rw [State.newTest, hn, (freeSlot_eq_some_iff img n).2 ⟨hfree, hlow⟩]
  rfl

end NewMode

section ReplaceMode
variable {s : State} {desk : Desk} {d : DriveNo} {img : Image} {slug : Chars}

theorem replaceTest_of_not_found (hn : img.lookupFiled slug = none) : s.replaceTest desk d img slug = .error .notFound := by
  rw [State.replaceTest, hn]

/-- The three tests of a story that was found, in their order. -/
theorem replaceTest_of_found {n : SlotNo} (hn : img.lookupFiled slug = some n) :
    s.replaceTest desk d img slug =
      if (img.slots[n]).heldElsewhere desk then .error .heldElsewhere
      else if (img.slots[n]).pending.isSome || s.writerOn d n then .error .inUse
      else if s.tooManyHolds desk (img.slots[n]) then .error .tooManyHolds
      else .ok n := by
  rw [State.replaceTest, hn]

end ReplaceMode

/-! #### The slot or the hold that is taken (R106, R133) -/

section TakeStory
variable {s : State} {desk : Desk} {d : DriveNo} {img : Image} (hi : s.images[d] = some img) (n : SlotNo) {o : WriteOrder}
include hi

theorem takeStory_of_new (hm : o.mode = .new) :
    s.takeStory desk d n o =
      (s.setImage d (some (img.setSlot n { creatingSlot desk o with holder := some desk }))).setDesk desk
        { s.desks[desk] with holds := s.desks[desk].holds + 1 } := by
  simp only [State.takeStory, hm]
  rw [State.takeHold, slot_setSlot hi, setSlot_setSlot, setSlot_of_image hi]
  rfl

theorem takeStory_of_replace (hm : o.mode = .replace) :
    s.takeStory desk d n o =
      if (img.slots[n]).holder = some desk then s
      else ((s.setImage d (some (img.setSlot n { img.slots[n] with holder := some desk }))).setDesk desk
        { s.desks[desk] with holds := s.desks[desk].holds + 1 }).raise
          (.held d (img.slots[n]).slug desk (img.slots[n]).version) := by
  simp only [State.takeStory, hm]
  rw [takeHoldWithEvent_of_image hi, slot_of_image hi]
  rfl

end TakeStory

/-- Settles O15: the tests before the mode's own, then those of the mode, then the reservation, each with the flag. -/
theorem openWriteReservesAndTakesTheHold : Obligations.OpenWriteReservesAndTakesTheHold := by
  refine ⟨?_, ?_⟩
  · intro desk db mode cls edition l1 l0 chars s hl hshort hlong run lowered no inRange short
    have hlowered : s.lowers desk cls = lowered := lowers_eq s desk cls
    have refused {r : Reason} (h : s.openWriteOwn desk (db :: mode :: cls :: edition :: l1 :: l0 :: chars) =
        s.refuse desk 0x21 (loweredFlag (s.lowers desk cls)) r) : no r := by
      rw [hlowered] at h
      exact (exec_openWrite hl hshort hlong).trans (congrArg _ h)
    refine ⟨fun h => refused (openWriteOwn_of_bad_slug h), fun slug h => ⟨fun hr => refused (openWriteOwn_of_out_of_range h hr),
      fun hr hs => refused (openWriteOwn_of_too_long h hr hs), fun hr hs hd => refused (openWriteOwn_of_no_drive h hr hs hd),
      fun d img hr hs hd => ?_⟩⟩
    intro readOnly
    have hreadOnly : s.drives[d].readOnly = true ↔ readOnly := readOnly_iff _
    have hown := openWriteOwn_of_image (desk := desk) (cls := cls) h hr hs hd
    refine ⟨fun hu => refused ?_, fun hu hro => refused ?_, fun hu hro hno => refused ?_⟩
    · exact hown.trans (openWriteOn_of_unmounting _ _ hu)
    · exact hown.trans (openWriteOn_of_readOnly _ _ hu (hreadOnly.2 hro))
    · exact hown.trans (openWriteOn_of_no_handle _ _ hu (Bool.eq_false_iff.2 (mt hreadOnly.1 hro)) hno)
  · intro desk db mode cls edition l1 l0 chars slug d img h s hl hshort hlong hslug hmode hedition hs hd hu hp hdam hlow
      run lowered flags no length count opened answered
    have hlowered : s.lowers desk cls = lowered := lowers_eq s desk cls
    have hr : s.drives[d].readOnly = false := by rw [DriveUnit.readOnly, hp, hdam]; rfl
    have hrun {m : WriteMode} (hm : (if mode = 0 then WriteMode.new else .replace) = m) :
        run = .next (s.openWriteOn desk d img
          (.ofFields m (if cls = 0 ∨ lowered then .routine else .urgent) edition l1 l0 slug) lowered) := by
      refine (exec_openWrite hl hshort hlong).trans (congrArg _ ?_)
      rw [openWriteOwn_of_image hslug ⟨hmode, hedition⟩ hs hd, classFor_eq, hlowered, hm]
    refine ⟨fun hm => ?_, fun hm => ?_⟩
    · have hrun := hrun (if_pos hm)
      have refused {r : Reason} (ht : s.newTest desk img slug = .error r) : no r :=
        hrun.trans (congrArg _ (openWriteOn_of_mode_error lowered hu hr hlow ht))
      refine ⟨fun ⟨n, hn⟩ => refused (newTest_of_exists hn), fun hn => ⟨fun hno => refused (newTest_of_no_slot hn hno),
        fun n hfree hbelow => ⟨fun hfull => refused ?_, fun hroom => ?_⟩⟩⟩
      · rw [newTest_of_slot hn hfree hbelow, if_pos hfull]
      · have hpassed (c : Class) : s.modeTest desk d img (.ofFields .new c edition l1 l0 slug) = .ok n :=
          (newTest_of_slot hn hfree hbelow).trans (if_neg (Nat.not_le.2 hroom))
        refine ⟨fun r hres => hrun.trans (congrArg Host.Outcome.next ?_), fun es hres => ?_⟩
        · exact openWriteOn_of_reserve_error lowered hu hr hlow (hpassed _) hres
        · intro created
          refine hrun.trans (congrArg Host.Outcome.next ((openWriteOn_of_granted lowered hu hr hlow (hpassed _) hres).trans ?_))
          rw [takeStory_of_new (images_setImage ..) n rfl, setImage_setImage]
          rfl
    · have hrun := hrun (if_neg hm)
      have refused {r : Reason} (ht : s.replaceTest desk d img slug = .error r) : no r :=
        hrun.trans (congrArg _ (openWriteOn_of_mode_error lowered hu hr hlow ht))
      refine ⟨fun hn => refused (replaceTest_of_not_found hn), fun n hn => ?_⟩
      intro t others busy full
      have hothers : t.heldElsewhere desk = true ↔ others := heldElsewhere_iff t desk
      have hbusy : (t.pending.isSome || s.writerOn d n) = true ↔ busy := by rw [Bool.or_eq_true, writerOn_iff]
      have hfull : s.tooManyHolds desk t = true ↔ full := tooManyHolds_iff s desk t
      refine ⟨fun ho => refused ?_, fun ho hb => refused ?_, fun ho hb hf => refused ?_, fun ho hb hf => ?_⟩
      · rw [replaceTest_of_found hn, if_pos (hothers.2 ho)]
      · rw [replaceTest_of_found hn, if_neg (mt hothers.1 ho), if_pos (hbusy.2 hb)]
      · rw [replaceTest_of_found hn, if_neg (mt hothers.1 ho), if_neg (mt hbusy.1 hb), if_pos (hfull.2 hf)]
      · have hpassed (c : Class) : s.modeTest desk d img (.ofFields .replace c edition l1 l0 slug) = .ok n :=
          (replaceTest_of_found hn).trans
            (by rw [if_neg (mt hothers.1 ho), if_neg (mt hbusy.1 hb), if_neg (mt hfull.1 hf)])
        refine ⟨fun r hres => hrun.trans (congrArg Host.Outcome.next ?_), fun es hres => ?_⟩
        · exact openWriteOn_of_reserve_error lowered hu hr hlow (hpassed _) hres
        · intro s' held
          refine hrun.trans (congrArg Host.Outcome.next ((openWriteOn_of_granted lowered hu hr hlow (hpassed _) hres).trans ?_))
          rw [takeStory_of_replace (images_setImage ..) n rfl]
          rfl

end Sys2Proof.Machine
end

section
namespace Sys2Proof.Machine

/-! ### Notice queues stay sound, and a request reaches no other idle desk (R158, R167, R171) -/

/-- What POWER-GOOD's rise establishes, and its fall, a tick and every steady change keep, a step keeps, if it reads nothing of the
commands that wait. -/
theorem step_keeps {I : State → Prop} (hqueue : ∀ s q, I s → I (State.setPending s q))
    (hrise : ∀ s a b z, I (State.poweredOn s a b z)) (hfall : ∀ s, I s → I s.poweredOff) (htick : ∀ s, I s → I s.idles)
    (hsteady : ∀ s t, Steady (fun _ => False) False s t → I s → I t) {s t : State} (hstep : step s = .next t) (hs : I s) : I t := by
  unfold step at hstep
  split at hstep
  · cases hstep
    exact htick s hs
  · next c rest _ =>
    by_cases hon : ∃ a b z, c = .powerGoodRise a b z
    · obtain ⟨a, b, z, rfl⟩ := hon
      cases hstep
      exact hrise ..
    · by_cases hoff : c = .powerGoodFall
      · subst hoff
        cases hstep
        exact hfall _ (hqueue s rest hs)
      · obtain ⟨u, hu, hkept⟩ := exec_steady c (fun a b z hc => hon ⟨a, b, z, hc⟩) hoff (s.setPending rest)
        obtain rfl : u = t := Host.Outcome.next.inj (hu.symm.trans hstep)
        exact hsteady _ _ hkept (hqueue s rest hs)

/-- Soundness of the notice queues reads the desks' notices only. -/
theorem queuesSound_of_notices {s t : State} (h : ∀ desk : Desk, t.desks[desk].notices = s.desks[desk].notices)
    (hs : s.queuesSound) : t.queuesSound := fun desk => (h desk).symm ▸ hs desk

theorem queuesSound_poweredOn (s : State) (ready writeProtect trackZero : BitVec 4) :
    (s.poweredOn ready writeProtect trackZero).queuesSound := fun desk => by
  have hclear : (s.poweredOn ready writeProtect trackZero).desks[desk] = .clear := Vector.getElem_replicate _
  rw [hclear]
  exact queueSound_nil

theorem queuesSound_poweredOff {s : State} (hs : s.queuesSound) : s.poweredOff.queuesSound := by
  refine queuesSound_of_notices (fun desk => ?_) hs
  have hdesk : s.poweredOff.desks[desk] = s.desks[desk].powerOff := Vector.getElem_map ..
  rw [hdesk]
  rfl

theorem queuesSound_idles {s : State} (hs : s.queuesSound) : s.idles.queuesSound := by
  unfold State.idles State.powered
  split
  · rw [ticked_frame]
    exact queuesSound_of_notices (fun _ => rfl) hs
  · exact hs

/-- Settles O56: POWER-GOOD's rise empties the queues, its fall and a tick leave them, and every steady change keeps them sound. -/
theorem everyStepKeepsNoticeQueuesSound : Obligations.EveryStepKeepsNoticeQueuesSound := fun _ _ =>
  step_keeps (fun _ _ => id) queuesSound_poweredOn (fun _ => queuesSound_poweredOff) (fun _ => queuesSound_idles)
    (fun _ _ hsteady => hsteady.queues)

/-- The command of a kind is the request of that kind, while the part is powered (R168, R194). -/
theorem exec_command (k : Kind) (desk : Desk) (fields : List Byte) (s : State) :
    exec (k.command desk fields) s = .next (s.powered (takeKind k desk fields)) := by cases k <;> rfl

/-- Settles O60: a request other than RESTART is steady, seen at every desk but its own. -/
theorem requestsLeaveOtherIdleDesksAlone : Obligations.RequestsLeaveOtherIdleDesksAlone := by
  intro k desk e fields s t hkind hne hidle hexec
  rw [exec_command] at hexec
  cases hexec
  have hstart : Steady (· ≠ desk) False s s := .refl _ _ s
  have hown : MayAnswer (· ≠ desk) s desk := fun hself => absurd rfl hself
  have htaken := steady_takeKind hstart hown k fields (fun hrestart => absurd hrestart hkind)
  exact (steady_powered _ htaken hstart).idle e hne hidle

end Sys2Proof.Machine
end

section
namespace Sys2Proof.Machine

/-! ### Replies (R81, R82, R159, R167, R177) -/

theorem setDesk_self (s : State) (desk : Desk) : s.setDesk desk s.desks[desk] = s := by
  simp only [State.setDesk, Fin.getElem_fin, Vector.set_getElem_self]

/-- A reply that keeps the continuation and the cursor leaves its desk as it was (R177). -/
theorem continueDesk_keep (s : State) (desk : Desk) : s.continueDesk desk .keep = s := setDesk_self s desk

theorem done_keep (s : State) (desk : Desk) (kind : Byte) (flags : ReplyFlags) (fields : List Byte) :
    s.done desk kind flags fields .keep =
      s.queueReply desk ⟨kind, .done, none, s.desks[desk].notices.length, flags, fields, none⟩ := continueDesk_keep ..

theorem refuse_busy (s : State) (desk : Desk) (kind : Byte) (flags : ReplyFlags) :
    s.refuse desk kind flags .busy =
      (s.queueReply desk ⟨kind, .refused, some .busy, s.desks[desk].notices.length, flags, [], none⟩).countRefusal desk :=
  continueDesk_keep ..

theorem refuse_of_ne_busy (s : State) (desk : Desk) (kind : Byte) (flags : ReplyFlags) {r : Reason} (hr : r ≠ .busy) :
    s.refuse desk kind flags r =
      ((s.queueReply desk ⟨kind, .refused, some r, s.desks[desk].notices.length, flags, [], none⟩).countRefusal desk).continueDesk
        desk .clear := by
  unfold State.refuse
  rw [if_neg (mt beq_iff_eq.1 hr)]
  rfl

/-- Settles O4: DONE by what it does to the continuation, REFUSED by whether the reason is BUSY, FAILED. -/
theorem repliesAreQueuedAndCounted : Obligations.RepliesAreQueuedAndCounted := by
  intro desk kind flags fields r s line waiting
  exact ⟨done_keep .., rfl, fun _ _ => rfl, refuse_of_ne_busy s desk kind flags, refuse_busy .., rfl⟩

end Sys2Proof.Machine
end

section
namespace Sys2Proof.Machine

/-! ### WATCH and UNWATCH (R149, R154, R155) -/

/-! #### The fields of a WATCH -/

theorem watchOf_of_val {b : Byte} {i : WatchNo} (h : i.val = b.toNat) : watchOf b = some i := by
  rw [watchOf, dif_pos (h ▸ i.isLt)]
  exact congrArg some (Fin.ext h.symm)

theorem watchOf_eq_none {b : Byte} (h : 3 < b.toNat) : watchOf b = none := dif_neg (by omega)

theorem driveOf_of_val {b : Byte} {d : DriveNo} (h : d.val = b.toNat) : driveOf b = some d := by
  rw [driveOf, dif_pos (h ▸ d.isLt)]
  exact congrArg some (Fin.ext h.symm)

theorem driveOf_eq_none {b : Byte} (h : 3 < b.toNat) : driveOf b = none := dif_neg (by omega)

/-- The conditions by their numbers (R154). -/
def numberedConditions : List (Nat × Condition) :=
  [(1, .filed), (2, .filedNew), (3, .spiked), (4, .held), (5, .released)]

theorem conditionOf_of_mem {b : Byte} {c : Condition} (h : (b.toNat, c) ∈ numberedConditions) : conditionOf b = some c := by
  simp only [numberedConditions, List.mem_cons, Prod.mk.injEq, List.not_mem_nil, or_false] at h
  rcases h with ⟨hn, rfl⟩ | ⟨hn, rfl⟩ | ⟨hn, rfl⟩ | ⟨hn, rfl⟩ | ⟨hn, rfl⟩
  all_goals simp only [conditionOf, hn]

theorem conditionOf_isSome_iff (b : Byte) : (conditionOf b).isSome = true ↔ 1 ≤ b.toNat ∧ b.toNat ≤ 5 := by
  unfold conditionOf
  split
  case h_6 h1 h2 h3 h4 h5 =>
    have hother : b.toNat ≠ 1 ∧ b.toNat ≠ 2 ∧ b.toNat ≠ 3 ∧ b.toNat ≠ 4 ∧ b.toNat ≠ 5 := ⟨h1, h2, h3, h4, h5⟩
    simp only [Option.isSome_none, Bool.false_eq_true, false_iff]
    omega
  all_goals simp only [Option.isSome_some, true_iff]; omega

theorem watchOf_isSome_iff (b : Byte) : (watchOf b).isSome = true ↔ b.toNat ≤ 3 := by
  unfold watchOf
  split
  · simp only [Option.isSome_some, true_iff]; omega
  · simp only [Option.isSome_none, Bool.false_eq_true, false_iff]; omega

/-- A WATCH body's id, conditions and repeat byte are in their ranges (R154). -/
def WatchInRange (id first second rep : Byte) : Prop :=
  id.toNat ≤ 3 ∧ (1 ≤ first.toNat ∧ first.toNat ≤ 5) ∧ second.toNat ≤ 5 ∧ rep.toNat ≤ 1

section Fields
variable {id first second rep : Byte}

theorem watchFields_isSome_iff : (watchFields id first second rep).isSome = true ↔ WatchInRange id first second rep := by
  unfold watchFields
  split
  next i c hi hc =>
    have hid : id.toNat ≤ 3 := (watchOf_isSome_iff id).1 (hi ▸ rfl)
    have hfirst : 1 ≤ first.toNat ∧ first.toNat ≤ 5 := (conditionOf_isSome_iff first).1 (hc ▸ rfl)
    split
    next hrep => exact ⟨nofun, fun ⟨_, _, _, hr⟩ => absurd hr (Nat.not_le.2 hrep)⟩
    next hrep =>
      split
      next hzero => exact ⟨fun _ => ⟨hid, hfirst, hzero ▸ Nat.zero_le 5, Nat.not_lt.1 hrep⟩, fun _ => rfl⟩
      next hzero =>
        have hpos : 1 ≤ second.toNat := Nat.pos_of_ne_zero fun h => hzero (BitVec.eq_of_toNat_eq h)
        rw [Option.isSome_map, conditionOf_isSome_iff]
        exact ⟨fun ⟨_, hsecond⟩ => ⟨hid, hfirst, hsecond, Nat.not_lt.1 hrep⟩,
          fun ⟨_, _, hsecond, _⟩ => ⟨hpos, hsecond⟩⟩
  next hnone =>
    refine ⟨nofun, fun ⟨hid, hfirst, _, _⟩ => ?_⟩
    obtain ⟨i, hi⟩ := Option.isSome_iff_exists.1 ((watchOf_isSome_iff id).2 hid)
    obtain ⟨c, hc⟩ := Option.isSome_iff_exists.1 ((conditionOf_isSome_iff first).2 hfirst)
    exact (hnone i c hi hc).elim

theorem watchFields_of_inRange {i : WatchNo} {c1 : Condition} {c2 : Option Condition} (hr : WatchInRange id first second rep)
    (hi : i.val = id.toNat) (h1 : (first.toNat, c1) ∈ numberedConditions)
    (h2 : c2 = none ∧ second = 0 ∨ ∃ c, c2 = some c ∧ (second.toNat, c) ∈ numberedConditions) :
    watchFields id first second rep = some (i, c1, c2, decide (rep = 1)) := by
  obtain ⟨_, _, _, hrep⟩ := hr
  simp only [watchFields, watchOf_of_val hi, conditionOf_of_mem h1, if_neg (Nat.not_lt.2 hrep)]
  rcases h2 with ⟨rfl, hzero⟩ | ⟨c, rfl, hmem⟩
  · rw [if_pos hzero]
    rfl
  · have hne : second ≠ 0 := by
      rintro rfl
      revert hmem
      cases c <;> decide
    rw [if_neg hne, conditionOf_of_mem hmem]
    rfl

end Fields

section Watch
variable {s : State} {desk : Desk} {id db first second rep : Byte} {chars : List Byte}

theorem exec_watch (hl : s.listens desk) (hshort : 1 ≤ chars.length) (hlong : chars.length ≤ 16) :
    exec (.watch desk (id :: db :: first :: second :: rep :: chars)) s =
      .next (s.watchOwn desk (id :: db :: first :: second :: rep :: chars)) := by
  have hlen : lenAllowed .watch (id :: db :: first :: second :: rep :: chars) = true :=
    lenAllowed_of_range (show 7 ≤ chars.length + 5 + 1 by omega) (show chars.length + 5 + 1 ≤ 22 by omega)
  exact congrArg Host.Outcome.next (powered_taking_of_listens hl (fun s => s.watchOwn desk _) hlen rfl rfl)

theorem watchOwn_of_bad_slug (hslug : slugOf chars = none) :
    s.watchOwn desk (id :: db :: first :: second :: rep :: chars) = s.refuse desk 0x40 noFlags .badSlug := by
  simp only [State.watchOwn, hslug]
  rfl

variable {start : Chars} (hslug : slugOf chars = some start)
include hslug

theorem watchOwn_of_out_of_range (hr : ¬WatchInRange id first second rep) :
    s.watchOwn desk (id :: db :: first :: second :: rep :: chars) = s.refuse desk 0x40 noFlags .outOfRange := by
  have hnone : watchFields id first second rep = none := Option.not_isSome_iff_eq_none.1 (mt watchFields_isSome_iff.1 hr)
  simp only [State.watchOwn, hslug, hnone]
  rfl

theorem watchOwn_of_no_drive (hr : WatchInRange id first second rep) (hd : 3 < db.toNat) :
    s.watchOwn desk (id :: db :: first :: second :: rep :: chars) = s.refuse desk 0x40 noFlags .noDrive := by
  obtain ⟨f, hf⟩ := Option.isSome_iff_exists.1 (watchFields_isSome_iff.2 hr)
  simp only [State.watchOwn, hslug, hf, driveOf_eq_none hd]
  rfl

theorem watchOwn_of_fields {i : WatchNo} {d : DriveNo} {c1 : Condition} {c2 : Option Condition} {again : Bool}
    (hf : watchFields id first second rep = some (i, c1, c2, again)) (hd : d.val = db.toNat) :
    s.watchOwn desk (id :: db :: first :: second :: rep :: chars) =
      (s.setWatch desk i (some { drive := d, start := start, first := c1, second := c2, repeats := again, matched := none })).doneKind
        desk .watch [s.watchByte desk i] := by
  simp only [State.watchOwn, hslug, hf, driveOf_of_val hd]

end Watch

section Unwatch
variable {s : State} {desk : Desk} {id : Byte}

theorem exec_unwatch (hl : s.listens desk) (id : Byte) : exec (.unwatch desk [id]) s = .next (s.unwatchOwn desk [id]) :=
  congrArg Host.Outcome.next (powered_taking_of_listens hl (fun s => s.unwatchOwn desk _) rfl rfl rfl)

theorem unwatchOwn_of_out_of_range (hid : 3 < id.toNat) : s.unwatchOwn desk [id] = s.refuse desk 0x41 noFlags .outOfRange := by
  simp only [State.unwatchOwn, watchOf_eq_none hid]
  rfl

theorem unwatchOwn_of_id {i : WatchNo} (hi : i.val = id.toNat) :
    s.unwatchOwn desk [id] = (s.setWatch desk i none).doneKind desk .unwatch [s.watchByte desk i] := by
  simp only [State.unwatchOwn, watchOf_of_val hi]

end Unwatch

/-- Settles O18: the refusals in their order, then the watch put into its place or taken out of it. -/
theorem watchAndUnwatchSetThePlace : Obligations.WatchAndUnwatchSetThePlace := by
  refine ⟨?_, ?_⟩
  · intro desk id db first second rep chars s hl hshort hlong run no inRange numbered
    have hrun : run = _ := exec_watch hl hshort hlong
    have answered {t : State} (h : s.watchOwn desk (id :: db :: first :: second :: rep :: chars) = t) : run = .next t :=
      hrun.trans (congrArg _ h)
    refine ⟨fun h => answered (watchOwn_of_bad_slug h), fun start h => ⟨fun hr => answered (watchOwn_of_out_of_range h hr),
      fun hr hd => answered (watchOwn_of_no_drive h hr hd), fun i d c1 c2 hr hi hd h1 h2 => ?_⟩⟩
    exact answered (watchOwn_of_fields h (watchFields_of_inRange hr hi h1 h2) hd)
  · intro desk id s hl
    exact ⟨fun hid => (exec_unwatch hl id).trans (congrArg _ (unwatchOwn_of_out_of_range hid)),
      fun i hi => (exec_unwatch hl id).trans (congrArg _ (unwatchOwn_of_id hi))⟩

end Sys2Proof.Machine
end

section
namespace Sys2Proof.Machine

/-! ### SUBSCRIBE, TAKE-NOTICE and the queue of notices (R156 to R159) -/

/-! #### SUBSCRIBE (R156) -/

theorem driveSetOf_of_le {b : Byte} (h : b.toNat ≤ 15) : driveSetOf b = some (b.setWidth 4) := by
  rw [driveSetOf, if_pos (by omega), BitVec.ofNat_toNat]

theorem driveSetOf_eq_none {b : Byte} (h : 15 < b.toNat) : driveSetOf b = none := if_neg (by omega)

section News
variable {s : State} {desk : Desk}

theorem exec_subscribe (hl : s.listens desk) (drives filings : Byte) :
    exec (.subscribe desk [drives, filings]) s = .next (s.subscribeOwn desk [drives, filings]) :=
  congrArg Host.Outcome.next (powered_taking_of_listens hl (fun s => s.subscribeOwn desk _) rfl rfl rfl)

theorem exec_takeNotice (hl : s.listens desk) : exec (.takeNotice desk []) s = .next (s.takeNoticeOwn desk) :=
  congrArg Host.Outcome.next (powered_taking_of_listens hl (fun s => s.takeNoticeOwn desk) rfl rfl rfl)

variable {drives filings : Byte}

theorem subscribeOwn_of_out_of_range (h : 15 < drives.toNat ∨ 15 < filings.toNat) :
    s.subscribeOwn desk [drives, filings] = s.refuse desk 0x42 noFlags .outOfRange := by
  unfold State.subscribeOwn
  dsimp only
  split
  next x y hx hy =>
    rcases h with h | h
    · rw [driveSetOf_eq_none h] at hx
      cases hx
    · rw [driveSetOf_eq_none h] at hy
      cases hy
  next => rfl

theorem subscribeOwn_of_sets (hd : drives.toNat ≤ 15) (hf : filings.toNat ≤ 15) :
    s.subscribeOwn desk [drives, filings] =
      (s.setDesk desk { s.desks[desk] with driveSet := drives.setWidth 4, filingsSet := filings.setWidth 4 }).done desk 0x42 noFlags
        [drives, filings] .clear := by
  simp only [State.subscribeOwn, driveSetOf_of_le hd, driveSetOf_of_le hf]
  rfl

/-! #### TAKE-NOTICE (R157, R159) -/

/-- A DONE reply of TAKE-NOTICE at the end of the queue of a line, with the number of notices that are left (R159). -/
def LineUnit.noticeTaken (l : LineUnit) (left : Nat) (fields : List Byte) : LineUnit :=
  { l with replies := l.replies ++ [⟨0x43, .done, none, left, noFlags, fields, none⟩] }

theorem takeNoticeOwn_of_empty (h : s.desks[desk].notices = []) :
    s.takeNoticeOwn desk = s.setLine desk (s.lines[desk].noticeTaken 0 [0]) := by
  unfold State.takeNoticeOwn
  rw [h]
  dsimp only
  rw [done_keep, State.queueReply, h]
  rfl

theorem takeNoticeOwn_of_cons {n : Notice} {rest : List Notice} (h : s.desks[desk].notices = n :: rest) :
    s.takeNoticeOwn desk = (s.setDesk desk { s.desks[desk] with notices := rest }).setLine desk
      (s.lines[desk].noticeTaken rest.length n.bytes) := by
  unfold State.takeNoticeOwn
  rw [h]
  dsimp only
  rw [done_keep, State.queueReply, setDesk_desks_self]
  rfl

end News

/-! #### A notice meets a queue (R158) -/

theorem appendNotice_of_marker (rest : List Notice) (k : Nat) (n : Notice) :
    appendNotice (rest ++ [.noticesLost k]) n = rest ++ [.noticesLost (min (k + 1) 65535)] := by
  rw [appendNotice, List.getLast?_concat, List.dropLast_concat]

theorem appendNotice_of_no_marker {queue : List Notice} (h : ∀ rest k, queue ≠ rest ++ [.noticesLost k]) (n : Notice) :
    appendNotice queue n = if queue.length < 8 then queue ++ [n] else queue.dropLast ++ [.noticesLost 2] := by
  unfold appendNotice
  split
  next k hlast =>
    obtain ⟨rest, hrest⟩ := List.getLast?_eq_some_iff.1 hlast
    exact absurd hrest (h rest k)
  next => rfl

/-- Settles O19: the two requests by their refusals and their one effect, the codes notice by notice, the queue by its last entry
and its length. -/
theorem noticesAreQueuedAndTaken : Obligations.NoticesAreQueuedAndTaken := by
  refine ⟨fun desk drives filings s hl => ⟨fun h => ?_, fun hd hf => ?_⟩, fun desk s hl => ⟨fun h => ?_, fun n rest h => ?_⟩,
    fun n => ?_, fun desk n s => ⟨fun rest k h => ?_, fun h hroom => ?_, fun h hfull => ?_⟩⟩
  · exact (exec_subscribe hl ..).trans (congrArg _ (subscribeOwn_of_out_of_range h))
  · exact (exec_subscribe hl ..).trans (congrArg _ (subscribeOwn_of_sets hd hf))
  · exact (exec_takeNotice hl).trans (congrArg _ (takeNoticeOwn_of_empty h))
  · exact (exec_takeNotice hl).trans (congrArg _ (takeNoticeOwn_of_cons h))
  · cases n with
    | mounted d name damaged => cases damaged <;> rfl
    | faulted d cause => cases cause <;> rfl
    | watchFired i slug kind v => cases kind <;> rfl
    | _ => rfl
  · rw [State.post, h, appendNotice_of_marker]
    rfl
  · rw [State.post, appendNotice_of_no_marker h, if_pos hroom]
    rfl
  · rw [State.post, appendNotice_of_no_marker h, if_neg (Nat.not_lt.2 hfull)]
    rfl

end Sys2Proof.Machine
end

section
namespace Sys2Proof.Machine

/-! ### Events, subscriptions and watches (R147 to R152, R156) -/

/-! #### An event reaches the desks (R147, R148) -/

theorem foldl_setDesk_frame (f : State → Desk → DeskContext) (l : List Desk) (s : State) :
    l.foldl (fun s desk => s.setDesk desk (f s desk)) s =
      { s with desks := (l.foldl (fun s desk => s.setDesk desk (f s desk)) s).desks } := by
  induction l generalizing s with
  | nil => rfl
  | cons desk l ih => exact ih (s.setDesk desk (f s desk))

theorem raise_frame (s : State) (ev : Event) : s.raise ev = { s with desks := (s.raise ev).desks } :=
  foldl_setDesk_frame (fun s desk => s.desks[desk].meets ev) allDesks s

/-- A desk after the notice that its subscriptions give it for an event, if they give one (R156). -/
def DeskContext.told (c : DeskContext) (ev : Event) : DeskContext :=
  (subscriptionNotice c ev).elim c fun n => { c with notices := appendNotice c.notices n }

theorem DeskContext.meets_eq (c : DeskContext) (ev : Event) :
    c.meets ev = ((((c.told ev).watchMeets ev 0).watchMeets ev 1).watchMeets ev 2).watchMeets ev 3 := by
  unfold DeskContext.meets DeskContext.told
  cases subscriptionNotice c ev <;> rfl

theorem elim_ite_some {α β : Type} (b : Prop) [Decidable b] (n : α) (c : β) (f : α → β) :
    (if b then some n else none).elim c f = if b then f n else c := by
  split <;> rfl

/-! #### A watch meets an event (R150 to R152) -/

section Meets
variable {w : Watch} {ev : Event}

theorem Watch.meets_of_unseen (h : ev.seen = none) : w.meets ev = (some w, false) := by
  rw [Watch.meets, h]

variable {d : DriveNo} {slug : Chars} {kind : CatalogueEventKind} {v : Nat} (h : ev.seen = some (d, slug, kind, v))
include h

theorem Watch.meets_of_other_drive (hd : d ≠ w.drive) : w.meets ev = (some w, false) := by
  rw [Watch.meets, h]
  exact if_pos (bne_iff_ne.2 hd)

/-- In WAITING-FIRST (R151): an event of the first condition on a slug with the watch's start fires a watch of one condition, and has a
watch of two wait for its second. -/
theorem Watch.meets_of_waiting_first (hd : d = w.drive) (hm : w.matched = none) :
    w.meets ev =
      if w.first.satisfiedBy ev = true ∧ w.start <+: slug then
        w.second.elim (if w.repeats then some { w with matched := none } else none, true) fun _ =>
          (some { w with matched := some slug }, false)
      else (some w, false) := by
  have hself : { w with matched := none } = w := by rw [← hm]
  rw [hself]
  simp only [Watch.meets, h, hd, hm, bne_self_eq_false, Bool.false_eq_true, if_false, Bool.and_eq_true, List.isPrefixOf_iff_prefix]
  cases w.second <;> rfl

/-- In WAITING-SECOND (R152): only what satisfies the second condition with the matched slug fires the watch. -/
theorem Watch.meets_of_waiting_second (hd : d = w.drive) {m : Chars} (hm : w.matched = some m) {c : Condition}
    (hc : w.second = some c) :
    w.meets ev =
      if c.satisfiedBy ev = true ∧ slug = m then (if w.repeats then some { w with matched := none } else none, true)
      else (some w, false) := by
  simp only [Watch.meets, h, hd, hm, hc, bne_self_eq_false, Bool.false_eq_true, if_false, Bool.and_eq_true, beq_iff_eq]

end Meets

theorem DeskContext.watchMeets_of_empty {c : DeskContext} {i : WatchNo} (h : (c.watches)[i] = none) (ev : Event) :
    c.watchMeets ev i = c := by
  rw [DeskContext.watchMeets, h]

/-- A watch that stands in its place is replaced by what it becomes, and one that fires posts its notice (R152). -/
theorem DeskContext.watchMeets_of_watch {c : DeskContext} {i : WatchNo} {w : Watch} (h : (c.watches)[i] = some w) (ev : Event) :
    c.watchMeets ev i =
      { c with watches := (c.watches).set i (w.meets ev).1,
               notices := if (w.meets ev).2 then (firedNotice i ev).foldl appendNotice c.notices else c.notices } := by
  rw [DeskContext.watchMeets, h]
  dsimp only
  split <;> rfl

/-- Settles O20: the fold over the desks desk by desk, the subscription by the event, a watch by its drive and what it waits for. -/
theorem eventsReachDesksAndAdvanceWatches : Obligations.EventsReachDesksAndAdvanceWatches := by
  refine ⟨fun s ev => ⟨raise_frame s ev, fun desk => ?_⟩, fun ev => ?_, fun c ev => ?_, fun c ev i => ?_,
    fun w ev d slug kind v => ?_⟩
  · intro c filings driven take told
    have htold : c.told ev = told := by
      cases ev with
      | held | released => rfl
      | _ => exact elim_ite_some ..
    rw [raise_desks, DeskContext.meets_eq, htold]
  · cases ev <;> rfl
  · cases c
    all_goals cases ev <;> simp [Condition.satisfiedBy]
  · refine ⟨fun h => c.watchMeets_of_empty h ev, fun w h => ?_⟩
    rw [c.watchMeets_of_watch h, firedNotice]
    cases hseen : ev.seen with
    | none => rw [Watch.meets_of_unseen hseen]; rfl
    | some seen => rfl
  · refine ⟨Watch.meets_of_unseen, fun h => ⟨Watch.meets_of_other_drive h, fun hd hm => ?_, fun m c hd hm hc => ?_⟩⟩
    · have hmeets := Watch.meets_of_waiting_first h hd hm
      refine ⟨fun hfirst hstart => ?_, fun hnot => hmeets.trans (if_neg hnot)⟩
      rw [if_pos ⟨hfirst, hstart⟩] at hmeets
      refine ⟨fun hnone => ?_, fun c hc => ?_⟩
      · rw [hmeets, hnone]
        rfl
      · rw [hmeets, hc]
        rfl
    · have hmeets := Watch.meets_of_waiting_second h hd hm hc
      exact ⟨fun hsat hslug => hmeets.trans (if_pos ⟨hsat, hslug⟩), fun hnot => hmeets.trans (if_neg hnot)⟩

end Sys2Proof.Machine
end

section
namespace Sys2Proof.Machine

/-! ### The command in front, and the tests before a kind's own (R168, R169, R171, R175, R178) -/

/-- Settles O1: a step on a queue that is not empty takes its first command with the rest of the queue. -/
theorem stepTakesTheFrontCommand : Obligations.StepTakesTheFrontCommand := by
  intro c rest s h
  rw [step, h]
  rfl

/-! #### The table of the kinds (R169) -/

theorem mem_allKinds (k : Kind) : k ∈ allKinds := by
  cases k <;> decide

theorem kindOfCode_code (k : Kind) : kindOfCode k.code = some k := by
  cases k <;> rfl

theorem kindOfCode_eq_none {b : Byte} (h : ∀ k : Kind, k.code ≠ b) : kindOfCode b = none :=
  List.find?_eq_none.2 fun k _ => mt beq_iff_eq.1 (h k)

theorem kindTable_eq_map : kindTable = allKinds.map fun k => (k, k.code, k.lenRange.1, k.lenRange.2) := rfl

theorem code_mem_kindTable (k : Kind) : k.code ∈ kindTable.map fun x => x.2.1 := by
  rw [kindTable_eq_map, List.map_map]
  exact List.mem_map_of_mem (mem_allKinds k)

theorem code_and_lenRange_of_mem_kindTable {k : Kind} {code : Byte} {least most : Nat} (h : (k, code, least, most) ∈ kindTable) :
    k.code = code ∧ k.lenRange = (least, most) := by
  rw [kindTable_eq_map] at h
  obtain ⟨_, _, heq⟩ := List.mem_map.1 h
  cases heq
  exact ⟨rfl, rfl⟩

theorem supervisor_iff (k : Kind) :
    k.supervisor = true ↔ k ∈ [Kind.driveSet, .deskSet, .mount, .unmount, .format, .breakHold, .tally, .restart] := by
  cases k <;> decide

theorem lenAllowed_iff (k : Kind) (fields : List Byte) :
    lenAllowed k fields = true ↔ k.lenRange.1 ≤ fields.length + 1 ∧ fields.length + 1 ≤ k.lenRange.2 := by
  rw [lenAllowed, Bool.and_eq_true, decide_eq_true_iff, decide_eq_true_iff]

/-- The kind byte of an accepted frame is looked up in the table (R169, R171). -/
theorem takeKindByte_code (k : Kind) (desk : Desk) (fields : List Byte) (s : State) :
    takeKindByte k.code desk fields s = takeKind k desk fields s := by
  rw [takeKindByte, kindOfCode_code]

theorem takeKindByte_of_unknown {b : Byte} (h : ∀ k : Kind, k.code ≠ b) (desk : Desk) (fields : List Byte) (s : State) :
    takeKindByte b desk fields s = s.refuse desk b noFlags .illegalKind := by
  rw [takeKindByte, kindOfCode_eq_none h]

/-! #### The tests in their order (R171) -/

section Tests
variable {s : State} {desk : Desk} {k : Kind} {fields : List Byte}

theorem exec_command_of_powerGood (hp : s.powerGood = true) (k : Kind) (desk : Desk) (fields : List Byte) :
    exec (k.command desk fields) s = .next (takeKind k desk fields s) := by
  rw [exec_command, powered_of_powerGood hp]

theorem exec_command_of_preTest (hp : s.powerGood = true) {r : Reason} (h : s.preTest desk k fields = some r) :
    exec (k.command desk fields) s = .next (s.refuse desk k.code noFlags r) := by
  rw [exec_command_of_powerGood hp, takeKind_eq_taking, State.taking, h]

theorem preTest_of_bad_length (hlen : ¬lenAllowed k fields = true) : s.preTest desk k fields = some .badLength :=
  if_pos (by rw [Bool.eq_false_iff.2 hlen]; rfl)

variable (hlen : lenAllowed k fields = true)
include hlen

theorem preTest_of_allowed_length :
    s.preTest desk k fields =
      if s.desks[desk].inProgress ≠ none ∧ k ≠ .cancel then some .busy
      else if k.supervisor = true ∧ s.deskSettings[desk].supervisor = false then some .notPermitted
      else if s.desks[desk].continuation.admits k = false then some .illegalSequence
      else none := by
  simp only [State.preTest, hlen, Bool.not_true, Bool.false_eq_true, if_false, Bool.and_eq_true, bne_iff_ne, Bool.not_eq_true',
    Option.isSome_iff_ne_none]

theorem preTest_of_busy (hbusy : s.desks[desk].inProgress ≠ none ∧ k ≠ .cancel) : s.preTest desk k fields = some .busy := by
  rw [preTest_of_allowed_length hlen, if_pos hbusy]

variable (hfree : ¬(s.desks[desk].inProgress ≠ none ∧ k ≠ .cancel))
include hfree

theorem preTest_of_unpermitted (hsup : k.supervisor = true ∧ s.deskSettings[desk].supervisor = false) :
    s.preTest desk k fields = some .notPermitted := by
  rw [preTest_of_allowed_length hlen, if_neg hfree, if_pos hsup]

theorem preTest_of_out_of_sequence (hsup : k.supervisor = false) (hadm : s.desks[desk].continuation.admits k = false) :
    s.preTest desk k fields = some .illegalSequence := by
  rw [preTest_of_allowed_length hlen, if_neg hfree, if_neg (by simp [hsup]), if_pos hadm]

end Tests

/-- A continuing kind is out of sequence on every continuation but its own (R178). -/
theorem admits_putOn_eq_false {c : Continuation} (h : ∀ n, c ≠ .put n) : c.admits .putOn = false := by
  cases c with
  | put n => exact absurd rfl (h n)
  | none | get | list => rfl

theorem admits_getOn_eq_false {c : Continuation} (h : ∀ n, c ≠ .get n) : c.admits .getOn = false := by
  cases c with
  | get n => exact absurd rfl (h n)
  | none | put | list => rfl

theorem admits_listOn_eq_false {c : Continuation} (h : ∀ d i p e, c ≠ .list d i p e) : c.admits .listOn = false := by
  cases c with
  | list d i p e => exact absurd rfl (h d i p e)
  | none | put | get => rfl

/-- Settles O5: an unknown kind by the table, each test of a known kind by the tests before it. -/
theorem testsBeforeTheKindsOwn : Obligations.TestsBeforeTheKindsOwn := by
  refine ⟨fun desk kind fields s hp hkind => ?_, ?_⟩
  · have hunknown : ∀ k : Kind, k.code ≠ kind := by
      rintro k rfl
      exact hkind (code_mem_kindTable k)
    exact congrArg Host.Outcome.next ((powered_of_powerGood hp _).trans (takeKindByte_of_unknown hunknown desk fields s))
  · intro k code least most hmem desk fields s hp no lengthFits busy supervisorKind unpermitted
    obtain ⟨rfl, hrange⟩ := code_and_lenRange_of_mem_kindTable hmem
    have hfits : lengthFits ↔ lenAllowed k fields = true := by rw [lenAllowed_iff, hrange]
    have refused {r : Reason} (h : s.preTest desk k fields = some r) : no r := exec_command_of_preTest hp h
    refine ⟨fun hbad => ?_, fun hlen hbusy => ?_, fun hlen hfree hno => ?_, ?_, ?_, ?_⟩
    · exact refused (preTest_of_bad_length (mt hfits.2 hbad))
    · exact refused (preTest_of_busy (hfits.1 hlen) hbusy)
    · exact refused (preTest_of_unpermitted (hfits.1 hlen) hfree ⟨(supervisor_iff k).2 hno.1, hno.2⟩)
    · rintro hlen hfree rfl hother
      exact refused (preTest_of_out_of_sequence (hfits.1 hlen) hfree rfl (admits_putOn_eq_false hother))
    · rintro hlen hfree rfl hother
      exact refused (preTest_of_out_of_sequence (hfits.1 hlen) hfree rfl (admits_getOn_eq_false hother))
    · rintro hlen hfree rfl hother
      exact refused (preTest_of_out_of_sequence (hfits.1 hlen) hfree rfl (admits_listOn_eq_false hother))

end Sys2Proof.Machine
end

section
namespace Sys2Proof.Machine

/-! ### Characters and frames (R160, R163 to R165, R168) -/

/-! #### A line written twice, a partial frame discarded -/

theorem setLine_setLine (s : State) (desk : Desk) (x y : LineUnit) : (s.setLine desk x).setLine desk y = s.setLine desk y := by
  simp only [State.setLine, Vector.set_set]

theorem Receive.partly_iff (r : Receive) : r.partly = true ↔ r ≠ .hunting ∧ r ≠ .inBreak := by
  cases r <;> simp [Receive.partly]

theorem discard_setLine (s : State) (desk : Desk) (l : LineUnit) :
    (s.setLine desk l).discard desk = (s.setLine desk l.hunt).countDiscard desk := by
  rw [State.discard, setLine_lines_self, setLine_setLine]

/-! #### A byte and a framing error in each receive state (R163) -/

/-- The state after a byte of the desk that leaves its line in a receive state: marking, with the inter-byte timer at 0
(R163, R164, R166). -/
def State.hearing (s : State) (desk : Desk) (r : Receive) : State := s.setLine desk ((s.lines[desk].sampled false).expects r)

theorem hearing_receive (s : State) (desk : Desk) (r : Receive) : (s.hearing desk r).lines[desk].receive = r := by
  rw [State.hearing, setLine_lines_self]
  rfl

theorem hearing_hearing (s : State) (desk : Desk) (r q : Receive) : (s.hearing desk r).hearing desk q = s.hearing desk q := by
  rw [State.hearing, State.hearing, setLine_setLine, setLine_lines_self]
  rfl

theorem sampled_receive (l : LineUnit) (spacing : Bool) : (l.sampled spacing).receive = l.receive := rfl

section Characters
variable {s : State} {desk : Desk}

theorem exec_byteReceived (hp : s.powerGood = true) (b : Byte) : exec (.byteReceived desk b) s = .next (s.receiveByte desk b) :=
  congrArg Host.Outcome.next (powered_of_powerGood hp _)

theorem exec_framingError (hp : s.powerGood = true) : exec (.framingError desk) s = .next (s.receiveError desk) :=
  congrArg Host.Outcome.next (powered_of_powerGood hp _)

theorem receiveByte_of_inBreak (h : s.lines[desk].receive = .inBreak) (b : Byte) : s.receiveByte desk b = s := if_pos h

theorem receiveError_of_inBreak (h : s.lines[desk].receive = .inBreak) : s.receiveError desk = s := if_pos h

/-- Outside BREAK a character is taken by a line that has sampled its stop bit. -/
theorem receiveByte_of_receiving (h : s.lines[desk].receive ≠ .inBreak) (b : Byte) :
    s.receiveByte desk b = (s.setLine desk (s.lines[desk].sampled false)).takeByte desk b := if_neg h

theorem receiveError_of_hunting (h : s.lines[desk].receive = .hunting) :
    s.receiveError desk = s.setLine desk (s.lines[desk].sampled true) := by
  rw [State.receiveError, if_neg (by rw [h]; exact nofun)]
  dsimp only
  rw [setLine_lines_self, sampled_receive, h]
  rfl

/-- A framing error ends a frame in reception. -/
theorem receiveError_of_partly (h : s.lines[desk].receive.partly = true) :
    s.receiveError desk = (s.setLine desk (s.lines[desk].sampled true).hunt).countDiscard desk := by
  rw [State.receiveError, if_neg ((Receive.partly_iff _).1 h).2]
  dsimp only
  rw [setLine_lines_self, sampled_receive, if_pos h, discard_setLine]

theorem receiveByte_of_hunting (h : s.lines[desk].receive = .hunting) (b : Byte) :
    s.receiveByte desk b = if b = 0xA7 then s.hearing desk .length else s.setLine desk (s.lines[desk].sampled false) := by
  rw [receiveByte_of_receiving (by rw [h]; exact nofun)]
  simp only [State.takeByte, setLine_lines_self, sampled_receive, h, setLine_setLine]
  rfl

theorem receiveByte_of_length (h : s.lines[desk].receive = .length) {b : Byte} (hb : 1 ≤ b.toNat ∧ b.toNat ≤ 200) :
    s.receiveByte desk b = s.hearing desk (.body b.toNat []) := by
  rw [receiveByte_of_receiving (by rw [h]; exact nofun)]
  simp only [State.takeByte, setLine_lines_self, sampled_receive, h, if_pos hb, setLine_setLine]
  rfl

theorem receiveByte_of_bad_length (h : s.lines[desk].receive = .length) {b : Byte} (hb : ¬(1 ≤ b.toNat ∧ b.toNat ≤ 200)) :
    s.receiveByte desk b = (s.setLine desk (s.lines[desk].sampled false).hunt).countDiscard desk := by
  rw [receiveByte_of_receiving (by rw [h]; exact nofun)]
  simp only [State.takeByte, setLine_lines_self, sampled_receive, h, if_neg hb, discard_setLine]

theorem receiveByte_of_body {len : Nat} {bytes : List Byte} (h : s.lines[desk].receive = .body len bytes) (b : Byte) :
    s.receiveByte desk b =
      s.hearing desk (if bytes.length + 1 = len then .check len (bytes ++ [b]) none else .body len (bytes ++ [b])) := by
  rw [receiveByte_of_receiving (by rw [h]; exact nofun)]
  simp only [State.takeByte, setLine_lines_self, sampled_receive, h, setLine_setLine, List.length_append, List.length_singleton]
  rfl

theorem receiveByte_of_check {len : Nat} {bytes : List Byte} (h : s.lines[desk].receive = .check len bytes none) (b : Byte) :
    s.receiveByte desk b = s.hearing desk (.check len bytes (some b)) := by
  rw [receiveByte_of_receiving (by rw [h]; exact nofun)]
  simp only [State.takeByte, setLine_lines_self, sampled_receive, h, setLine_setLine]
  rfl

theorem receiveByte_of_second_check {len : Nat} {bytes : List Byte} {hi : Byte}
    (h : s.lines[desk].receive = .check len bytes (some hi)) (b : Byte) :
    s.receiveByte desk b = (s.setLine desk (s.lines[desk].sampled false)).judge desk len bytes (checkOfTwo hi b) := by
  rw [receiveByte_of_receiving (by rw [h]; exact nofun)]
  simp only [State.takeByte, setLine_lines_self, sampled_receive, h]

end Characters

/-! #### The judgement of a completed frame (R165, R168) -/

section Judgement
variable {s : State} {desk : Desk} {len : Nat} {bytes : List Byte} {check : Check}

theorem judge_of_bad_check (h : check ≠ checkOf (byteOf len :: bytes)) : s.judge desk len bytes check = s.discard desk :=
  if_pos h.symm

variable (h : check = checkOf (byteOf len :: bytes))
include h

theorem judge_of_overrun (hfull : 4 ≤ s.lines[desk].replies.length) : s.judge desk len bytes check = s.discard desk := by
  rw [State.judge, if_neg (not_not.2 h.symm)]
  exact if_pos hfull

theorem judge_of_sound (hroom : s.lines[desk].replies.length < 4) :
    s.judge desk len bytes check = takeBody desk bytes (s.setLine desk s.lines[desk].hunt) := by
  rw [State.judge, if_neg (not_not.2 h.symm)]
  exact if_neg (Nat.not_le.2 hroom)

end Judgement

/-- Settles O29: a character by the receive state it meets, a completed frame by its check, the reply queue and its kind byte. -/
theorem charactersMakeFramesThatAreJudged : Obligations.CharactersMakeFramesThatAreJudged := by
  refine ⟨?_, ?_⟩
  · intro desk b s hp run bad heard becomes discarded spaced cutOff
    have ran {t : State} (h : s.receiveByte desk b = t) : run = .next t := (exec_byteReceived hp b).trans (congrArg _ h)
    have failed {t : State} (h : s.receiveError desk = t) : bad = .next t := (exec_framingError hp).trans (congrArg _ h)
    have cut (h : s.lines[desk].receive.partly = true) : cutOff := failed (receiveError_of_partly h)
    refine ⟨fun h => ⟨fun hb => ?_, fun hb => ?_, ?_⟩, fun h => ⟨fun h1 h2 => ?_, fun hb => ?_, ?_⟩,
      fun len bytes h => ⟨fun hlast => ?_, fun hmore => ?_, ?_⟩, fun len bytes h => ⟨?_, ?_⟩, fun len bytes hi h => ⟨?_, ?_⟩,
      fun h => ⟨?_, ?_⟩⟩
    · exact ran ((receiveByte_of_hunting h b).trans (by rw [if_pos hb]; rfl))
    · exact ran ((receiveByte_of_hunting h b).trans (by rw [if_neg hb]; rfl))
    · exact failed (receiveError_of_hunting h)
    · exact ran (receiveByte_of_length h ⟨h1, h2⟩)
    · exact ran (receiveByte_of_bad_length h (by omega))
    · exact cut (by rw [h]; rfl)
    · exact ran ((receiveByte_of_body h b).trans (by rw [if_pos hlast]; rfl))
    · exact ran ((receiveByte_of_body h b).trans (by rw [if_neg hmore]; rfl))
    · exact cut (by rw [h]; rfl)
    · exact ran (receiveByte_of_check h b)
    · exact cut (by rw [h]; rfl)
    · exact ran (receiveByte_of_second_check h b)
    · exact cut (by rw [h]; rfl)
    · exact ran (receiveByte_of_inBreak h b)
    · exact failed (receiveError_of_inBreak h)
  · intro desk len kind fields check s hp hunting discarded sound
    refine ⟨judge_of_bad_check, judge_of_overrun, fun hcheck hroom => ⟨?_, fun hunknown => ?_⟩⟩
    · rintro k rfl
      rw [judge_of_sound hcheck hroom, exec_command_of_powerGood (s := s.setLine desk hunting) hp]
      exact congrArg Host.Outcome.next (takeKindByte_code k desk fields _).symm
    · rw [judge_of_sound hcheck hroom]
      exact takeKindByte_of_unknown hunknown desk fields _

/-! #### A frame sent byte by byte (R162, R163, R168) -/

section Frame
variable {s : State} {desk : Desk}

variable (hp : s.powerGood = true)
include hp

theorem runCommands_byteReceived (b : Byte) (cs : List Instr) :
    runCommands (.byteReceived desk b :: cs) s = runCommands cs (s.receiveByte desk b) := by
  rw [runCommands, exec_byteReceived hp]

/-- The bytes of the body of a frame, taken one after another from where the body stands. -/
theorem runCommands_body (cs : List Instr) {len : Nat} (rest : List Byte) (hrest : rest ≠ []) (bytes : List Byte)
    (hlen : bytes.length + rest.length = len) :
    runCommands (rest.map (.byteReceived desk) ++ cs) (s.hearing desk (.body len bytes)) =
      runCommands cs (s.hearing desk (.check len (bytes ++ rest) none)) := by
  induction rest generalizing bytes with
  | nil => exact absurd rfl hrest
  | cons b rest ih =>
    rw [List.length_cons] at hlen
    rw [List.map_cons, List.cons_append, runCommands_byteReceived (s := s.hearing desk _) hp,
      receiveByte_of_body (hearing_receive s desk _), hearing_hearing]
    cases rest with
    | nil =>
      rw [if_pos (by simpa using hlen)]
      rfl
    | cons c rest =>
      rw [if_neg (by rw [List.length_cons] at hlen; omega)]
      have hnext := ih (List.cons_ne_nil c rest) (bytes ++ [b]) (by rw [List.length_append, List.length_singleton]; omega)
      rw [List.append_assoc] at hnext
      exact hnext

/-- LEAD, LEN and the body bring a hunting line to the check of the frame. -/
theorem runCommands_frame_head (hhunt : s.lines[desk].receive = .hunting) {body : List Byte} (hbody : body ≠ [])
    (hlen : body.length ≤ 200) (cs : List Instr) :
    runCommands (.byteReceived desk 0xA7 :: .byteReceived desk (byteOf body.length) :: (body.map (.byteReceived desk) ++ cs)) s =
      runCommands cs (s.hearing desk (.check body.length body none)) := by
  have hbyte : (byteOf body.length).toNat = body.length := toNat_byteOf (by omega)
  have hpos : 1 ≤ body.length := List.length_pos_of_ne_nil hbody
  rw [runCommands_byteReceived hp, receiveByte_of_hunting hhunt, if_pos rfl,
    runCommands_byteReceived (s := s.hearing desk _) hp,
    receiveByte_of_length (hearing_receive s desk _) (by rw [hbyte]; exact ⟨hpos, hlen⟩), hearing_hearing, hbyte,
    runCommands_body hp cs body hbody [] (by simp), List.nil_append]

/-- The two bytes of the check, high byte first, complete a frame that is judged sound while there is room for its reply. -/
theorem runCommands_frame_check (hroom : s.lines[desk].replies.length < 4) (body : List Byte) {check : Check}
    (hcheck : check = checkOf (byteOf body.length :: body)) :
    runCommands [.byteReceived desk (byteOf (check.toNat / 256)), .byteReceived desk (byteOf (check.toNat % 256))]
        (s.hearing desk (.check body.length body none)) =
      .next (takeBody desk body (s.setLine desk (s.lines[desk].sampled false).hunt)) := by
  have hhalf := hearing_receive s desk (.check body.length body (some (byteOf (check.toNat / 256))))
  rw [runCommands_byteReceived (s := s.hearing desk _) hp, receiveByte_of_check (hearing_receive s desk _),
    hearing_hearing, runCommands_byteReceived (s := s.hearing desk _) hp, receiveByte_of_second_check hhalf, checkOfTwo_byteOf,
    State.hearing, setLine_setLine, setLine_lines_self, judge_of_sound hcheck (by rw [setLine_lines_self]; exact hroom),
    setLine_setLine, setLine_lines_self]
  rfl

end Frame

/-- Settles O30: LEAD, LEN and the body by what each byte leaves on the line, then the judgement of the sound frame. -/
theorem frameOfBytesIsTakenAsItsCommand : Obligations.FrameOfBytesIsTakenAsItsCommand := by
  intro desk k fields s hp hhunt hroom hfields body check frame
  have hlen : body.length ≤ 200 := Nat.succ_le_succ hfields
  have hframe : frame.map (Instr.byteReceived desk) =
      .byteReceived desk 0xA7 :: .byteReceived desk (byteOf body.length) :: (body.map (.byteReceived desk) ++
        [.byteReceived desk (byteOf (check.toNat / 256)), .byteReceived desk (byteOf (check.toNat % 256))]) := by
    simp only [frame, List.map_cons, List.map_append, List.map_nil, List.cons_append]
  rw [hframe, runCommands_frame_head hp hhunt (List.cons_ne_nil _ _) hlen, runCommands_frame_check hp hroom body rfl,
    exec_command_of_powerGood (s := s.setLine desk _) hp]
  exact congrArg Host.Outcome.next (takeKindByte_code k desk fields _)

end Sys2Proof.Machine
end

section
namespace Sys2Proof.Machine

/-! ### CANCEL (R172) -/

section Cancel
variable {s : State} {desk : Desk}

/-- CANCEL is admitted whatever the desk has in progress (R171). -/
theorem exec_cancel (hp : s.powerGood = true) : exec (.cancel desk []) s = .next (s.cancel desk) := by
  have hpre : s.preTest desk .cancel [] = none := by
    rw [preTest_of_allowed_length rfl, if_neg (fun h => h.2 rfl)]
    rfl
  have htaken := takeKind_eq_taking .cancel desk [] s
  rw [State.taking, hpre] at htaken
  exact (exec_command_of_powerGood hp .cancel desk []).trans (congrArg _ htaken)

theorem cancel_of_idle (h : s.desks[desk].inProgress = none) :
    s.cancel desk = s.done desk 0x0F ⟨false, false, false, true⟩ [] .clear := by
  rw [State.cancel, h]
  rfl

variable {w : Waiting} (hw : s.desks[desk].inProgress = some w)
include hw

/-- The request that waits is answered CANCELLED with its kind and flags, then CANCEL is answered DONE (R172); `t` is the state that
the effect of the request's row leads to, `u` the state after the answer to it. -/
theorem cancel_of_cancellable (h : s.cancellable desk w = true) {t u : State} {kind : Byte} {flags : ReplyFlags}
    (heffect : s.cancelEffect desk w = t) (hkind : w.kind.code = kind) (hflags : w.flags = flags)
    (hafter : ((t.setInProgress desk none).refuse desk kind flags .cancelled).afterCancelled desk w = u) :
    s.cancel desk = (u.done desk 0x0F noFlags [] .clear).settle := by
  subst heffect hkind hflags hafter
  rw [State.cancel, hw]
  exact if_pos h

theorem cancel_of_past (h : s.cancellable desk w = false) : s.cancel desk = s.refuse desk 0x0F noFlags .notCancellable := by
  rw [State.cancel, hw]
  exact if_neg (by rw [h]; exact Bool.false_ne_true)

end Cancel

section OfFile
variable {s : State} {desk : Desk} {h : HandleNo} {w : WriteHandle} (hh : s.handle desk h = .writing w)
include hh

theorem cancellable_file : s.cancellable desk (.file h) = !w.placed := by
  simp only [State.cancellable, hh]

theorem reopen_of_writing : s.reopen desk h = s.setHandle desk h (.writing { w with state := .isOpen }) := by
  simp only [State.reopen, hh]

end OfFile

/-- Settles O8: by what is in progress, and for a FILE and a SPIKE by whether its change may still be taken back. -/
theorem cancelAnswersTheWaitingRequestFirst : Obligations.CancelAnswersTheWaitingRequestFirst := by
  intro desk s hp nothingFlagged both past
  have cancelled {t : State} (h : s.cancel desk = t) : exec (.cancel desk []) s = .next t := (exec_cancel hp).trans (congrArg _ h)
  refine ⟨fun hidle => cancelled (cancel_of_idle hidle), fun on h offset n hw => ?_, fun on h offset data hw => ?_,
    fun h w hw hh => ⟨fun hplaced => ?_, fun hplaced => ?_⟩, fun d n lowered hw => ⟨fun hcarried => ?_, fun hcarried => ?_⟩,
    fun d hw => ?_⟩
  · exact cancelled (cancel_of_cancellable hw rfl rfl (getKind_code on) rfl rfl)
  · exact cancelled (cancel_of_cancellable hw rfl rfl (putKind_code on) rfl rfl)
  · exact cancelled (cancel_of_cancellable hw (by rw [cancellable_file hh, hplaced]; rfl) (reopen_of_writing hh) rfl rfl rfl)
  · exact cancelled (cancel_of_past hw (by rw [cancellable_file hh, hplaced]; rfl))
  · exact cancelled (cancel_of_cancellable hw (congrArg not hcarried) rfl rfl rfl rfl)
  · exact cancelled (cancel_of_past hw (congrArg not hcarried))
  · exact cancelled (cancel_of_cancellable hw rfl rfl rfl rfl rfl)

end Sys2Proof.Machine
end

section
namespace Sys2Proof.Machine

/-! ### The desk reset (R145, R181, R182) -/

/-! #### What the reset reaches -/

/-- A state that differs only in its work lists, images, channel, pages and desks. -/
def State.OnWork (s t : State) : Prop :=
  t = { s with scheds := t.scheds, images := t.images, channel := t.channel, pool := t.pool, desks := t.desks }

theorem State.OnWork.refl (s : State) : s.OnWork s := rfl

theorem State.OnWork.trans {s t u : State} (h : s.OnWork t) (k : t.OnWork u) : s.OnWork u := by
  unfold State.OnWork at *
  rw [k, h]

theorem State.OnWork.setHandle {s t : State} (h : s.OnWork t) (desk : Desk) (n : HandleNo) (x : Handle) :
    (s.setHandle desk n x).OnWork (t.setHandle desk n x) := by
  unfold State.OnWork at *
  rw [h]
  rfl

theorem State.OnWork.handle {s t : State} (h : s.OnWork t) : t.handle = s.handle := by
  unfold State.OnWork at h
  rw [h]
  rfl

theorem foldl_onWork {α : Type} {f : State → α → State} (hf : ∀ (s : State) (a : α), s.OnWork (f s a)) (l : List α) (s : State) :
    s.OnWork (l.foldl f s) := by
  induction l generalizing s with
  | nil => exact .refl s
  | cons a l ih => exact (hf s a).trans (ih (f s a))

section OnWork
variable (s : State) (d : DriveNo)

theorem setImage_onWork (x : Option Image) : s.OnWork (s.setImage d x) := rfl

theorem setDesk_onWork (desk : Desk) (x : DeskContext) : s.OnWork (s.setDesk desk x) := rfl

theorem raise_onWork (ev : Event) : s.OnWork (s.raise ev) := by
  have h := raise_frame s ev
  unfold State.OnWork
  rw [h]

theorem withdraw_onWork (p : PageNo) : s.OnWork (s.withdraw d p) := by
  unfold State.withdraw
  dsimp only
  split
  · rfl
  · split
    · rfl
    · split <;> rfl

theorem giveUpReads_onWork (table : List ReadEntry) : s.OnWork (s.giveUpReads d table) := by
  refine foldl_onWork (fun s e => ?_) table s
  cases e with
  | absent => rfl
  | reading p => exact withdraw_onWork s d p
  | present p => rfl

theorem giveUpWrites_onWork (table : List WriteEntry) : s.OnWork (s.giveUpWrites d table) := by
  refine foldl_onWork (fun s e => ?_) table s
  cases e with
  | unstarted | filling | written => rfl
  | writing p => exact withdraw_onWork s d p

theorem unbind_onWork (n : SlotNo) (b : Binding) : s.OnWork (s.unbind d n b) := by
  unfold State.unbind
  split
  · rfl
  · split
    · rfl
    · split
      · rfl
      · split <;> rfl

theorem dropHold_onWork (n : SlotNo) : s.OnWork (s.dropHold d n) := by
  cases hholder : (s.slot d n).holder with
  | none => rw [dropHold_of_unheld hholder]; rfl
  | some e => rw [dropHold_of_held hholder]; rfl

theorem releaseWithEvent_onWork (n : SlotNo) : s.OnWork (s.releaseWithEvent d n) := by
  unfold State.releaseWithEvent
  dsimp only
  split
  · rfl
  · exact (dropHold_onWork s d n).trans (raise_onWork _ _)

theorem withdrawCatalogue_onWork (q : CatNo) : s.OnWork (s.withdrawCatalogue d q) := by
  have hleft : s.OnWork (s.leaveSystem fun w => w == .catalogue d q) := rfl
  unfold State.withdrawCatalogue
  dsimp only
  split
  · exact hleft.trans (withdraw_onWork _ d _)
  · split
    · split
      · exact hleft.trans (withdraw_onWork _ d _)
      · exact hleft
    · exact hleft

theorem takeBackRemoval_onWork (n : SlotNo) : s.OnWork (s.takeBackRemoval d n) := by
  unfold State.takeBackRemoval
  dsimp only
  split
  · split
    · rfl
    · exact (setImage_onWork s d _).trans ((withdrawCatalogue_onWork _ d _).trans (setImage_onWork _ d _))
  · split <;> rfl
  · rfl

theorem dropsStory_onWork (w : WriteHandle) : s.OnWork (s.dropsStory w) := by
  have hgiven : s.OnWork ((s.giveUpWrites w.drive w.table).giveBack w.drive w.reservation) :=
    (giveUpWrites_onWork s w.drive w.table).trans (setImage_onWork _ w.drive _)
  unfold State.dropsStory
  dsimp only
  split
  · exact hgiven.trans ((releaseWithEvent_onWork _ w.drive w.slot).trans (setImage_onWork _ w.drive _))
  · exact hgiven

end OnWork

/-! #### The request in progress is dropped (R181) -/

section Dropping
variable {s : State} {desk : Desk}

theorem dropInProgress_of_idle (h : s.desks[desk].inProgress = none) : s.dropInProgress desk = s := by
  rw [State.dropInProgress, h]

theorem dropInProgress_of_waiting {w : Waiting} (h : s.desks[desk].inProgress = some w) :
    s.dropInProgress desk = (s.dropEffect desk w).setInProgress desk none := by
  rw [State.dropInProgress, h]

theorem dropEffect_spike_of_carried {d : DriveNo} {n : SlotNo} (lowered : Bool) (h : (s.slot d n).carried = true) :
    s.dropEffect desk (.spike d n lowered) = s := if_pos h

theorem dropEffect_spike_of_uncarried {d : DriveNo} {n : SlotNo} (lowered : Bool) (h : (s.slot d n).carried = false) :
    s.dropEffect desk (.spike d n lowered) = s.takeBackRemoval d n := if_neg (by rw [h]; exact Bool.false_ne_true)

/-- Without an image there is no mark to clear. -/
theorem setUnmounting_of_no_image {d : DriveNo} (h : s.images[d] = none) (b : Bool) : s.setUnmounting d b = s := by
  rw [State.setUnmounting, h, Option.map_none, ← h]
  simp only [State.setImage, Fin.getElem_fin, Vector.set_getElem_self]

theorem setUnmounting_of_image {d : DriveNo} {img : Image} (h : s.images[d] = some img) (b : Bool) :
    s.setUnmounting d b = s.setImage d (some { img with unmounting := b }) := by
  rw [State.setUnmounting, h, Option.map_some]

variable (s desk)

theorem dropEffect_onWork (w : Waiting) : s.OnWork (s.dropEffect desk w) := by
  cases w with
  | get | put | file | unmount => rfl
  | spike d n lowered =>
    cases hcarried : (s.slot d n).carried with
    | true => rw [dropEffect_spike_of_carried lowered hcarried]; rfl
    | false => rw [dropEffect_spike_of_uncarried lowered hcarried]; exact takeBackRemoval_onWork s d n

theorem dropInProgress_onWork : s.OnWork (s.dropInProgress desk) := by
  cases hw : s.desks[desk].inProgress with
  | none => rw [dropInProgress_of_idle hw]; rfl
  | some w => rw [dropInProgress_of_waiting hw]; exact (dropEffect_onWork s desk w).trans (setDesk_onWork _ desk _)

end Dropping

/-! #### Each handle ends by its state (R145) -/

/-- What a desk reset leaves of a handle: a COMMITTING one with the mark of the reset, nothing of any other (R145). -/
def Handle.ended : Handle → Handle
  | .writing w => if w.state = .committing then .writing { w with orphan := true } else .free
  | _ => .free

theorem Handle.ended_eq_free_or (x : Handle) :
    x.ended = .free ∨ ∃ w, x = .writing w ∧ w.state = .committing ∧ x.ended = .writing { w with orphan := true } := by
  cases x with
  | writing w =>
    by_cases hw : w.state = .committing
    · exact .inr ⟨w, rfl, hw, if_pos hw⟩
    · exact .inl (if_neg hw)
  | free | reading | lost => exact .inl rfl

theorem setHandle_self (s : State) (desk : Desk) (h : HandleNo) : s.setHandle desk h (s.handle desk h) = s := by
  simp only [State.setHandle, State.handle, Fin.getElem_fin, Vector.set_getElem_self]

section Ending
variable {s : State} {desk : Desk} {h : HandleNo}

theorem endHandle_of_free (hh : s.handle desk h = .free) : s.endHandle desk h = s := by
  rw [State.endHandle, hh]

theorem endHandle_of_lost {l : LostHandle} (hh : s.handle desk h = .lost l) : s.endHandle desk h = s.setHandle desk h .free := by
  rw [State.endHandle, hh]

theorem endHandle_of_reading {r : ReadHandle} (hh : s.handle desk h = .reading r) :
    s.endHandle desk h = ((s.giveUpReads r.drive r.table).unbind r.drive r.slot r.binding).setHandle desk h .free := by
  rw [State.endHandle, hh]
  rfl

variable {w : WriteHandle} (hh : s.handle desk h = .writing w)
include hh

theorem endHandle_of_committing (hw : w.state = .committing) :
    s.endHandle desk h = s.setHandle desk h (.writing { w with orphan := true }) := by
  simp only [State.endHandle, hh, hw]

/-- A handle that is WRITE-OPEN or FAILED is dropped. -/
theorem endHandle_of_not_committing (hw : w.state ≠ .committing) :
    s.endHandle desk h = (s.dropsStory w).setHandle desk h .free := by
  rw [← dropWrite_eq]
  cases hstate : w.state with
  | committing => exact absurd hstate hw
  | isOpen | failed => simp only [State.endHandle, hh, hstate]

end Ending

/-- Of the handles, lines and tallies the end of a handle changes that handle only. -/
theorem endHandle_onWork (s : State) (desk : Desk) (h : HandleNo) :
    (s.setHandle desk h (s.handle desk h).ended).OnWork (s.endHandle desk h) := by
  cases hh : s.handle desk h with
  | free =>
    have hself : s.setHandle desk h .free = s := by rw [← hh, setHandle_self]
    rw [endHandle_of_free hh]
    exact (congrArg (State.OnWork · s) hself).mpr (.refl s)
  | lost l => rw [endHandle_of_lost hh]; rfl
  | reading r =>
    rw [endHandle_of_reading hh]
    exact ((giveUpReads_onWork s r.drive r.table).trans (unbind_onWork _ r.drive r.slot r.binding)).setHandle desk h .free
  | writing w =>
    by_cases hw : w.state = .committing
    · rw [endHandle_of_committing hh hw, Handle.ended, if_pos hw]
      rfl
    · rw [endHandle_of_not_committing hh hw, Handle.ended, if_neg hw]
      exact (dropsStory_onWork s w).setHandle desk h .free

/-! #### The holds that remain (R182) -/

section Holds
variable {s : State} {d : DriveNo} {desk : Desk}

theorem heldBy_of_no_image (h : s.images[d] = none) : s.heldBy d desk = [] := by
  rw [State.heldBy, h]

variable {img : Image} (hi : s.images[d] = some img)
include hi

theorem heldBy_of_image : s.heldBy d desk = allSlots.filter fun n => (img.slots[n]).holder == some desk := by
  rw [State.heldBy, hi]

theorem heldBy_pairwise : (s.heldBy d desk).Pairwise fun m n => m < n := by
  rw [heldBy_of_image hi]
  exact allSlots_pairwise.filter _

theorem mem_heldBy_iff (n : SlotNo) : n ∈ s.heldBy d desk ↔ (img.slots[n]).holder = some desk := by
  rw [heldBy_of_image hi, List.mem_filter, beq_iff_eq]
  exact and_iff_right (mem_allSlots n)

theorem releaseWithEvent_of_holder {n : SlotNo} (hn : (img.slots[n]).holder = some desk) :
    s.releaseWithEvent d n =
      ((s.setImage d (some (img.setSlot n { img.slots[n] with holder := none }))).setDesk desk
        { s.desks[desk] with holds := s.desks[desk].holds - 1 }).raise
        (.released d (img.slots[n]).slug desk (img.slots[n]).version) := by
  have hslot := slot_of_image hi n
  rw [releaseWithEvent_of_held (by rw [hslot]; exact hn), hslot, setSlot_of_image hi]

end Holds

theorem releaseHolds_onWork (s : State) (desk : Desk) : s.OnWork (s.releaseHolds desk) :=
  foldl_onWork (fun s d => foldl_onWork (fun s n => releaseWithEvent_onWork s d n) (s.heldBy d desk) s) allDrives s

/-! #### The whole reset (R181) -/

/-- A reset leaves of the lines, settings and tallies all, of the handles what each one's state leaves of it. -/
theorem deskReset_onWork (s : State) (desk : Desk) :
    ((s.setHandle desk 0 (s.handle desk 0).ended).setHandle desk 1 (s.handle desk 1).ended).OnWork (s.deskReset desk) := by
  have hdrop := dropInProgress_onWork s desk
  have hfirst := (hdrop.setHandle desk 0 _).trans (endHandle_onWork (s.dropInProgress desk) desk 0)
  have hsecond := (hfirst.setHandle desk 1 _).trans (endHandle_onWork ((s.dropInProgress desk).endHandle desk 0) desk 1)
  have hone : ((s.dropInProgress desk).endHandle desk 0).handle desk 1 = s.handle desk 1 := by
    rw [hfirst.handle, State.setHandle_handle_of_ne _ _ _ _ _ _ (by simp)]
  rw [hone, hdrop.handle] at hsecond
  exact hsecond.trans ((releaseHolds_onWork _ desk).trans (setDesk_onWork _ desk .clear))

section Reset
variable (s : State) (desk : Desk)

theorem deskReset_lines : (s.deskReset desk).lines = s.lines := by
  rw [deskReset_onWork s desk]
  rfl

theorem deskReset_deskSettings : (s.deskReset desk).deskSettings = s.deskSettings := by
  rw [deskReset_onWork s desk]
  rfl

theorem deskReset_deskTallies : (s.deskReset desk).deskTallies = s.deskTallies := by
  rw [deskReset_onWork s desk]
  rfl

theorem deskReset_desk : (s.deskReset desk).desks[desk] = .clear := setDesk_desks_self ..

theorem deskReset_handle (h : HandleNo) : (s.deskReset desk).handle desk h = (s.handle desk h).ended := by
  rw [(deskReset_onWork s desk).handle]
  fin_cases h
  · exact (State.setHandle_handle_of_ne _ _ _ _ _ _ (by simp)).trans (State.setHandle_handle_self ..)
  · exact State.setHandle_handle_self ..

end Reset

end Sys2Proof.Machine
end

section
namespace Sys2Proof.Machine

/-! ### Gaps, breaks and the ends of replies (R161, R164 to R167, R184) -/

/-! #### Gaps and the end of a break (R164, R166) -/

section Gaps
variable {s : State} {desk : Desk}

theorem exec_interByteTimeout (hp : s.powerGood = true) : exec (.interByteTimeout desk) s = .next (s.gapExpires desk) :=
  congrArg Host.Outcome.next (powered_of_powerGood hp _)

theorem exec_lineBreakEnd (hp : s.powerGood = true) : exec (.lineBreakEnd desk) s = .next (s.breakEnds desk) :=
  congrArg Host.Outcome.next (powered_of_powerGood hp _)

theorem gapExpires_of_partly (h : s.lines[desk].receive.partly = true) : s.gapExpires desk = s.discard desk := if_pos h

theorem gapExpires_of_not_partly (h : ¬s.lines[desk].receive.partly = true) : s.gapExpires desk = s := if_neg h

theorem breakEnds_of_inBreak (h : s.lines[desk].receive = .inBreak) :
    s.breakEnds desk = s.setLine desk (s.lines[desk].sampled false).hunt := by
  rw [State.breakEnds, sampled_receive, if_pos h]

theorem breakEnds_of_not_inBreak (h : s.lines[desk].receive ≠ .inBreak) :
    s.breakEnds desk = s.setLine desk (s.lines[desk].sampled false) := by
  rw [State.breakEnds, sampled_receive, if_neg h]

end Gaps

/-! #### A new line rate and the last stop bit of a reply (R161, R167, R184) -/

section Rates
variable {s : State} {target : Desk} {sending : Bool} {rate : Rate}

theorem takeRate_of_same (h : s.lines[target].rate = rate) : s.takeRate target sending rate = s := if_pos h

theorem takeRate_of_not_partly (h : s.lines[target].rate ≠ rate) (hr : ¬s.lines[target].receive.partly = true) :
    s.takeRate target sending rate = s.setLine target (s.lines[target].withRate sending rate) := by
  rw [State.takeRate]
  dsimp only
  rw [if_neg h, if_neg hr]

theorem takeRate_of_partly (h : s.lines[target].rate ≠ rate) (hr : s.lines[target].receive.partly = true) :
    s.takeRate target sending rate =
      (s.setLine target (s.lines[target].withRate sending rate).hunt).countDiscard target := by
  rw [State.takeRate]
  dsimp only
  rw [if_neg h, if_pos hr, discard_setLine]

end Rates

/-- The rate that a sent reply carried is taken by its target, which may be sending if it is not the desk itself (R161, R184). -/
theorem takeReplyRate_some (s : State) (desk target : Desk) (rate : Rate) :
    s.takeReplyRate desk (some (target, rate)) =
      s.takeRate target (decide (target ≠ desk ∧ (s.lines[target].replies ≠ [] ∨ s.lines[target].cutOff ≠ none))) rate := by
  have hsending : (target != desk && s.lines[target].sending) =
      decide (target ≠ desk ∧ (s.lines[target].replies ≠ [] ∨ s.lines[target].cutOff ≠ none)) := by
    rw [Bool.eq_iff_iff, Bool.and_eq_true, bne_iff_ne, LineUnit.sending_iff, decide_eq_true_iff]
  rw [State.takeReplyRate, hsending]

section Sent
variable {s : State} {desk : Desk}

theorem exec_replySent (hp : s.powerGood = true) : exec (.replySent desk) s = .next (s.sent desk) :=
  congrArg Host.Outcome.next (powered_of_powerGood hp _)

theorem sent_of_cutRate {change : Desk × Rate} (h : s.lines[desk].cutRate = some change) :
    s.sent desk =
      (s.setLine desk { s.lines[desk] with cutOff := none, cutRate := none, oldRate := none }).takeReplyRate desk (some change) := by
  rw [State.sent]
  dsimp only
  rw [if_pos (by rw [h]; rfl), State.cutEnds, h]

theorem sent_of_no_reply (h : s.lines[desk].cutRate = none) (hr : s.lines[desk].replies = []) : s.sent desk = s := by
  simp only [State.sent, h, hr, Option.isSome_none, Bool.false_eq_true, if_false]

theorem sent_of_reply (h : s.lines[desk].cutRate = none) {r : Reply} {rest : List Reply} (hr : s.lines[desk].replies = r :: rest) :
    s.sent desk =
      (s.setLine desk { s.lines[desk] with replies := rest, progress := 0, oldRate := none, cutOff := none }).takeReplyRate desk
        r.rateChange := by
  simp only [State.sent, h, hr, Option.isSome_none, Bool.false_eq_true, if_false]

end Sent

/-! #### What a break leaves of what is being sent (R166) -/

section Broken
variable {l : LineUnit}

theorem sentWhole_iff (l : LineUnit) :
    l.sentWhole = true ↔ l.cutOff = none ∧ ∃ r rest, l.replies = r :: rest ∧ 100000 * r.frame.length ≤ l.progress := by
  rw [LineUnit.sentWhole, Bool.and_eq_true, Bool.and_eq_true, decide_eq_true_iff, Option.isNone_iff_eq_none, and_assoc]
  refine and_congr_right fun _ => ?_
  cases l.replies with
  | nil => simp
  | cons r rest => simp [replyBits, characterBits]

theorem characterLeft_of_cut {n : Nat} (h : l.cutOff = some n) : l.characterLeft = some n := by
  rw [LineUnit.characterLeft, h]

theorem characterLeft_of_no_reply (h : l.cutOff = none) (hr : l.replies = []) : l.characterLeft = none := by
  rw [LineUnit.characterLeft, h, hr]
  exact if_neg (Nat.not_lt_zero _)

theorem characterLeft_of_reply (h : l.cutOff = none) {r : Reply} {rest : List Reply} (hr : l.replies = r :: rest) :
    l.characterLeft = if l.progress < 100000 * r.frame.length then some (100000 - l.progress % 100000) else none := by
  rw [LineUnit.characterLeft, h, hr]
  rfl

theorem rateLeft_of_cut {n : Nat} (h : l.cutOff = some n) : l.rateLeft = l.cutRate := by
  rw [LineUnit.rateLeft, h]

theorem rateLeft_of_no_reply (h : l.cutOff = none) (hr : l.replies = []) : l.rateLeft = none := by
  rw [LineUnit.rateLeft, h, hr]

theorem rateLeft_of_reply (h : l.cutOff = none) {r : Reply} {rest : List Reply} (hr : l.replies = r :: rest) :
    l.rateLeft = if 100000 * (r.frame.length - 1) ≤ l.progress then r.rateChange else none := by
  rw [LineUnit.rateLeft, h, hr]
  rfl

theorem broken_eq {left : Option Nat} {carried : Option (Desk × Rate)} (hleft : l.characterLeft = left)
    (hcarried : l.rateLeft = carried) :
    l.broken = { l with receive := .inBreak, gap := none, breakTimer := 1000, spacing := true, replies := [], progress := 0,
                        cutOff := left, cutRate := carried, oldRate := if left = none then none else l.oldRate } := by
  subst hleft hcarried
  unfold LineUnit.broken
  cases l.characterLeft <;> rfl

end Broken

/-! #### A break (R166, R181) -/

/-- What a break makes of a state that a reply sent whole has left, up to what follows at once (R166). -/
def State.brokenOn (u : State) (desk : Desk) : State :=
  ((if u.lines[desk].receive ≠ .hunting ∧ u.lines[desk].receive ≠ .inBreak then u.countDiscard desk else u).setLine desk
    u.lines[desk].broken).deskReset desk

section Breaks
variable {s : State} {desk : Desk}

theorem exec_lineBreak (hp : s.powerGood = true) : exec (.lineBreak desk) s = .next (s.breaks desk) :=
  congrArg Host.Outcome.next (powered_of_powerGood hp _)

theorem breaks_of_inBreak (h : s.lines[desk].receive = .inBreak) : s.breaks desk = s := if_pos h

theorem breaks_of_not_inBreak (h : s.lines[desk].receive ≠ .inBreak) :
    s.breaks desk = ((if s.lines[desk].sentWhole = true then s.sent desk else s).brokenOn desk).settle := by
  rw [State.breaks, if_neg h]
  generalize (if s.lines[desk].sentWhole = true then s.sent desk else s) = u
  have hline :
      (if u.lines[desk].receive ≠ .hunting ∧ u.lines[desk].receive ≠ .inBreak then u.countDiscard desk else u).lines[desk] =
        u.lines[desk] := by split <;> rfl
  simp only [Receive.partly_iff]
  rw [hline, State.brokenOn]

end Breaks

section BrokenOn
variable (u : State) (desk : Desk)

/-- The state in which a break resets the desk differs in the lines and tallies only. -/
theorem brokenOn_start_onLines :
    u.OnLines ((if u.lines[desk].receive ≠ .hunting ∧ u.lines[desk].receive ≠ .inBreak then u.countDiscard desk else u).setLine desk
      u.lines[desk].broken) := by
  split <;> rfl

theorem brokenOn_lines : (u.brokenOn desk).lines = u.lines.set desk u.lines[desk].broken := by
  rw [State.brokenOn, deskReset_lines]
  split <;> rfl

theorem brokenOn_desk : (u.brokenOn desk).desks[desk] = .clear := deskReset_desk ..

theorem brokenOn_deskSettings : (u.brokenOn desk).deskSettings = u.deskSettings := by
  rw [State.brokenOn, deskReset_deskSettings, brokenOn_start_onLines]

theorem brokenOn_deskTallies :
    (u.brokenOn desk).deskTallies =
      if u.lines[desk].receive ≠ .hunting ∧ u.lines[desk].receive ≠ .inBreak then (u.countDiscard desk).deskTallies
      else u.deskTallies := by
  rw [State.brokenOn, deskReset_deskTallies]
  split <;> rfl

theorem brokenOn_handle (h : HandleNo) : (u.brokenOn desk).handle desk h = (u.handle desk h).ended := by
  rw [State.brokenOn, deskReset_handle, brokenOn_start_onLines]
  rfl

end BrokenOn

/-- The rights, quotas and handles stand while a reply leaves (R161, R167). -/
theorem sent_deskSettings_and_handle (s : State) (desk : Desk) :
    (s.sent desk).deskSettings = s.deskSettings ∧ (s.sent desk).handle = s.handle := by
  rw [sent_onLines s desk]
  exact ⟨rfl, rfl⟩

/-- Settles O31: the gap and the break by the receive state, the reply by what it carries, the new rate by the line it meets, the reset
by what is in progress, by each handle and by the holds that remain. -/
theorem gapsBreaksAndSentReplies : Obligations.GapsBreaksAndSentReplies := by
  refine ⟨?_, ?_, ?_, ?_⟩
  · intro desk s hp l counted partly
    have gap {t : State} (h : s.gapExpires desk = t) : exec (.interByteTimeout desk) s = .next t :=
      (exec_interByteTimeout hp).trans (congrArg _ h)
    have breaking {t : State} (h : s.breaks desk = t) : exec (.lineBreak desk) s = .next t := (exec_lineBreak hp).trans (congrArg _ h)
    have ending {t : State} (h : s.breakEnds desk = t) : exec (.lineBreakEnd desk) s = .next t :=
      (exec_lineBreakEnd hp).trans (congrArg _ h)
    refine ⟨fun h => gap (gapExpires_of_partly ((Receive.partly_iff _).2 h)),
      fun h => gap (gapExpires_of_not_partly (mt (Receive.partly_iff _).1 h)),
      fun h => ⟨breaking (breaks_of_inBreak h), ending (breakEnds_of_inBreak h)⟩,
      fun h => ⟨ending (breakEnds_of_not_inBreak h), ?_⟩⟩
    intro whole u hwhole hnot m inFrame countedHere left carried broken
    have hu : (if s.lines[desk].sentWhole = true then s.sent desk else s) = u := by
      by_cases hw : whole
      · rw [if_pos ((sentWhole_iff _).2 hw)]
        exact Host.Outcome.next.inj ((exec_replySent hp).symm.trans (hwhole hw))
      · rw [if_neg (mt (sentWhole_iff _).1 hw), hnot hw]
    have hstands : u.deskSettings = s.deskSettings ∧ u.handle = s.handle := by
      rw [← hu]
      split
      · exact sent_deskSettings_and_handle s desk
      · exact ⟨rfl, rfl⟩
    have hbroken : m.broken = broken := by
      cases hc : m.cutOff with
      | some n => exact broken_eq (by simp only [left, hc, characterLeft_of_cut hc]) (by simp only [carried, hc, rateLeft_of_cut hc])
      | none =>
        cases hr : m.replies with
        | nil =>
          exact broken_eq (by simp only [left, hc, hr, characterLeft_of_no_reply hc hr])
            (by simp only [carried, hc, hr, rateLeft_of_no_reply hc hr])
        | cons r rest =>
          exact broken_eq (by simp only [left, hc, hr, characterLeft_of_reply hc hr])
            (by simp only [carried, hc, hr, rateLeft_of_reply hc hr])
    refine ⟨u.brokenOn desk, breaking (by rw [breaks_of_not_inBreak h, hu]), ?_, ?_, ?_, ?_, ?_, fun n => ?_⟩
    · rw [← hbroken]
      rfl
    · rw [brokenOn_lines, ← hbroken]
    · exact brokenOn_desk u desk
    · rw [brokenOn_deskSettings, hstands.1]
    · exact brokenOn_deskTallies u desk
    · rw [brokenOn_handle, hstands.2]
      rcases (s.handle desk n).ended_eq_free_or with hfree | ⟨w, hw, hstate, hended⟩
      · exact .inl hfree
      · exact .inr ⟨w, hw, hstate, hended⟩
  · intro desk s hp run l takes
    have ran {t : State} (h : s.sent desk = t) : run = .next t := (exec_replySent hp).trans (congrArg _ h)
    refine ⟨fun target rate h => ran ((sent_of_cutRate h).trans (takeReplyRate_some ..)), fun h hr => ran (sent_of_no_reply h hr), ?_⟩
    intro r rest h hr left
    refine ⟨fun hrate => ?_, fun target rate hrate => ?_⟩
    · exact ran ((sent_of_reply h hr).trans (by rw [hrate]; rfl))
    · exact ran ((sent_of_reply h hr).trans (by rw [hrate]; exact takeReplyRate_some ..))
  · intro s target sending rate l changed
    refine ⟨takeRate_of_same, fun hne hr => takeRate_of_not_partly hne ?_, fun hne hhunt hbreak => takeRate_of_partly hne ?_⟩
    · rw [Receive.partly_iff]
      exact fun hpartly => hr.elim hpartly.1 hpartly.2
    · exact (Receive.partly_iff _).2 ⟨hhunt, hbreak⟩
  · intro desk s
    refine ⟨dropInProgress_of_idle, fun w hw => ?_, fun h => ⟨endHandle_of_free, fun l hh => endHandle_of_lost hh,
      fun r hh => endHandle_of_reading hh, fun w hh => ⟨endHandle_of_committing hh, endHandle_of_not_committing hh⟩⟩,
      fun d img hi => ⟨heldBy_pairwise hi, mem_heldBy_iff hi, fun n hn => releaseWithEvent_of_holder hi hn⟩,
      fun d hno => heldBy_of_no_image hno, rfl, rfl⟩
    intro drops
    have dropped {t : State} (h : s.dropEffect desk w = t) : drops t := (dropInProgress_of_waiting hw).trans (by rw [h])
    refine ⟨?_, ?_, ?_, ?_, ?_⟩
    · rintro on h offset n rfl
      exact dropped rfl
    · rintro on h offset data rfl
      exact dropped rfl
    · rintro h rfl
      exact dropped rfl
    · rintro d n lowered rfl
      exact ⟨fun h => dropped (dropEffect_spike_of_carried lowered h), fun h => dropped (dropEffect_spike_of_uncarried lowered h)⟩
    · rintro d rfl
      exact ⟨fun hno => dropped (setUnmounting_of_no_image hno false), fun img hi => dropped (setUnmounting_of_image hi false)⟩

end Sys2Proof.Machine
end

section
namespace Sys2Proof.Machine

/-! ### IDLE (R179) -/

section Idle
variable {s : State} {desk : Desk}

theorem exec_idle_of_listens (hl : s.listens desk) : exec (.idle desk []) s = .next (s.done desk 0x01 noFlags [] .keep) :=
  congrArg Host.Outcome.next (powered_taking_of_listens hl _ rfl rfl rfl)

theorem exec_idle_of_busy (hp : s.powerGood = true) (hbusy : s.desks[desk].inProgress ≠ none) :
    exec (.idle desk []) s = .next (s.refuse desk 0x01 noFlags .busy) :=
  exec_command_of_preTest hp (preTest_of_busy (k := .idle) rfl ⟨hbusy, by decide⟩)

end Idle

/-- Settles O6: by whether the desk has a request in progress, with what a reply DONE and a refusal BUSY leave (R177). -/
theorem idleChangesNothingButItsReply : Obligations.IdleChangesNothingButItsReply := by
  intro desk s hp saying waiting refused
  refine ⟨fun hidle => ?_, fun hbusy => ?_⟩
  · rw [exec_idle_of_listens ⟨hp, hidle⟩, done_keep]
    rfl
  · rw [exec_idle_of_busy hp hbusy, refuse_busy]
    rfl

/-! ### STATUS (R180) -/

/-! #### The parts of the report and their lengths -/

theorem length_handleBytes {slug : Chars} (h : slug.length ≤ 16) (code : Byte) (drive length mark cause : Nat) :
    (handleBytes code drive slug length mark cause).length = 23 := by
  simp only [handleBytes, List.length_append, length_padded h, twoBytes, List.length_cons, List.length_nil]

/-- A handle takes 23 bytes in each of its states when its slug fits the field. -/
theorem Handle.length_bytes {x : Handle} (hreading : ∀ r, x = .reading r → r.slug.length ≤ 16)
    (hwriting : ∀ w, x = .writing w → w.slug.length ≤ 16) (hlost : ∀ l, x = .lost l → l.slug.length ≤ 16) :
    x.bytes.length = 23 := by
  cases x with
  | free => exact length_handleBytes (slug := []) (Nat.zero_le 16) ..
  | reading r => exact length_handleBytes (hreading r rfl) ..
  | writing w =>
    have hslug := hwriting w rfl
    rw [Handle.bytes]
    cases w.state with
    | isOpen | committing | failed => exact length_handleBytes hslug ..
  | lost l => exact length_handleBytes (hlost l rfl) ..

theorem Continuation.length_bytes (c : Continuation) : c.bytes.length = 2 := by
  cases c <;> rfl

section Report
variable {s : State} {desk : Desk} {d : DriveNo}

theorem formatCylinder_of_no_job (h : s.sequencer = none) : s.formatCylinder d = 255 := by
  simp only [State.formatCylinder, h, ite_self]

theorem formatCylinder_of_job {j : FormatJob} (h : s.sequencer = some j) :
    s.formatCylinder d = if s.drives[d].state = .formatting ∧ j.drive = d then j.cylinder else 255 := by
  simp only [State.formatCylinder, h, ite_and]

theorem length_volumeName {n : Nat} (h : ∀ img, s.images[d] = some img → img.name.length ≤ n) : (s.volumeName d).length ≤ n := by
  rw [State.volumeName]
  cases hi : s.images[d] with
  | none => exact Nat.zero_le n
  | some img => exact h img hi

theorem length_driveBytes (h : (s.volumeName d).length ≤ 12) : (s.driveBytes d).length = 15 := by
  simp only [State.driveBytes, List.length_append, length_padded h, List.length_cons, List.length_nil]

/-- The report with the four drives as one run of pieces (R180). -/
theorem statusBytes_eq :
    s.statusBytes desk =
      [rightsByte s.deskSettings[desk].supervisor s.deskSettings[desk].urgent, byteOf s.deskSettings[desk].quota,
       byteOf (s.holdings desk), byteOf s.desks[desk].holds]
        ++ s.desks[desk].continuation.bytes ++ twoBytes s.desks[desk].cursor
        ++ (s.handle desk 0).bytes ++ (s.handle desk 1).bytes ++ allDrives.flatMap s.driveBytes ++ [s.channel.byte] := by
  simp only [State.statusBytes, allDrives, List.flatMap_cons, List.flatMap_nil, List.append_nil, List.append_assoc]

theorem length_statusBytes (hhandle : ∀ h, (s.handle desk h).bytes.length = 23) (hdrive : ∀ d, (s.driveBytes d).length = 15) :
    (s.statusBytes desk).length = 115 := by
  have hdrives : (allDrives.flatMap s.driveBytes).length = 60 := length_flatMap_pieces (m := 15) fun d _ => hdrive d
  simp only [statusBytes_eq, List.length_append, Continuation.length_bytes, hhandle, hdrives, twoBytes, List.length_cons,
    List.length_nil]

theorem exec_status (hl : s.listens desk) :
    exec (.status desk []) s = .next (s.done desk 0x02 noFlags (s.statusBytes desk) .keep) :=
  congrArg Host.Outcome.next (powered_taking_of_listens hl (fun s => s.done desk 0x02 noFlags (s.statusBytes desk) .keep) rfl rfl rfl)

end Report

/-- Settles O7: the report by its parts, a handle by its state and a format cylinder by the sequencer. -/
theorem statusReportsAndChangesNothing : Obligations.StatusReportsAndChangesNothing := by
  intro desk s hl continuation report ofHandle stateNumber formatCylinder named
  have hhandle (h : HandleNo) : (s.handle desk h).bytes = ofHandle h := by
    simp only [ofHandle]
    cases s.handle desk h with
    | free | reading | lost => rfl
    | writing w =>
      dsimp only [Handle.bytes]
      cases w.state with
      | isOpen | committing | failed => rfl
  have hcylinder (d : DriveNo) : s.formatCylinder d = formatCylinder d := by
    simp only [formatCylinder]
    cases hj : s.sequencer with
    | none => exact formatCylinder_of_no_job hj
    | some j => exact formatCylinder_of_job hj
  refine ⟨exec_status hl, ?_, rfl, fun hnamed hname => ?_⟩
  · rw [statusBytes_eq, hhandle, hhandle]
    simp only [← hcylinder]
    rfl
  · refine length_statusBytes (fun h => ?_) (fun d => length_driveBytes (length_volumeName (hname d)))
    obtain ⟨hreading, hwriting, hlost⟩ := hnamed h
    exact Handle.length_bytes hreading hwriting hlost

end Sys2Proof.Machine
end

section
namespace Sys2Proof.Machine

/-! ### POWER-GOOD and the power-on state (R20, R41, R194) -/

/-! #### The power-on state -/

theorem atPowerOn_afterPower (ready writeProtect trackZero : Bool) :
    (DriveUnit.atPowerOn ready writeProtect trackZero).afterPower ready writeProtect trackZero :=
  ⟨rfl, rfl, rfl, rfl, rfl, rfl, rfl, rfl, rfl, rfl, rfl, rfl, rfl, rfl, rfl, rfl, rfl, rfl⟩

theorem reset_deskSettings (desk : Desk) :
    State.reset.deskSettings[desk] = { supervisor := decide (desk = 0), urgent := decide (desk = 0), quota := 12, rate := .r9600 } := by
  fin_cases desk <;> rfl

theorem reset_handle (desk : Desk) (h : HandleNo) : State.reset.handle desk h = .free := by
  have hdesk : State.reset.handles[desk] = Vector.replicate 2 .free := Vector.getElem_replicate _
  rw [State.handle, hdesk]
  exact Vector.getElem_replicate _

theorem reset_afterPower : State.reset.afterPower := by
  have hdesk (desk : Desk) : State.reset.desks[desk] = .clear := Vector.getElem_replicate _
  have hline (desk : Desk) : State.reset.lines[desk] = .powerOn := Vector.getElem_replicate _
  have hsched (d : DriveNo) : State.reset.scheds[d] = .idle := Vector.getElem_replicate _
  refine ⟨rfl, rfl, rfl, rfl, ⟨rfl, rfl, rfl⟩, fun p => Vector.getElem_replicate _, rfl, rfl, fun d => ⟨?_, ?_, ?_, ?_⟩, fun desk =>
    ⟨reset_handle desk, ?_, reset_deskSettings desk, ?_, ?_⟩⟩
  · exact Vector.getElem_replicate _
  · exact Vector.getElem_replicate _
  · rw [hsched]
    exact ⟨rfl, rfl⟩
  · exact Vector.getElem_replicate _
  · rw [hdesk]
    exact ⟨rfl, rfl, rfl, rfl, fun i => Vector.getElem_replicate _, rfl, rfl, rfl⟩
  · rw [hline]
    exact ⟨rfl, rfl, rfl, rfl, rfl, rfl, rfl⟩
  · exact Vector.getElem_replicate _

/-- What the spec gives of the part at power-on reads neither its drives nor the commands that wait. -/
theorem poweredOn_afterPower (s : State) (ready writeProtect trackZero : BitVec 4) :
    (s.poweredOn ready writeProtect trackZero).afterPower := by
  have h := reset_afterPower
  unfold State.afterPower at h ⊢
  exact h

theorem poweredOn_drive (s : State) (ready writeProtect trackZero : BitVec 4) (d : DriveNo) :
    (s.poweredOn ready writeProtect trackZero).drives[d] =
      DriveUnit.atPowerOn (ready.getLsbD d.val) (writeProtect.getLsbD d.val) (trackZero.getLsbD d.val) := by
  fin_cases d <;> rfl

theorem reset_sound : State.reset.sound := by
  refine ⟨legalSettings_reset, fun desk => ?_, fun d img himg => ?_, fun d => ?_⟩
  · have hdesk : State.reset.desks[desk] = .clear := Vector.getElem_replicate _
    rw [hdesk]
    exact queueSound_nil
  · have hnone : State.reset.images[d] = none := Vector.getElem_replicate _
    rw [hnone] at himg
    cases himg
  · have hdrive : State.reset.drives[d] = .powerOn := Vector.getElem_replicate _
    rw [hdrive]
    exact MountRecord.clear_sound

/-- Settles O58: each part of the reset state by its value, the invariants by the defaults. -/
theorem resetIsThePowerOnState : Obligations.ResetIsThePowerOnState := by
  refine ⟨⟨reset_afterPower, rfl, fun d => ?_⟩, reset_sound⟩
  have hdrive : State.reset.drives[d] = DriveUnit.atPowerOn false false false := Vector.getElem_replicate _
  rw [hdrive]
  exact atPowerOn_afterPower false false false

/-! #### POWER-GOOD low (R194, log 7) -/

theorem powered_of_no_power {s : State} (hp : s.powerGood = false) (f : State → State) : s.powered f = s :=
  if_neg (by rw [hp]; exact Bool.false_ne_true)

/-- The level of the input pin that a command carries, taken up. -/
def setsPin (s : State) : Instr → State
  | .readyFalling d => s.setReady d false
  | .readyRising d => s.setReady d true
  | .writeProtectChange d active => s.setWriteProtect d active
  | .stepIntervalExpiry d trackZero => s.setTrackZero d trackZero
  | .recalibrationStepExpiry d trackZero => s.setTrackZero d trackZero
  | _ => s

/-- Without power a command but a POWER-GOOD edge has no effect beyond its pin. -/
theorem exec_of_no_power {s : State} (hp : s.powerGood = false) (c : Instr) (hrise : ∀ r w z, c ≠ .powerGoodRise r w z)
    (hfall : c ≠ .powerGoodFall) : exec c s = .next (setsPin s c) := by
  cases c with
  | powerGoodRise r w z => exact absurd rfl (hrise r w z)
  | powerGoodFall => exact absurd rfl hfall
  | readyFalling d => exact congrArg Host.Outcome.next (powered_of_no_power (s := s.setReady d false) hp _)
  | readyRising d => exact congrArg Host.Outcome.next (powered_of_no_power (s := s.setReady d true) hp _)
  | writeProtectChange d b => exact congrArg Host.Outcome.next (powered_of_no_power (s := s.setWriteProtect d b) hp _)
  | stepIntervalExpiry d b => exact congrArg Host.Outcome.next (powered_of_no_power (s := s.setTrackZero d b) hp _)
  | recalibrationStepExpiry d b => exact congrArg Host.Outcome.next (powered_of_no_power (s := s.setTrackZero d b) hp _)
  | _ => exact congrArg Host.Outcome.next (powered_of_no_power (s := s) hp _)

/-- A record written on one drive is seen on that drive only. -/
theorem setDrive_drives_eq (s : State) (d e : DriveNo) (u : DriveUnit) :
    (s.setDrive d u).drives[e] = if e = d then u else s.drives[e] := by
  split
  next h => rw [h]; exact setDrive_drives_self s d u
  next h => exact setDrive_drives_of_ne s u h

/-- The record of drive `e` with the level of the input pin that a command carries, if it is a pin of that drive. -/
def DriveUnit.pinned (u : DriveUnit) (e : DriveNo) : Instr → DriveUnit
  | .readyFalling d => { u with ready := if e = d then false else u.ready }
  | .readyRising d => { u with ready := if e = d then true else u.ready }
  | .writeProtectChange d active => { u with writeProtect := if e = d then active else u.writeProtect }
  | .stepIntervalExpiry d trackZero => { u with trackZero := if e = d then trackZero else u.trackZero }
  | .recalibrationStepExpiry d trackZero => { u with trackZero := if e = d then trackZero else u.trackZero }
  | _ => u

theorem setsPin_frame (s : State) (c : Instr) : setsPin s c = { s with drives := (setsPin s c).drives } := by
  cases c <;> rfl

theorem setsPin_drive (s : State) (c : Instr) (e : DriveNo) : (setsPin s c).drives[e] = (s.drives[e]).pinned e c := by
  have hset (d : DriveNo) (x : DriveUnit) (hself : e = d → x = (s.drives[e]).pinned e c)
      (hother : e ≠ d → s.drives[e] = (s.drives[e]).pinned e c) : (s.setDrive d x).drives[e] = (s.drives[e]).pinned e c := by
    rw [setDrive_drives_eq]
    split
    next h => exact hself h
    next h => exact hother h
  cases c with
  | readyFalling d | readyRising d | writeProtectChange d | stepIntervalExpiry d | recalibrationStepExpiry d =>
    exact hset d _ (by rintro rfl; simp only [DriveUnit.pinned, if_true]) fun h => by simp only [DriveUnit.pinned, if_neg h]
  | _ => rfl

section Pinned
variable (u : DriveUnit) (e : DriveNo) (c : Instr)

theorem DriveUnit.pinned_frame :
    u.pinned e c = { u with ready := (u.pinned e c).ready, writeProtect := (u.pinned e c).writeProtect,
                            trackZero := (u.pinned e c).trackZero } := by
  cases c <;> rfl

variable {c}

theorem DriveUnit.pinned_ready (hfall : c ≠ .readyFalling e) (hrise : c ≠ .readyRising e) : (u.pinned e c).ready = u.ready := by
  cases c with
  | readyFalling d => exact if_neg (by rintro rfl; exact hfall rfl)
  | readyRising d => exact if_neg (by rintro rfl; exact hrise rfl)
  | _ => rfl

theorem DriveUnit.pinned_writeProtect (hchange : ∀ b, c ≠ .writeProtectChange e b) :
    (u.pinned e c).writeProtect = u.writeProtect := by
  cases c with
  | writeProtectChange d b => exact if_neg (by rintro rfl; exact hchange b rfl)
  | _ => rfl

theorem DriveUnit.pinned_trackZero (hstep : ∀ b, c ≠ .stepIntervalExpiry e b) (hrecal : ∀ b, c ≠ .recalibrationStepExpiry e b) :
    (u.pinned e c).trackZero = u.trackZero := by
  cases c with
  | stepIntervalExpiry d b => exact if_neg (by rintro rfl; exact hstep b rfl)
  | recalibrationStepExpiry d b => exact if_neg (by rintro rfl; exact hrecal b rfl)
  | _ => rfl

end Pinned

/-- Settles O3: the rise by the power-on state, the fall part by part, and without power the one pin that a command carries. -/
theorem powerGoodGovernsThePart : Obligations.PowerGoodGovernsThePart := by
  refine ⟨fun ready writeProtect trackZero s => ?_, fun s => ?_, fun c s hp hrise hfall => ?_⟩
  · refine ⟨_, rfl, poweredOn_afterPower s ready writeProtect trackZero, rfl, fun d => ?_⟩
    rw [poweredOn_drive]
    exact atPowerOn_afterPower ..
  · have hdrive (d : DriveNo) : s.poweredOff.drives[d] = (s.drives[d]).powerOff := Vector.getElem_map ..
    have hsched (d : DriveNo) : s.poweredOff.scheds[d] = .idle := Vector.getElem_replicate _
    have hline (desk : Desk) : s.poweredOff.lines[desk] = (s.lines[desk]).powerOff := Vector.getElem_map ..
    have hdesk (desk : Desk) : s.poweredOff.desks[desk] = (s.desks[desk]).powerOff := Vector.getElem_map ..
    refine ⟨s.poweredOff, rfl, rfl, fun d => ⟨hdrive d, ?_⟩, rfl, rfl, rfl, rfl, rfl, rfl, fun p => Vector.getElem_replicate _, rfl,
      rfl, rfl, fun desk => ⟨hline desk, hdesk desk⟩, rfl, rfl, rfl, rfl, rfl, rfl, rfl, rfl, rfl⟩
    rw [hsched]
    exact ⟨rfl, rfl⟩
  · refine ⟨setsPin s c, exec_of_no_power hp c hrise hfall, setsPin_frame s c, fun d => ?_⟩
    rw [setsPin_drive]
    exact ⟨DriveUnit.pinned_frame _ d c, DriveUnit.pinned_ready _ d, DriveUnit.pinned_writeProtect _ d, DriveUnit.pinned_trackZero _ d⟩

end Sys2Proof.Machine
end

section
namespace Sys2Proof.Machine

/-! ### Requests of a desk that holds SUPERVISOR (R171, R175) -/

/-- No supervisor kind is a continuing one (R175, R178). -/
theorem admits_of_supervisor (c : Continuation) {k : Kind} (hsup : k.supervisor = true) : c.admits k = true := by
  cases k with
  | putOn | getOn | listOn => exact absurd hsup Bool.false_ne_true
  | _ => rfl

section ListensTo
variable {s : State} {desk : Desk} (hl : s.listensTo desk)
include hl

theorem preTest_of_listensTo {k : Kind} {fields : List Byte} (hlen : lenAllowed k fields = true) (hsup : k.supervisor = true) :
    s.preTest desk k fields = none := by
  obtain ⟨⟨_, hidle⟩, hright⟩ := hl
  have hadm := admits_of_supervisor s.desks[desk].continuation hsup
  rw [preTest_of_allowed_length hlen, if_neg fun h => h.1 hidle, if_neg fun h => by rw [hright] at h; exact absurd h.2 nofun,
    if_neg (by rw [hadm]; exact nofun)]

/-- A desk with the right and nothing in progress, and a length that is allowed: the kind's own tests come next. -/
theorem powered_taking_of_listensTo {k : Kind} {fields : List Byte} (own : State → State) (hlen : lenAllowed k fields = true)
    (hsup : k.supervisor = true) : s.powered (fun s => s.taking desk k fields own) = own s := by
  rw [powered_of_powerGood hl.1.1, State.taking, preTest_of_listensTo hl hlen hsup]

theorem exec_driveSet {fields : List Byte} (hlen : fields.length = 15) :
    exec (.driveSet desk fields) s = .next (s.driveSetOwn desk fields) :=
  congrArg Host.Outcome.next (powered_taking_of_listensTo hl (fun s => s.driveSetOwn desk fields)
    ((lenAllowed_iff ..).2 ⟨by rw [hlen]; exact Nat.le_refl 16, by rw [hlen]; exact Nat.le_refl 16⟩) rfl)

theorem exec_deskSet (n rights quota rate : Byte) :
    exec (.deskSet desk [n, rights, quota, rate]) s = .next (s.deskSetOwn desk [n, rights, quota, rate]) :=
  congrArg Host.Outcome.next (powered_taking_of_listensTo hl (fun s => s.deskSetOwn desk _) rfl rfl)

theorem exec_mount (db : Byte) : exec (.mount desk [db]) s = .next (s.mountOwn desk [db]) :=
  congrArg Host.Outcome.next (powered_taking_of_listensTo hl (fun s => s.mountOwn desk _) rfl rfl)

theorem exec_unmount (db force : Byte) : exec (.unmount desk [db, force]) s = .next (s.unmountOwn desk [db, force]) :=
  congrArg Host.Outcome.next (powered_taking_of_listensTo hl (fun s => s.unmountOwn desk _) rfl rfl)

theorem exec_tally (set number clear : Byte) : exec (.tally desk [set, number, clear]) s = .next (s.tallyOwn desk [set, number, clear]) :=
  congrArg Host.Outcome.next (powered_taking_of_listensTo hl (fun s => s.tallyOwn desk _) rfl rfl)

theorem exec_restart : exec (.restart desk []) s = .next ((s.done desk 0x67 noFlags [] .clear).restartParts) :=
  congrArg Host.Outcome.next
    (powered_taking_of_listensTo hl (fun s => (s.done desk 0x67 noFlags [] .clear).restartParts) rfl rfl)

variable {chars : List Byte} (hshort : 1 ≤ chars.length)
include hshort

theorem exec_breakHold (hlong : chars.length ≤ 16) (db : Byte) :
    exec (.breakHold desk (db :: chars)) s = .next (s.breakHoldOwn desk (db :: chars)) := by
  have hlen : lenAllowed .breakHold (db :: chars) = true :=
    lenAllowed_of_range (show 3 ≤ chars.length + 1 + 1 by omega) (show chars.length + 1 + 1 ≤ 18 by omega)
  exact congrArg Host.Outcome.next (powered_taking_of_listensTo hl (fun s => s.breakHoldOwn desk _) hlen rfl)

theorem exec_format (hlong : chars.length ≤ 12) (db skew verify : Byte) :
    exec (.format desk (db :: skew :: verify :: chars)) s = .next (s.formatOwn desk (db :: skew :: verify :: chars)) := by
  have hlen : lenAllowed .format (db :: skew :: verify :: chars) = true :=
    lenAllowed_of_range (show 5 ≤ chars.length + 3 + 1 by omega) (show chars.length + 3 + 1 ≤ 16 by omega)
  exact congrArg Host.Outcome.next (powered_taking_of_listensTo hl (fun s => s.formatOwn desk _) hlen rfl)

end ListensTo

theorem deskOf_of_val {b : Byte} {e : Desk} (h : e.val = b.toNat) : deskOf b = some e := by
  rw [deskOf, dif_pos (h ▸ e.isLt)]
  exact congrArg some (Fin.ext h.symm)

theorem deskOf_eq_none {b : Byte} (h : 7 < b.toNat) : deskOf b = none := dif_neg (by omega)

/-! ### TALLY (R82, R192) -/

section Tally
variable {s : State} {desk : Desk} {set number clear : Byte}

theorem tallyOwn_of_out_of_range
    (h : 1 < set.toNat ∨ 1 < clear.toNat ∨ (set = 0 ∧ 3 < number.toNat) ∨ (set = 1 ∧ 7 < number.toNat)) :
    s.tallyOwn desk [set, number, clear] = s.refuse desk 0x66 noFlags .outOfRange := by
  unfold State.tallyOwn
  dsimp only
  rcases h with h | h | ⟨rfl, h⟩ | ⟨rfl, h⟩
  · rw [if_pos (.inl h)]; rfl
  · rw [if_pos (.inr h)]; rfl
  · rw [driveOf_eq_none h, if_pos rfl]; exact ite_self _
  · rw [deskOf_eq_none h, if_neg (by decide : ¬(1 : Byte) = 0)]; exact ite_self _

variable (hclear : clear.toNat ≤ 1)
include hclear

theorem tallyOwn_of_drive {d : DriveNo} (hset : set = 0) (hd : d.val = number.toNat) :
    s.tallyOwn desk [set, number, clear] = s.tallyDrive desk d (clear == 1) := by
  subst hset
  unfold State.tallyOwn
  dsimp only
  rw [if_neg (not_or.2 ⟨by decide, Nat.not_lt.2 hclear⟩), if_pos rfl, driveOf_of_val hd]

theorem tallyOwn_of_desk {e : Desk} (hset : set = 1) (he : e.val = number.toNat) :
    s.tallyOwn desk [set, number, clear] = s.tallyDesk desk e (clear == 1) := by
  subst hset
  unfold State.tallyOwn
  dsimp only
  rw [if_neg (not_or.2 ⟨by decide, Nat.not_lt.2 hclear⟩), if_neg (by decide), deskOf_of_val he]

end Tally

/-- Settles O26: out of range by the test that fails, else by the set. -/
theorem tallyReportsAndClears : Obligations.TallyReportsAndClears := by
  intro desk set number clear s hl run
  have hrun : run = _ := exec_tally hl set number clear
  refine ⟨fun h => ?_, fun d hset hclear hd => ?_, fun e hset hclear he => ?_⟩
  · rw [hrun, tallyOwn_of_out_of_range h]
  · rw [hrun, tallyOwn_of_drive hclear hset hd, State.tallyDrive]
    simp only [beq_iff_eq]
    rfl
  · rw [hrun, tallyOwn_of_desk hclear hset he, State.tallyDesk]
    simp only [beq_iff_eq]
    rfl

/-! ### DESK-SET (R161, R175, R184) -/

theorem clamp_eq {lo hi : Nat} (hle : lo ≤ hi) (n : Nat) : clamp lo hi n = max lo (min hi n) := by
  unfold clamp
  split
  · omega
  · split <;> omega

/-- The rate of a rate code, taken as 4 above 4, and the code reported for it (R184). -/
theorem rateOf_spec (rate : Byte) :
    rateOf rate =
      (if min 4 rate.toNat = 0 then .r2400 else if min 4 rate.toNat = 1 then .r4800 else if min 4 rate.toNat = 2 then .r9600
      else if min 4 rate.toNat = 3 then .r19200 else .r38400) ∧
    (rateOf rate).code = byteOf (min 4 rate.toNat) := by
  unfold rateOf
  split
  next h => rw [h]; exact ⟨rfl, rfl⟩
  next h => rw [h]; exact ⟨rfl, rfl⟩
  next h => rw [h]; exact ⟨rfl, rfl⟩
  next h => rw [h]; exact ⟨rfl, rfl⟩
  next h0 h1 h2 h3 =>
    have hcode : min 4 rate.toNat = 4 := by
      have hne : rate.toNat ≠ 0 ∧ rate.toNat ≠ 1 ∧ rate.toNat ≠ 2 ∧ rate.toNat ≠ 3 := ⟨h0, h1, h2, h3⟩
      omega
    rw [hcode]
    exact ⟨rfl, rfl⟩

/-- After a DESK-SET the target's right is the new one, every other desk's as before (R175). -/
theorem keepsSupervisor_iff (all : Vector DeskSettings 8) (target : Desk) (t : DeskSettings) :
    keepsSupervisor all target t = true ↔ t.supervisor = true ∨ ∃ e : Desk, e ≠ target ∧ (all[e]).supervisor = true := by
  have hself : (all.set target t)[target] = t := by simp
  have hother {e : Desk} (hne : e ≠ target) : (all.set target t)[e] = all[e] := by
    simpa using Vector.getElem_set_ne _ _ fun h => hne (Fin.ext h.symm)
  rw [keepsSupervisor, List.any_eq_true]
  constructor
  · rintro ⟨e, _, he⟩
    by_cases hne : e = target
    · subst hne; rw [hself] at he; exact .inl he
    · rw [hother hne] at he; exact .inr ⟨e, hne, he⟩
  · rintro (h | ⟨e, hne, he⟩)
    · exact ⟨target, mem_allDesks target, by rw [hself]; exact h⟩
    · exact ⟨e, mem_allDesks e, by rw [hother hne]; exact he⟩

theorem rightsByte_eq (supervisor urgent : Bool) :
    rightsByte supervisor urgent = byteOf ((if supervisor then 1 else 0) + (if urgent then 2 else 0)) := rfl

section DeskSet
variable {s : State} {desk target : Desk} {n rights quota rate : Byte}

theorem deskSetOwn_of_no_desk (h : 7 < n.toNat) :
    s.deskSetOwn desk [n, rights, quota, rate] = s.refuse desk 0x61 noFlags .outOfRange := by
  simp only [State.deskSetOwn, deskOf_eq_none h]
  rfl

variable (h : target.val = n.toNat)
include h

theorem deskSetOwn_of_last_supervisor (hk : ¬keepsSupervisor s.deskSettings target (deskSettingsOf rights quota rate) = true) :
    s.deskSetOwn desk [n, rights, quota, rate] = s.refuse desk 0x61 noFlags .lastSupervisor := by
  simp only [State.deskSetOwn, deskOf_of_val h, if_neg hk]
  rfl

theorem deskSetOwn_of_supervisor (hk : keepsSupervisor s.deskSettings target (deskSettingsOf rights quota rate) = true) :
    s.deskSetOwn desk [n, rights, quota, rate] =
      ((s.setDeskSettings target (deskSettingsOf rights quota rate)).answerDeskSet desk target
        (deskSettingsOf rights quota rate)).settle := by
  simp only [State.deskSetOwn, deskOf_of_val h, if_pos hk]

end DeskSet

/-- Settles O22: the desk number, then whether a SUPERVISOR is left, then what is stored and reported. -/
theorem deskSetStoresRightsQuotaAndRate : Obligations.DeskSetStoresRightsQuotaAndRate := by
  intro desk n rights quota rate s hl run no
  have hrun : run = _ := exec_deskSet hl n rights quota rate
  refine ⟨fun h => ?_, fun target h => ?_⟩
  · exact hrun.trans (congrArg _ (deskSetOwn_of_no_desk h))
  · intro others code taken stored
    obtain ⟨hrate, hratecode⟩ := rateOf_spec rate
    have hstored : deskSettingsOf rights quota rate = stored := by
      rw [deskSettingsOf, clamp_eq (by decide), hrate]
    have hkeeps : keepsSupervisor s.deskSettings target (deskSettingsOf rights quota rate) = true ↔
        rights.getLsbD 0 = true ∨ others := keepsSupervisor_iff ..
    refine ⟨fun hright hothers => ?_, fun hsome => ?_⟩
    · refine hrun.trans (congrArg _ (deskSetOwn_of_last_supervisor h fun hk => ?_))
      rcases hkeeps.1 hk with hs | ho
      · rw [hright] at hs; cases hs
      · exact hothers ho
    · have hcode : stored.rate.code = byteOf code := by rw [← hstored]; exact hratecode
      rw [hrun, deskSetOwn_of_supervisor h (hkeeps.2 hsome), hstored, State.answerDeskSet, hcode, rightsByte_eq]
      rfl

end Sys2Proof.Machine
end

section
namespace Sys2Proof.Machine

/-! ### DRIVE-SET (R41, R42, R183) -/

theorem settingsOf_eq (i1 i0 d1 d0 h1 h0 idle r a3 a2 a1 a0 auto enabled : Byte) :
    settingsOf [i1, i0, d1, d0, h1, h0, idle, r, a3, a2, a1, a0, auto, enabled] =
      some { stepInterval := max 10 (min 160 (ofTwo i1 i0)), settle := min 500 (ofTwo d1 d0), headLoad := min 1000 (ofTwo h1 h0),
             headIdle := min 60 idle.toNat, retries := max 1 (min 16 r.toNat), aging := max 1000 (min 100000 (ofFour a3 a2 a1 a0)),
             autoMount := decide (auto ≠ 0), enabled := decide (enabled ≠ 0) } := by
  have hbool (b : Byte) : (b != 0) = decide (b ≠ 0) := by rw [Bool.eq_iff_iff, bne_iff_ne, decide_eq_true_iff]
  simp only [settingsOf, hbool]
  rw [clamp_eq (by decide), clamp_eq (by decide), clamp_eq (by decide), clamp_eq (by decide), clamp_eq (by decide),
    clamp_eq (by decide), Nat.zero_max, Nat.zero_max, Nat.zero_max]

section DriveSet
variable {s : State} {desk : Desk} {db : Byte} {body : List Byte} {d : DriveNo} {t : Settings}

theorem driveSetOwn_of_no_drive (h : 3 < db.toNat) : s.driveSetOwn desk (db :: body) = s.refuse desk 0x60 noFlags .noDrive := by
  simp only [State.driveSetOwn, driveOf_eq_none h]
  rfl

theorem driveSetOwn_of_drive (h : d.val = db.toNat) (ht : settingsOf body = some t) :
    s.driveSetOwn desk (db :: body) =
      (((s.setSettings d t).applyEnabled d t).done desk 0x60 noFlags (settingsBytes t) .clear).settle := by
  simp only [State.driveSetOwn, driveOf_of_val h, ht]
  rfl

/-! #### A change of the enabled setting (R42) -/

theorem applyEnabled_of_enabled (ht : t.enabled = true) (hs : s.drives[d].state ≠ .disabled) : s.applyEnabled d t = s := by
  rw [State.applyEnabled, if_pos ht, if_neg hs]

theorem applyEnabled_enables (ht : t.enabled = true) (hs : s.drives[d].state = .disabled) :
    s.applyEnabled d t = s.setDrive d (s.drives[d].enabled t.autoMount) := by
  rw [State.applyEnabled, if_pos ht, if_pos hs]

theorem applyEnabled_of_disabled (ht : t.enabled = false) (hs : s.drives[d].state = .disabled) : s.applyEnabled d t = s := by
  rw [State.applyEnabled, if_neg (by rw [ht]; exact nofun), if_pos hs]

theorem applyEnabled_disables (ht : t.enabled = false) (hs : s.drives[d].state ≠ .disabled) :
    s.applyEnabled d t =
      (s.leaveUse d .disabled none (.removed d)).setDrive d (s.leaveUse d .disabled none (.removed d)).drives[d].disabled := by
  rw [State.applyEnabled, if_neg (by rw [ht]; exact nofun), if_neg hs]

theorem DriveUnit.disabled_eq (u : DriveUnit) :
    u.disabled = { u with elapsed := 0, reference := false, badRun := 0, validCount := 0, latches := [], direction := false } := rfl

/-- A drive without a diskette that is enabled is EMPTY. -/
theorem DriveUnit.enabled_of_not_ready {u : DriveUnit} (hr : u.ready = false) (auto : Bool) :
    u.enabled auto = { u with position := none, state := .empty, faultCause := none } := by
  simp only [DriveUnit.enabled, DriveUnit.stateByLines, DriveUnit.enters, hr, Bool.false_eq_true, if_false]

/-- A drive with a diskette that is enabled starts its timer afresh and takes its state by auto-mount. -/
theorem DriveUnit.enabled_of_ready {u : DriveUnit} (hr : u.ready = true) (auto : Bool) :
    u.enabled auto =
      { u with position := none, state := if auto then .spinCheck else .offline, faultCause := none, elapsed := 0, reference := false,
               badRun := 0, validCount := 0, period := 1667 } := by
  simp only [DriveUnit.enabled, DriveUnit.stateByLines, DriveUnit.enters, hr, if_true]
  rfl

end DriveSet

/-- Settles O21: the drive number, then whether the enabled setting changes the drive's state. -/
theorem driveSetClampsStoresAndReports : Obligations.DriveSetClampsStoresAndReports := by
  intro desk db i1 i0 d1 d0 h1 h0 idle r a3 a2 a1 a0 auto enabled s hl run within two aging stored report answered
  have hrun : run = _ := exec_driveSet hl rfl
  refine ⟨fun h => hrun.trans (congrArg _ (driveSetOwn_of_no_drive h)), fun d h => ?_⟩
  intro set u gone
  have answer {t : State} (ht : set.applyEnabled d stored = t) : answered t := by
    have hown := driveSetOwn_of_drive (s := s) (desk := desk) h (settingsOf_eq i1 i0 d1 d0 h1 h0 idle r a3 a2 a1 a0 auto enabled)
    rw [← ht]
    exact hrun.trans (congrArg _ hown)
  have hon (he : enabled ≠ 0) : stored.enabled = true := decide_eq_true he
  have hoff (he : enabled = 0) : stored.enabled = false := decide_eq_false (not_not.2 he)
  refine ⟨fun he hs => answer (applyEnabled_of_enabled (hon he) hs), fun he hs hr => answer ?_, fun he hs hr => answer ?_,
    fun he hs => answer (applyEnabled_of_disabled (hoff he) hs), fun he hs => answer ?_⟩
  · exact (applyEnabled_enables (s := set) (hon he) hs).trans (congrArg (set.setDrive d) (DriveUnit.enabled_of_not_ready hr _))
  · have hauto : (if stored.autoMount = true then DriveState.spinCheck else .offline) = if auto = 0 then .offline else .spinCheck := by
      simp only [stored, decide_eq_true_iff, ne_eq, ite_not]
    rw [← hauto]
    exact (applyEnabled_enables (s := set) (hon he) hs).trans (congrArg (set.setDrive d) (DriveUnit.enabled_of_ready hr _))
  · exact (applyEnabled_disables (s := set) (hoff he) hs).trans (congrArg (gone.setDrive d) (DriveUnit.disabled_eq _))

end Sys2Proof.Machine
end

section
namespace Sys2Proof.Machine

/-! ### MOUNT and the mount sequence (R36 to R39, R90, R96, R100, R185) -/

/-! #### MOUNT (R39, R185) -/

section Mount
variable {s : State} {desk : Desk} {db : Byte} {d : DriveNo}

theorem mountOwn_of_no_drive (h : 3 < db.toNat) : s.mountOwn desk [db] = s.refuse desk 0x62 noFlags .noDrive := by
  simp only [State.mountOwn, driveOf_eq_none h]
  rfl

variable (h : d.val = db.toNat)
include h

theorem mountOwn_of_not_offline (hs : s.drives[d].state ≠ .offline) : s.mountOwn desk [db] = s.refuse desk 0x62 noFlags .inUse := by
  simp only [State.mountOwn, driveOf_of_val h, if_neg hs]
  rfl

theorem mountOwn_of_offline (hs : s.drives[d].state = .offline) :
    s.mountOwn desk [db] =
      (s.setDrive d { s.drives[d] with state := .spinCheck, faultCause := none, validCount := 0 }).done desk 0x62 noFlags [] .clear := by
  simp only [State.mountOwn, driveOf_of_val h, if_pos hs]
  rfl

end Mount

/-! #### The page of the mount is granted (R36, R37, R90) -/

section Grant
variable {s : State} {d : DriveNo} (p : PageNo)

theorem grantMount_of_no_label (h : s.drives[d].mount.label = none) :
    s.grantMount d p = (s.holdPage p (.mountRead d .label)).place d labelTarget .read p .mountLabel .urgent := by
  simp only [State.grantMount, h]

theorem grantMount_of_label {l : Label} {q : CatNo} (h : s.drives[d].mount.label = some l) (hq : s.drives[d].mount.nextQ = q.val) :
    let placed := ((s.holdPage p (.mountRead d (.catalogue q))).setDrive d
      { s.drives[d] with mount := { s.drives[d].mount with nextQ := q.val + 1 } }).place d (catalogueTarget q) .read p
        (.mountCatalogue q) .urgent
    s.grantMount d p = if q.val + 1 < 29 then placed.joinSystem (.mount d) else placed := by
  simp only [State.grantMount, h, hq, q.isLt, dif_pos]

end Grant

/-! #### What the reads bring (R36 to R38) -/

section Reads
variable (s : State) (d : DriveNo) (p : PageNo)

theorem mountLabelDone_of_no_label (h : labelOf (s.pageBytes p) = none) : s.mountLabelDone d p = (s.freePage p).enterBlank d := by
  simp only [State.mountLabelDone, h]

theorem mountLabelDone_of_label {l : Label} (h : labelOf (s.pageBytes p) = some l) :
    s.mountLabelDone d p =
      ((s.freePage p).setDrive d { s.drives[d] with mount := { s.drives[d].mount with label := some l } }).joinSystem (.mount d) := by
  simp only [State.mountLabelDone, h]
  rfl

/-- The 29th catalogue read that comes back completes the mount (R38). -/
theorem mountReturned_eq (x : MountRecord) :
    s.mountReturned d x =
      let stored := s.setDrive d { s.drives[d] with mount := { x with returned := x.returned + 1 } }
      if x.returned = 28 then stored.completeMount d else stored := by
  simp only [State.mountReturned, Nat.reduceEqDiff]

end Reads

/-! #### The image built (R38, R96, R100) -/

/-- Slots written one after another, each at most once, hold what was written and are otherwise as before. -/
theorem foldl_set_slots (records : List (SlotNo × StoryRecord)) (hnodup : (records.map Prod.fst).Nodup) (v : Vector Slot 232) :
    let w := records.foldl (fun v (p : SlotNo × StoryRecord) => v.set p.1 p.2.slot) v
    (∀ x ∈ records, w[x.1] = x.2.slot) ∧ ∀ n : SlotNo, (∀ x ∈ records, x.1 ≠ n) → w[n] = v[n] := by
  induction records generalizing v with
  | nil => exact ⟨nofun, fun _ _ => rfl⟩
  | cons y records ih =>
    obtain ⟨hnot, hnodup⟩ := List.nodup_cons.1 hnodup
    obtain ⟨hin, hout⟩ := ih hnodup (v.set y.1 y.2.slot)
    have hfresh : ∀ x ∈ records, x.1 ≠ y.1 := fun x hx heq => hnot (heq ▸ List.mem_map_of_mem hx)
    refine ⟨fun x hx => ?_, fun n hn => ?_⟩
    · rcases List.mem_cons.1 hx with rfl | hx
      · exact (hout x.1 hfresh).trans (by simp)
      · exact hin x hx
    · obtain ⟨hy, hrest⟩ := List.forall_mem_cons.1 hn
      exact (hout n hrest).trans (by simpa using Vector.getElem_set_ne _ _ fun h => hy (Fin.ext h))

section BuildImage
variable (id : Nat) (l : Label) (kept : List (SlotNo × StoryRecord))

theorem buildImage_slots :
    (∀ x ∈ (crossExamine l.bad kept).records, (buildImage id l (crossExamine l.bad kept)).slots[x.1] = x.2.slot) ∧
      ∀ n : SlotNo, (∀ x ∈ (crossExamine l.bad kept).records, x.1 ≠ n) →
        (buildImage id l (crossExamine l.bad kept)).slots[n] = Slot.free := by
  have hnodup := (crossExamine_examination l.bad kept).ascending.imp fun h => ne_of_lt h
  obtain ⟨hin, hout⟩ := foldl_set_slots _ hnodup (Vector.replicate 232 Slot.free)
  exact ⟨hin, fun n hn => (hout n hn).trans (Vector.getElem_replicate _)⟩

theorem buildImage_allocated :
    (buildImage id l (crossExamine l.bad kept)).allocated.Pairwise (fun x y => x < y) ∧
      ∀ k, k ∈ (buildImage id l (crossExamine l.bad kept)).allocated ↔
        (k ∈ l.bad ∨ ∃ x ∈ (crossExamine l.bad kept).records, k ∈ sectorsOf x.2.extents) := by
  obtain ⟨hasc, hmem⟩ := sorted_spec (crossExamine l.bad kept).claimed
  exact ⟨hasc, fun k => (hmem k).trans ((crossExamine_examination l.bad kept).claimed k)⟩

end BuildImage

theorem completeMount_of_label {s : State} {d : DriveNo} {l : Label} (h : s.drives[d].mount.label = some l) :
    let a := crossExamine l.bad s.drives[d].mount.kept
    let damaged := s.drives[d].mount.damaged || a.discarded
    s.completeMount d =
      (((s.setImage d (some (buildImage s.imageSerial l a))).setImageSerial (s.imageSerial + 1)).setDrive d
        { s.drives[d] with state := .mounted, faultCause := none, isProtected := s.drives[d].writeProtect, damaged := damaged
                           mount := .clear }).raise (.mounted d l.name damaged) := by
  simp only [State.completeMount, h]
  rfl

/-- Settles O35: MOUNT by the drive's state, the grant by the label, the reads by what they bring, the image by the examination. -/
theorem mountReadsLabelAndCatalogue : Obligations.MountReadsLabelAndCatalogue := by
  refine ⟨?_, ?_, ?_, ?_⟩
  · intro desk db s hl run
    have hrun : run = _ := exec_mount hl db
    exact ⟨fun h => hrun.trans (congrArg _ (mountOwn_of_no_drive h)), fun d h =>
      ⟨fun hs => hrun.trans (congrArg _ (mountOwn_of_not_offline h hs)), fun hs => hrun.trans (congrArg _ (mountOwn_of_offline h hs))⟩⟩
  · intro s d p m taken
    refine ⟨fun h => grantMount_of_no_label (s := taken) p h, fun l q h hq => ?_⟩
    intro placed
    have hgrant := grantMount_of_label (s := taken) p h hq
    exact ⟨fun hlt => hgrant.trans (if_pos (by omega)), fun hlast => hgrant.trans (if_neg (by omega))⟩
  · intro s d q p m freed cleared blank returned found
    have hblank : freed.enterBlank d = blank := enterBlank_eq freed d
    refine ⟨fun h => ?_, fun l h => mountLabelDone_of_label s d p h, hblank, ?_, ?_⟩
    · rw [mountLabelDone_of_no_label s d p h, hblank]
    · exact mountReturned_eq freed d _
    · exact mountReturned_eq freed d _
  · intro s d l h u a damaged
    obtain ⟨hin, hout⟩ := buildImage_slots s.imageSerial l u.mount.kept
    obtain ⟨hasc, hmem⟩ := buildImage_allocated s.imageSerial l u.mount.kept
    exact ⟨buildImage s.imageSerial l a, completeMount_of_label h, rfl, rfl, rfl, rfl, hin, hout, hasc, hmem, rfl, rfl,
      fun q => Vector.getElem_replicate _, rfl⟩

end Sys2Proof.Machine
end

section
namespace Sys2Proof.Machine

/-! ### FORMAT (R44, R189, R190) -/

/-! #### The tests of a drive's image (R186, R189) -/

theorem openOn_iff (d : DriveNo) (x : Handle) :
    x.openOn d = true ↔ (∃ r, x = .reading r ∧ r.drive = d) ∨ ∃ w, x = .writing w ∧ w.drive = d := by
  cases x <;> simp [Handle.openOn]

theorem anyOpenOn_iff (s : State) (d : DriveNo) :
    s.anyOpenOn d = true ↔
      ∃ e h, (∃ r, s.handle e h = .reading r ∧ r.drive = d) ∨ ∃ w, s.handle e h = .writing w ∧ w.drive = d := by
  simp only [State.anyOpenOn, List.any_eq_true, openOn_iff, mem_allHandles, true_and, Prod.exists]

theorem allClean_iff (img : Image) : img.allClean = true ↔ ∀ q : CatNo, img.writes[q] = .clean := by
  simp only [Image.allClean, List.all_eq_true, List.mem_finRange, forall_const, beq_iff_eq]

theorem anyHeld_eq_false_iff (img : Image) : img.anyHeld = false ↔ ∀ n : SlotNo, (img.slots[n]).holder = none := by
  simp only [Image.anyHeld, List.any_eq_false, mem_allSlots, forall_const, Option.isSome_iff_ne_none, not_not]

section Tests
variable (s : State) (d : DriveNo)

theorem mountedBusy_eq_false_iff :
    s.mountedBusy d = false ↔
      ∃ img, s.images[d] = some img ∧ img.unmounting = false ∧ ¬s.anyOpenOn d = true ∧
        (∀ n : SlotNo, (img.slots[n]).holder = none) ∧ ∀ q : CatNo, img.writes[q] = .clean := by
  unfold State.mountedBusy
  cases s.images[d] with
  | none => simp
  | some img => simp [anyHeld_eq_false_iff, allClean_iff, and_assoc]

theorem formatInUse_eq_false_iff :
    s.formatInUse d = false ↔
      s.sequencer = none ∧ (s.drives[d].state = .blank ∨ s.drives[d].state = .offline ∨
        (s.drives[d].state = .mounted ∧ s.mountedBusy d = false)) := by
  unfold State.formatInUse
  rw [Bool.or_eq_false_iff, Option.isSome_eq_false_iff, Option.isNone_iff_eq_none]
  cases s.drives[d].state <;> simp

/-- A drive that may be formatted is protected by its attribute while MOUNTED, by its line otherwise (R189). -/
theorem formatProtectedNow_iff
    (h : s.drives[d].state = .blank ∨ s.drives[d].state = .offline ∨ s.drives[d].state = .mounted) :
    s.formatProtectedNow d = true ↔
      if s.drives[d].state = .mounted then s.drives[d].isProtected = true else s.drives[d].writeProtect = true := by
  unfold State.formatProtectedNow
  rcases h with h | h | h <;> rw [h] <;> simp

end Tests

/-! #### The sequencer takes the drive (R44, R190) -/

section Format
variable {s : State} {desk : Desk} {db skew verify : Byte} {chars : List Byte}

theorem formatOwn_of_bad_slug (h : slugOf chars = none) :
    s.formatOwn desk (db :: skew :: verify :: chars) = s.refuse desk 0x64 noFlags .badSlug := by
  simp only [State.formatOwn, h]
  rfl

variable {name : Chars} (h : slugOf chars = some name)
include h

theorem formatOwn_of_out_of_range (hr : ¬(skew.toNat ≤ 14 ∧ verify.toNat ≤ 1)) :
    s.formatOwn desk (db :: skew :: verify :: chars) = s.refuse desk 0x64 noFlags .outOfRange := by
  have hout : 14 < skew.toNat ∨ 1 < verify.toNat := by omega
  simp only [State.formatOwn, h, if_pos hout]
  rfl

variable (hr : skew.toNat ≤ 14 ∧ verify.toNat ≤ 1)
include hr

theorem formatOwn_of_no_drive (hd : 3 < db.toNat) :
    s.formatOwn desk (db :: skew :: verify :: chars) = s.refuse desk 0x64 noFlags .noDrive := by
  have hin : ¬(14 < skew.toNat ∨ 1 < verify.toNat) := by omega
  simp only [State.formatOwn, h, if_neg hin, driveOf_eq_none hd]
  rfl

theorem formatOwn_of_drive {d : DriveNo} (hd : d.val = db.toNat) :
    s.formatOwn desk (db :: skew :: verify :: chars) =
      if s.formatInUse d then s.refuse desk 0x64 noFlags .inUse
      else if s.formatProtectedNow d then s.refuse desk 0x64 noFlags .isProtected
      else ((s.startFormat d name skew.toNat (verify == 1)).done desk 0x64 noFlags [] .clear).settle := by
  have hin : ¬(14 < skew.toNat ∨ 1 < verify.toNat) := by omega
  simp only [State.formatOwn, h, if_neg hin, driveOf_of_val hd]
  rfl

end Format

/-- Settles O25: the tests in their order; what is left of a drive that passes them is the image to discard. -/
theorem formatTakesTheDrive : Obligations.FormatTakesTheDrive := by
  intro desk db skew verify chars s hl hshort hlong run no inRange
  have hrun : run = _ := exec_format hl hshort hlong db skew verify
  refine ⟨fun h => hrun.trans (congrArg _ (formatOwn_of_bad_slug h)), fun name h =>
    ⟨fun hr => hrun.trans (congrArg _ (formatOwn_of_out_of_range h hr)),
      fun hr hd => hrun.trans (congrArg _ (formatOwn_of_no_drive h hr hd)), fun d hr hd => ?_⟩⟩
  intro state opened mountedFree free barred
  have hown := hrun.trans (congrArg Host.Outcome.next (formatOwn_of_drive h hr hd))
  have hfree : s.formatInUse d = false ↔ free := by
    rw [formatInUse_eq_false_iff, mountedBusy_eq_false_iff, anyOpenOn_iff]
  have hbarred (hf : free) : s.formatProtectedNow d = true ↔ barred := by
    obtain ⟨_, hstate⟩ := hf
    exact formatProtectedNow_iff s d (hstate.imp_right (Or.imp_right And.left))
  refine ⟨fun hf => hown.trans ?_, fun hf hb => hown.trans ?_, fun hf hb => hown.trans ?_⟩
  · rw [if_pos (Bool.eq_true_of_not_eq_false (mt hfree.1 hf))]
  · rw [if_neg (by rw [hfree.2 hf]; exact nofun), if_pos ((hbarred hf).2 hb)]
  · rw [if_neg (by rw [hfree.2 hf]; exact nofun), if_neg (mt (hbarred hf).1 hb)]
    have hverify : (verify == 1) = decide (verify = 1) := rfl
    rw [hverify]
    rfl

end Sys2Proof.Machine
end

section
namespace Sys2Proof.Machine

/-! ### Handles lost while the image stands (R144, R145) -/

/-- Where each act of a fold changes what is seen of its own index alone, the fold changes what is seen of each index in the list
once; `I` may be assumed of the states on the way. -/
theorem foldl_view {ι β : Type} [DecidableEq ι] {view : State → ι → β} {g : ι → β → β} {f : State → ι → State} {I : State → Prop}
    (hkeep : ∀ s a, I s → I (f s a)) (hself : ∀ s a, I s → view (f s a) a = g a (view s a))
    (hother : ∀ s a e, I s → a ≠ e → view (f s a) e = view s e) {l : List ι} (hnodup : l.Nodup) {s : State} (hs : I s) (e : ι) :
    view (l.foldl f s) e = if e ∈ l then g e (view s e) else view s e := by
  induction l generalizing s with
  | nil => exact (if_neg List.not_mem_nil).symm
  | cons a l ih =>
    obtain ⟨hnot, hnodup⟩ := List.nodup_cons.1 hnodup
    rw [List.foldl_cons, ih hnodup (hkeep s a hs)]
    by_cases hae : a = e
    · subst hae
      rw [if_neg hnot, hself s a hs, if_pos List.mem_cons_self]
    · rw [hother s a e hs hae]
      simp only [List.mem_cons, Ne.symm hae, false_or]

/-- What a handle becomes when it is lost for a cause: LOST, or FREE when its desk has been reset since it was opened. -/
def Handle.lostTo (cause : Reason) : Handle → Handle
  | .reading r => .lost (r.lost cause)
  | .writing w => if w.orphan then .free else .lost (w.lost cause)
  | x => x

section LostHandle
variable (s : State) (desk : Desk) (h : HandleNo)

theorem failOnHandle_handle (placed : Bool) (r : Reason) : (s.failOnHandle desk h placed r).handle = s.handle := by
  funext e g
  exact (beside_failOnHandle (d := 0) (.refl 0 True s) desk h placed r).handle e g

/-- Of the handles, the loss of one changes that one only. -/
theorem loseHandle_handle (cause : Reason) :
    (s.loseHandle desk h cause .imageStands).handle = (s.setHandle desk h ((s.handle desk h).lostTo cause)).handle := by
  have hpost : s.OnWork (s.post desk (.handleLost desk h cause)) := setDesk_onWork s desk _
  cases hh : s.handle desk h with
  | free =>
    have hself : s.setHandle desk h .free = s := by rw [← hh, setHandle_self]
    rw [loseHandle_of_not_open cause (.inl hh)]
    exact congrArg State.handle hself.symm
  | lost l =>
    have hself : s.setHandle desk h (.lost l) = s := by rw [← hh, setHandle_self]
    rw [loseHandle_of_not_open cause (.inr ⟨l, hh⟩)]
    exact congrArg State.handle hself.symm
  | reading r =>
    have hgiven := (hpost.trans (giveUpReads_onWork _ r.drive r.table)).trans (unbind_onWork _ r.drive r.slot r.binding)
    rw [loseHandle_of_reading_imageStands cause hh, failOnHandle_handle]
    exact (hgiven.setHandle desk h _).handle
  | writing w =>
    cases ho : w.orphan with
    | false =>
      rw [loseHandle_of_writing_imageStands cause hh ho, failOnHandle_handle, Handle.lostTo, ho]
      exact ((hpost.trans (dropsStory_onWork _ w)).setHandle desk h _).handle
    | true =>
      rw [loseHandle_of_orphan_imageStands cause hh ho, Handle.lostTo, ho]
      exact ((dropsStory_onWork s w).setHandle desk h _).handle

/-- A handle lost if it is one of those meant, seen at that handle and at every other. -/
theorem loseIf_handle_self (meant : Handle → Bool) (cause : Reason) :
    (if meant (s.handle desk h) then s.loseHandle desk h cause .imageStands else s).handle desk h =
      if meant (s.handle desk h) then (s.handle desk h).lostTo cause else s.handle desk h := by
  split
  · rw [loseHandle_handle, State.setHandle_handle_self]
  · rfl

theorem loseIf_handle_of_ne (meant : Handle → Bool) (cause : Reason) {e : Desk} {g : HandleNo} (hne : ¬(desk = e ∧ h = g)) :
    (if meant (s.handle desk h) then s.loseHandle desk h cause .imageStands else s).handle e g = s.handle e g := by
  split
  · rw [loseHandle_handle, State.setHandle_handle_of_ne _ _ _ _ _ _ hne]
  · rfl

end LostHandle

/-! ### UNMOUNT (R144, R186) -/

/-! #### The handles that force takes (R144) -/

theorem forceOff_handle (s : State) (d : DriveNo) (e : Desk) (h : HandleNo) :
    (s.forceOff d).handle e h = if (s.handle e h).forcedOff d then (s.handle e h).lostTo .driveLost else s.handle e h := by
  have hview := foldl_view (view := fun s (p : Desk × HandleNo) => s.handle p.1 p.2)
    (g := fun _ x => if x.forcedOff d then x.lostTo .driveLost else x) (I := fun _ => True)
    (f := fun s p => if (s.handle p.1 p.2).forcedOff d then s.loseHandle p.1 p.2 .driveLost .imageStands else s)
    (fun _ _ _ => trivial) (fun s p _ => loseIf_handle_self s p.1 p.2 (Handle.forcedOff d) .driveLost)
    (fun s p q _ hne => loseIf_handle_of_ne s p.1 p.2 (Handle.forcedOff d) .driveLost fun heq => hne (Prod.ext heq.1 heq.2))
    (show allHandles.Nodup by decide) (s := s) trivial (e, h)
  rw [if_pos (mem_allHandles _)] at hview
  exact hview

theorem forcedOff_reading (d : DriveNo) (r : ReadHandle) : (Handle.reading r).forcedOff d = true ↔ r.drive = d := beq_iff_eq

theorem forcedOff_writing (d : DriveNo) (w : WriteHandle) :
    (Handle.writing w).forcedOff d = true ↔ w.drive = d ∧ ¬(w.state = .committing ∧ w.placed = true) := by
  simp only [Handle.forcedOff, Bool.and_eq_true, beq_iff_eq, Bool.not_eq_true', Bool.eq_false_iff, ne_eq]

/-! #### The tests of an UNMOUNT (R186) -/

section Unmount
variable {s : State} {desk : Desk} {db force : Byte}

theorem unmountOwn_of_out_of_range (h : 1 < force.toNat) : s.unmountOwn desk [db, force] = s.refuse desk 0x63 noFlags .outOfRange := by
  simp only [State.unmountOwn, if_pos h]
  rfl

variable (h : force.toNat ≤ 1)
include h

theorem unmountOwn_of_no_drive (hd : s.imageOf db = none) :
    s.unmountOwn desk [db, force] = s.refuse desk 0x63 noFlags .noDrive := by
  simp only [State.unmountOwn, if_neg (Nat.not_lt.2 h), hd]
  rfl

theorem unmountOwn_of_image {d : DriveNo} {img : Image} (hd : s.imageOf db = some (d, img)) :
    s.unmountOwn desk [db, force] =
      if img.unmounting then s.refuse desk 0x63 noFlags .inUse
      else if force = 0 ∧ s.anyOpenOn d = true then s.refuse desk 0x63 noFlags .inUse
      else s.startUnmount desk d (force == 1) := by
  simp only [State.unmountOwn, if_neg (Nat.not_lt.2 h), hd]
  rfl

end Unmount

theorem startUnmount_of_image {s : State} {d : DriveNo} {img : Image} (hi : s.images[d] = some img) (desk : Desk) (force : Bool) :
    let marked := s.setImage d (some { img with unmounting := true })
    s.startUnmount desk d force = ((if force then marked.forceOff d else marked).setInProgress desk (some (.unmount d))).settle := by
  rw [State.startUnmount, setUnmounting_of_image hi]

/-! #### The end of an UNMOUNT (R186) -/

section Complete
variable {s : State} {d : DriveNo} {img : Image} (hi : s.images[d] = some img)
include hi

theorem completeUnmount_of_not_due (h : ¬(img.unmounting = true ∧ ∀ q : CatNo, img.writes[q] = .clean)) :
    s.completeUnmount d = s := by
  have htest : ¬(img.unmounting && img.allClean) = true := by rw [Bool.and_eq_true, allClean_iff]; exact h
  simp only [State.completeUnmount, hi, if_neg htest]

theorem completeUnmount_of_due (hm : img.unmounting = true) (hclean : ∀ q : CatNo, img.writes[q] = .clean) {desk : Desk}
    (hasker : s.unmountingDesk d = some desk) :
    s.completeUnmount d =
      (((s.tearDown d .offline none).raise (.removed d)).setInProgress desk none).done desk 0x63 noFlags [] .clear := by
  have htest : (img.unmounting && img.allClean) = true := by rw [Bool.and_eq_true, allClean_iff]; exact ⟨hm, hclean⟩
  simp only [State.completeUnmount, hi, if_pos htest, hasker]
  rfl

end Complete

theorem unmountingDesk_of_only {s : State} {d : DriveNo} {desk : Desk} (h : s.desks[desk].inProgress = some (.unmount d))
    (honly : ∀ e : Desk, e ≠ desk → s.desks[e].inProgress ≠ some (.unmount d)) : s.unmountingDesk d = some desk := by
  unfold State.unmountingDesk
  cases hf : allDesks.find? (fun desk => s.desks[desk].inProgress == some (.unmount d)) with
  | none => exact absurd (beq_iff_eq.2 h) (List.find?_eq_none.1 hf desk (mem_allDesks desk))
  | some e =>
    have he : s.desks[e].inProgress = some (.unmount d) := 
      beq_iff_eq.1 (List.find?_some (p := fun desk : Desk => s.desks[desk].inProgress == some (.unmount d)) hf)
    exact congrArg some (of_not_not fun hne => honly e hne he)

/-- Settles O23: the tests in their order, the handles that force takes one by one, the end by the mark and the write states. -/
theorem unmountWaitsForCleanSectors : Obligations.UnmountWaitsForCleanSectors := by
  refine ⟨?_, ?_⟩
  · intro desk db force s hl run no
    have hrun : run = _ := exec_unmount hl db force
    refine ⟨fun h => hrun.trans (congrArg _ (unmountOwn_of_out_of_range h)),
      fun h hd => hrun.trans (congrArg _ (unmountOwn_of_no_drive h hd)), fun d img h hd => ?_⟩
    intro opened marked
    obtain ⟨_, hi⟩ := imageOf_eq_some hd
    have hown := hrun.trans (congrArg Host.Outcome.next (unmountOwn_of_image h hd))
    have hopened : s.anyOpenOn d = true ↔ opened := anyOpenOn_iff s d
    have started (hm : img.unmounting = false) (hfree : ¬(force = 0 ∧ s.anyOpenOn d = true)) :
        run = .next (((if force == 1 then marked.forceOff d else marked).setInProgress desk (some (.unmount d))).settle) := by
      rw [if_neg (by rw [hm]; exact nofun), if_neg hfree, startUnmount_of_image hi] at hown
      exact hown
    refine ⟨fun hm => ?_, fun hm hf ho => ?_, fun hm hf ho => ?_, fun hm hf => ?_⟩
    · rw [if_pos hm] at hown; exact hown
    · rw [if_neg (by rw [hm]; exact nofun), if_pos ⟨hf, hopened.2 ho⟩] at hown; exact hown
    · subst hf; exact started hm fun ho' => ho (hopened.1 ho'.2)
    · intro off t
      have hoff : t = marked.forceOff d := by
        refine congrArg (fun f => List.foldl f marked allHandles) (funext fun u => funext fun x => ?_)
        simp only [off]
        cases hh : u.handle x.1 x.2 with
        | free | lost => rfl
        | reading r => simp only [forcedOff_reading]
        | writing w => simp only [forcedOff_writing]
      have hhandle (e : Desk) (g : HandleNo) : t.handle e g =
          if (s.handle e g).forcedOff d then (s.handle e g).lostTo .driveLost else s.handle e g := by
        rw [hoff, forceOff_handle]
        rfl
      refine ⟨?_, fun e g => ⟨fun r hh => ?_, fun w hh => ?_, fun hh => ?_⟩⟩
      · subst hf
        rw [hoff]
        exact started hm fun hz => absurd hz.1 (by decide)
      · simp only [hhandle, hh, forcedOff_reading]
        rfl
      · simp only [hhandle, hh, forcedOff_writing]
        rfl
      · rcases hh with hh | ⟨l, hh⟩ <;> rw [hhandle, hh] <;> rfl
  · intro d img s hi gone
    refine ⟨fun hm => completeUnmount_of_not_due hi fun h => ?_, fun ⟨q, hq⟩ => completeUnmount_of_not_due hi fun h => hq (h.2 q),
      fun desk hm hclean hw honly => completeUnmount_of_due hi hm hclean (unmountingDesk_of_only hw honly)⟩
    rw [hm] at h
    exact absurd h.1 nofun

/-! ### BREAK-HOLD (R106, R144, R147, R188) -/

section Writers
variable (s : State) (e : Desk) (d : DriveNo) (n : SlotNo)

theorem writesSlot_committing (w : WriteHandle) :
    (Handle.writing w).writesSlot d n true = true ↔ w.drive = d ∧ w.slot = n ∧ w.state = .committing := by
  simp [Handle.writesSlot, and_assoc]

theorem writesSlot_not_committing (w : WriteHandle) :
    (Handle.writing w).writesSlot d n false = true ↔ w.drive = d ∧ w.slot = n ∧ w.state ≠ .committing := by
  simp [Handle.writesSlot, and_assoc]

theorem commitsOn_iff :
    s.commitsOn e d n = true ↔ ∃ h w, s.handle e h = .writing w ∧ w.drive = d ∧ w.slot = n ∧ w.state = .committing := by
  have hall : ∀ h : HandleNo, h ∈ [(0 : HandleNo), 1] := by decide
  have hone (x : Handle) : x.writesSlot d n true = true ↔ ∃ w, x = .writing w ∧ w.drive = d ∧ w.slot = n ∧ w.state = .committing := by
    cases x with
    | writing w => simp only [writesSlot_committing, Handle.writing.injEq, exists_eq_left']
    | free | reading | lost => simp [Handle.writesSlot]
  simp only [State.commitsOn, List.any_eq_true, hone, hall, true_and]

/-- Of the holder's handles those that write the slot and do not commit are lost, and no handle of another desk. -/
theorem loseWriter_handle_self (h : HandleNo) :
    (s.loseWriter e d n).handle e h =
      if (s.handle e h).writesSlot d n false then (s.handle e h).lostTo .notHolder else s.handle e h := by
  have hview := foldl_view (view := fun s (h : HandleNo) => s.handle e h)
    (g := fun _ x => if x.writesSlot d n false then x.lostTo .notHolder else x) (I := fun _ => True)
    (f := fun s h => if (s.handle e h).writesSlot d n false then s.loseHandle e h .notHolder .imageStands else s)
    (fun _ _ _ => trivial) (fun s h _ => loseIf_handle_self s e h (fun x => x.writesSlot d n false) .notHolder)
    (fun s h g _ hne => loseIf_handle_of_ne s e h (fun x => x.writesSlot d n false) .notHolder fun heq => hne heq.2)
    (show [(0 : HandleNo), 1].Nodup by decide) (s := s) trivial h
  have hall : ∀ h : HandleNo, h ∈ [(0 : HandleNo), 1] := by decide
  rw [if_pos (hall h)] at hview
  exact hview

theorem loseWriter_handle_of_ne {g : Desk} (hne : g ≠ e) (h : HandleNo) : (s.loseWriter e d n).handle g h = s.handle g h :=
  have hstep (u : State) (k : HandleNo) := loseIf_handle_of_ne u e k (fun x => x.writesSlot d n false) .notHolder (e := g) (g := h)
    fun heq => hne heq.1.symm
  (hstep _ 1).trans (hstep s 0)

end Writers

section BreakHold
variable {s : State} {desk : Desk} {db : Byte} {chars : List Byte}

theorem breakHoldOwn_of_error {r : Reason} (h : s.findStory false db chars = .error r) :
    s.breakHoldOwn desk (db :: chars) = s.refuse desk 0x65 noFlags r := by
  simp only [State.breakHoldOwn, h]
  rfl

variable {d : DriveNo} {n : SlotNo} (h : s.findStory false db chars = .ok (d, n))
include h

theorem breakHoldOwn_of_unheld (hh : (s.slot d n).holder = none) :
    s.breakHoldOwn desk (db :: chars) = s.refuse desk 0x65 noFlags .notHolder := by
  simp only [State.breakHoldOwn, h, hh]
  rfl

theorem breakHoldOwn_of_held {e : Desk} (hh : (s.slot d n).holder = some e) :
    s.breakHoldOwn desk (db :: chars) =
      if s.commitsOn e d n then s.refuse desk 0x65 noFlags .inUse else s.breakHold desk e d n := by
  simp only [State.breakHoldOwn, h, hh]
  rfl

end BreakHold

theorem breakHold_of_image {s : State} {d : DriveNo} {img : Image} (hi : s.images[d] = some img) {n : SlotNo} {e : Desk}
    (hh : (img.slots[n]).holder = some e) (desk : Desk) :
    let t := img.slots[n]
    let broken := ((s.setImage d (some (img.setSlot n { t with holder := none }))).setDesk e
      { s.desks[e] with holds := s.desks[e].holds - 1 }).post e (.holdBroken d t.slug desk)
    s.breakHold desk e d n =
      (((broken.loseWriter e d n).raise (.released d t.slug e t.version)).done desk 0x65 noFlags [] .clear).settle := by
  have hslot := slot_of_image hi n
  simp only [State.breakHold, dropHold_of_held (by rw [hslot]; exact hh), hslot, setSlot_of_image hi]
  rfl

/-- Settles O24: the refusals of the search for the story, then the holder and its COMMITTING handle; then `breakHold_of_image`. -/
theorem breakHoldTakesTheHoldAway : Obligations.BreakHoldTakesTheHoldAway := by
  intro desk db chars s hl hshort hlong run no
  have hrun : run = _ := exec_breakHold hl hshort hlong db
  have refused {r : Reason} (h : s.findStory false db chars = .error r) : no r := hrun.trans (congrArg _ (breakHoldOwn_of_error h))
  refine ⟨fun h => refused (findStory_of_bad_slug h), fun slug h => ⟨fun hd => refused (findStory_of_no_drive h hd), fun d img hd =>
    ⟨fun hn => refused (findStory_of_not_found h hd rfl hn), fun n hn => ?_⟩⟩⟩
  intro t
  obtain ⟨_, hi⟩ := imageOf_eq_some hd
  have hfound := findStory_of_found (markMatters := false) h hd rfl hn
  have hslot : s.slot d n = t := slot_of_image hi n
  refine ⟨fun hh => hrun.trans (congrArg _ (breakHoldOwn_of_unheld hfound (by rw [hslot]; exact hh))), fun e hh => ?_⟩
  intro committing broken
  have hheld := hrun.trans (congrArg Host.Outcome.next (breakHoldOwn_of_held hfound (by rw [hslot]; exact hh)))
  refine ⟨fun hc => ?_, ?_⟩
  · rw [if_pos ((commitsOn_iff ..).2 hc)] at hheld; exact hheld
  · intro off after hc
    have hafter : after = broken.loseWriter e d n := by
      have hfold : after = [(0 : HandleNo), 1].foldl off broken := rfl
      rw [hfold, State.loseWriter]
      congr 1
      funext u k
      simp only [off]
      cases hk : u.handle e k with
      | free | reading | lost => rfl
      | writing w => simp only [writesSlot_not_committing]
    have hself (k : HandleNo) : after.handle e k =
        if (s.handle e k).writesSlot d n false then (s.handle e k).lostTo .notHolder else s.handle e k := by
      rw [hafter]
      exact loseWriter_handle_self broken e d n k
    refine ⟨?_, fun k w hw hdrive hn => ?_, fun k hno => ?_, fun g k hne => ?_⟩
    · rw [if_neg (mt (commitsOn_iff ..).1 hc), breakHold_of_image hi hh] at hheld
      rw [hafter]
      exact hheld
    · have hopen : ¬w.state = .committing := fun hstate => hc ⟨k, w, hw, hdrive, hn, hstate⟩
      rw [hself, hw, if_pos ((writesSlot_not_committing ..).2 ⟨hdrive, hn, hopen⟩)]
      rfl
    · rw [hself, if_neg fun hwrites => ?_]
      cases hk : s.handle e k with
      | free | reading | lost => rw [hk] at hwrites; exact absurd hwrites nofun
      | writing w =>
        rw [hk, writesSlot_not_committing] at hwrites
        obtain ⟨hdrive, hslot, _⟩ := hwrites
        exact (hno w hk).elim (absurd hdrive) (absurd hslot)
    · rw [hafter]
      exact loseWriter_handle_of_ne broken e d n hne k

end Sys2Proof.Machine
end

section
namespace Sys2Proof.Machine

/-! ### RESTART (R57, R64, R74, R75, R83, R174, R193) -/

/-! #### What withdrawals leave of the work (R49, R56) -/

/-- A scheduler from which requests may have been withdrawn: the work list has lost some, and a request in hand is gone only if it was
not in a pass. -/
structure Scheduler.Recedes (x y : Scheduler) : Prop where
  runLength : y.runLength = x.runLength
  workList : ∀ r ∈ y.workList, r ∈ x.workList
  inHand : y.inHand = x.inHand ∨ (y.inHand = none ∧ ∀ r, x.inHand ≠ some ⟨r, .passing⟩)

section Scheduler
variable {x y z : Scheduler}

theorem Scheduler.Recedes.refl (x : Scheduler) : x.Recedes x := ⟨rfl, fun _ => id, .inl rfl⟩

theorem Scheduler.Recedes.trans (h : x.Recedes y) (k : y.Recedes z) : x.Recedes z where
  runLength := k.runLength.trans h.runLength
  workList r hr := h.workList r (k.workList r hr)
  inHand := by
    rcases k.inHand with hk | ⟨hk, hnot⟩
    · rw [hk]; exact h.inHand
    · refine .inr ⟨hk, fun r hx => ?_⟩
      rcases h.inHand with hh | ⟨_, hpass⟩
      · exact hnot r (hh.trans hx)
      · exact hpass r hx

theorem Scheduler.Recedes.eq_idle (h : Scheduler.idle.Recedes y) : y = .idle := by
  obtain ⟨hrun, hwork, hhand⟩ := h
  have hnone : y.inHand = none := hhand.elim id And.left
  obtain ⟨work, hand, run⟩ := y
  cases hnone
  cases hrun
  have hnil : work = [] := List.eq_nil_iff_forall_not_mem.2 fun r hr => List.not_mem_nil (hwork r hr)
  cases hnil
  rfl

theorem Scheduler.Recedes.passing (h : x.Recedes y) {r : SectorRequest} (hx : x.inHand = some ⟨r, .passing⟩) :
    y.inHand = some ⟨r, .passing⟩ := by
  rcases h.inHand with hy | ⟨_, hnot⟩
  · rw [hy, hx]
  · exact absurd hx (hnot r)

theorem Scheduler.Recedes.of_some (h : x.Recedes y) {i : InHand} (hy : y.inHand = some i) : x.inHand = some i := by
  rcases h.inHand with hx | ⟨hnone, _⟩
  · rw [← hx, hy]
  · rw [hnone] at hy; cases hy

theorem Scheduler.recedes_filter (x : Scheduler) (keep : SectorRequest → Bool) :
    x.Recedes { x with workList := x.workList.filter keep } := ⟨rfl, fun _ hr => (List.mem_filter.1 hr).1, .inl rfl⟩

end Scheduler

/-- The channel without what withdrawals change of it: the wait list and the mark on the pass. -/
def Channel.core (c : Channel) : Channel := { c with waitList := [], pass := c.pass.map fun p => { p with withdrawn := false } }

/-- The handle's table has the page. -/
def Handle.HasPage (p : PageNo) : Handle → Prop
  | .reading r => .reading p ∈ r.table ∨ .present p ∈ r.table
  | .writing w => .filling p ∈ w.table ∨ .writing p ∈ w.table
  | _ => False

/-- A page that only the request in the pass of drive `d` can have: no work list, no other request in hand and no handle has it. -/
structure State.Spares (s : State) (d : DriveNo) (p : PageNo) : Prop where
  work : ∀ e : DriveNo, ∀ r ∈ s.scheds[e].workList, r.page ≠ p
  hand : ∀ (e : DriveNo) (i : InHand), s.scheds[e].inHand = some i → i.request.page = p → e = d ∧ i.phase = .passing
  handles : ∀ e n, ¬(s.handle e n).HasPage p

/-- From s to t work has been withdrawn and handles have ended: the channel keeps its core, the page that is spared stays as it was,
and a cleared desk stays clear. -/
structure Recedes (d : DriveNo) (p : PageNo) (s t : State) : Prop where
  scheds : ∀ e : DriveNo, (s.scheds[e]).Recedes t.scheds[e]
  core : t.channel.core = s.channel.core
  waitList : ∀ x ∈ t.channel.waitList, x ∈ s.channel.waitList
  handles : ∀ e n, (t.handle e n).HasPage p → (s.handle e n).HasPage p
  page : s.Spares d p → t.pool.pages[p] = s.pool.pages[p]
  desks : ∀ e : Desk, s.desks[e] = .clear → t.desks[e] = .clear

/-- What an act that withdraws no work and ends no handle leaves. -/
structure State.SameWork (s t : State) : Prop where
  scheds : t.scheds = s.scheds
  channel : t.channel = s.channel
  pages : t.pool.pages = s.pool.pages
  handles : t.handles = s.handles
  desks : ∀ e : Desk, s.desks[e] = .clear → t.desks[e] = .clear

section SameWork
variable {s t u : State}

theorem State.SameWork.refl (s : State) : s.SameWork s := ⟨rfl, rfl, rfl, rfl, fun _ => id⟩

theorem State.SameWork.trans (h : s.SameWork t) (k : t.SameWork u) : s.SameWork u :=
  ⟨k.scheds.trans h.scheds, k.channel.trans h.channel, k.pages.trans h.pages, k.handles.trans h.handles,
    fun e he => k.desks e (h.desks e he)⟩

theorem foldl_sameWork {α : Type} {f : State → α → State} (hf : ∀ s a, State.SameWork s (f s a)) (l : List α) (s : State) :
    s.SameWork (l.foldl f s) := by
  induction l generalizing s with
  | nil => exact .refl s
  | cons a l ih => exact (hf s a).trans (ih (f s a))

theorem setImage_sameWork (s : State) (d : DriveNo) (x : Option Image) : s.SameWork (s.setImage d x) :=
  ⟨rfl, rfl, rfl, rfl, fun _ => id⟩

theorem leaveWaiters_sameWork (s : State) (desk : Desk) : s.SameWork (s.leaveWaiters desk) := ⟨rfl, rfl, rfl, rfl, fun _ => id⟩

theorem leaveSystem_sameWork (s : State) (drop : SystemWaiter → Bool) : s.SameWork (s.leaveSystem drop) :=
  ⟨rfl, rfl, rfl, rfl, fun _ => id⟩

theorem setDesk_sameWork (s : State) (desk : Desk) {x : DeskContext} (hx : s.desks[desk] = .clear → x = .clear) :
    s.SameWork (s.setDesk desk x) := by
  refine ⟨rfl, rfl, rfl, rfl, fun e he => ?_⟩
  by_cases hde : desk = e
  · subst hde
    rw [setDesk_desks_self, hx he]
  · rw [setDesk_desks_of_ne s x hde, he]

theorem setInProgress_none_sameWork (s : State) (desk : Desk) : s.SameWork (s.setInProgress desk none) :=
  setDesk_sameWork s desk fun h => by rw [h]; rfl

/-- A desk without watches and subscriptions takes no notice of an event. -/
theorem clear_meets (ev : Event) : DeskContext.clear.meets ev = .clear := by
  have hnotice : subscriptionNotice .clear ev = none := by
    cases ev <;> simp [subscriptionNotice, DeskContext.clear]
  simp only [DeskContext.meets, hnotice]
  rfl

theorem raise_sameWork (s : State) (ev : Event) : s.SameWork (s.raise ev) :=
  foldl_sameWork (fun s desk => setDesk_sameWork s desk (x := s.desks[desk].meets ev) fun h => by rw [h, clear_meets]) allDesks s

theorem dropHold_sameWork (s : State) (d : DriveNo) (n : SlotNo) : s.SameWork (s.dropHold d n) := by
  cases hh : (s.slot d n).holder with
  | none => rw [dropHold_of_unheld hh]; exact .refl s
  | some e =>
    rw [dropHold_of_held hh]
    refine (setImage_sameWork s d _).trans (setDesk_sameWork _ e fun h => ?_)
    have hclear : s.desks[e] = .clear := h
    rw [hclear]
    rfl

theorem releaseWithEvent_sameWork (s : State) (d : DriveNo) (n : SlotNo) : s.SameWork (s.releaseWithEvent d n) := by
  unfold State.releaseWithEvent
  dsimp only
  split
  · exact .refl s
  · exact (dropHold_sameWork s d n).trans (raise_sameWork _ _)

theorem unbind_sameWork (s : State) (d : DriveNo) (n : SlotNo) (b : Binding) : s.SameWork (s.unbind d n b) := by
  unfold State.unbind
  split
  · exact .refl s
  · split
    · exact setImage_sameWork ..
    · split
      · exact .refl s
      · split <;> exact setImage_sameWork ..

end SameWork

section Recedes
variable {d : DriveNo} {p : PageNo} {s₀ s t : State}

theorem Recedes.refl (d : DriveNo) (p : PageNo) (s : State) : Recedes d p s s :=
  ⟨fun _ => .refl _, rfl, fun _ => id, fun _ _ => id, fun _ => rfl, fun _ => id⟩

theorem Recedes.spares (h : Recedes d p s t) (hs : s.Spares d p) : t.Spares d p where
  work e r hr := hs.work e r ((h.scheds e).workList r hr)
  hand e i hi := hs.hand e i ((h.scheds e).of_some hi)
  handles e n hn := hs.handles e n (h.handles e n hn)

theorem Recedes.trans {u : State} (h : Recedes d p s t) (k : Recedes d p t u) : Recedes d p s u where
  scheds e := (h.scheds e).trans (k.scheds e)
  core := k.core.trans h.core
  waitList x hx := h.waitList x (k.waitList x hx)
  handles e n hn := h.handles e n (k.handles e n hn)
  page hs := (k.page (h.spares hs)).trans (h.page hs)
  desks e he := k.desks e (h.desks e he)

/-- One act more: what it may do to the page is asked only for a page that was spared from the start. -/
theorem Recedes.step (h : Recedes d p s₀ s) (hscheds : ∀ e : DriveNo, (s.scheds[e]).Recedes t.scheds[e])
    (hcore : t.channel.core = s.channel.core) (hwait : ∀ x ∈ t.channel.waitList, x ∈ s.channel.waitList)
    (hhandles : ∀ e n, (t.handle e n).HasPage p → (s.handle e n).HasPage p)
    (hpage : s₀.Spares d p → t.pool.pages[p] = s.pool.pages[p]) (hdesks : ∀ e : Desk, s.desks[e] = .clear → t.desks[e] = .clear) :
    Recedes d p s₀ t where
  scheds e := (h.scheds e).trans (hscheds e)
  core := hcore.trans h.core
  waitList x hx := h.waitList x (hwait x hx)
  handles e n hn := h.handles e n (hhandles e n hn)
  page hs := (hpage hs).trans (h.page hs)
  desks e he := hdesks e (h.desks e he)

theorem Recedes.sameWork (h : Recedes d p s₀ s) (k : s.SameWork t) : Recedes d p s₀ t := by
  obtain ⟨hscheds, hchannel, hpages, hhandles, hdesks⟩ := k
  refine h.step (fun e => ?_) (by rw [hchannel]) (by rw [hchannel]; exact fun _ => id) (fun e n => ?_) (fun _ => by rw [hpages]) hdesks
  · rw [hscheds]; exact .refl _
  · unfold State.handle; rw [hhandles]; exact id

theorem recedes_foldl {α : Type} {f : State → α → State} {l : List α}
    (hf : ∀ s, ∀ a ∈ l, Recedes d p s₀ s → Recedes d p s₀ (f s a)) (h : Recedes d p s₀ s) : Recedes d p s₀ (l.foldl f s) := by
  induction l generalizing s with
  | nil => exact h
  | cons a l ih => exact ih (fun s b hb => hf s b (List.mem_cons_of_mem _ hb)) (hf s a List.mem_cons_self h)

/-! #### One request withdrawn (R49, R56) -/

theorem recedes_setSched (h : Recedes d p s₀ s) (e : DriveNo) {x : Scheduler} (hx : (s.scheds[e]).Recedes x) :
    Recedes d p s₀ (s.setSched e x) :=
  h.step (forall_set s.scheds e x (fun i y => (s.scheds[i]).Recedes y) hx fun _ => .refl _) rfl (fun _ => id) (fun _ _ => id)
    (fun _ => rfl) fun _ => id

theorem recedes_leaveWaitList (h : Recedes d p s₀ s) (e : DriveNo) : Recedes d p s₀ (s.leaveWaitList e) :=
  h.step (fun _ => .refl _) rfl (fun _ hx => (List.mem_filter.1 hx).1) (fun _ _ => id) (fun _ => rfl) fun _ => id

theorem recedes_markWithdrawn (h : Recedes d p s₀ s) : Recedes d p s₀ s.markWithdrawn := by
  refine h.step (fun _ => .refl _) ?_ (fun _ => id) (fun _ _ => id) (fun _ => rfl) fun _ => id
  simp only [State.markWithdrawn, State.setChannel_channel, Channel.core, Option.map_map]
  rfl

theorem freePage_pages_of_ne (s : State) {q : PageNo} (hne : q ≠ p) : (s.freePage q).pool.pages[p] = s.pool.pages[p] := by
  simpa [State.freePage, State.setPage] using Vector.getElem_set_ne _ _ fun h => hne (Fin.ext h)

theorem recedes_freePage (h : Recedes d p s₀ s) {q : PageNo} (hq : s₀.Spares d p → q ≠ p) : Recedes d p s₀ (s.freePage q) :=
  h.step (fun _ => .refl _) rfl (fun _ => id) (fun _ _ => id) (fun hs => freePage_pages_of_ne s (hq hs)) fun _ => id

/-- The spared page may be withdrawn only as that of a request in a pass. -/
theorem recedes_withdraw (h : Recedes d p s₀ s) (e : DriveNo) {q : PageNo}
    (hq : s₀.Spares d p → q = p → ∃ r, s.scheds[e].inHand = some ⟨r, .passing⟩ ∧ r.page = p) : Recedes d p s₀ (s.withdraw e q) := by
  have hfilter := Scheduler.recedes_filter s.scheds[e] fun x => x.page != q
  by_cases hin : ∀ i, s.scheds[e].inHand = some i → i.request.page ≠ q
  · rw [withdraw_of_not_in_hand hin]
    refine recedes_freePage (recedes_setSched h e hfilter) fun hs heq => ?_
    obtain ⟨r, hr, hpage⟩ := hq hs heq
    exact hin _ hr (hpage.trans heq.symm)
  · simp only [not_forall, not_not] at hin
    obtain ⟨⟨r, phase⟩, hi, hpage⟩ := hin
    have hother (hphase : phase ≠ .passing) (hs : s₀.Spares d p) : q ≠ p := fun heq => by
      obtain ⟨x, hx, _⟩ := hq hs heq
      rw [hi] at hx
      cases hx
      exact hphase rfl
    have hnone (hphase : phase ≠ .passing) :
        (s.scheds[e]).Recedes { s.scheds[e] with workList := s.scheds[e].workList.filter (fun x => x.page != q), inHand := none } :=
      ⟨rfl, hfilter.workList, .inr ⟨rfl, fun x hx => by rw [hi] at hx; cases hx; exact hphase rfl⟩⟩
    cases phase with
    | positioning =>
      rw [withdraw_of_positioning hpage hi]
      exact recedes_freePage (recedes_setSched h e (hnone nofun)) (hother nofun)
    | waiting =>
      rw [withdraw_of_waiting hpage hi]
      exact recedes_freePage (recedes_leaveWaitList (recedes_setSched h e (hnone nofun)) e) (hother nofun)
    | passing =>
      rw [withdraw_of_passing hpage hi]
      exact recedes_markWithdrawn (recedes_setSched h e hfilter)

/-! #### Pages of a handle given up (R129, R131, R143) -/

theorem recedes_giveUpReads (h : Recedes d p s₀ s) (e : DriveNo) {r : ReadHandle}
    (hr : s₀.Spares d p → ¬(Handle.reading r).HasPage p) : Recedes d p s₀ (s.giveUpReads e r.table) := by
  refine recedes_foldl (fun s x hx h => ?_) h
  cases x with
  | absent => exact h
  | reading q => exact recedes_withdraw h e fun hs heq => absurd (.inl (heq ▸ hx)) (hr hs)
  | present q => exact recedes_freePage h fun hs heq => hr hs (.inr (heq ▸ hx))

theorem recedes_giveUpWrites (h : Recedes d p s₀ s) (e : DriveNo) {w : WriteHandle}
    (hw : s₀.Spares d p → ¬(Handle.writing w).HasPage p) : Recedes d p s₀ (s.giveUpWrites e w.table) := by
  refine recedes_foldl (fun s x hx h => ?_) h
  cases x with
  | unstarted | written => exact h
  | filling q => exact recedes_freePage h fun hs heq => hw hs (.inl (heq ▸ hx))
  | writing q => exact recedes_withdraw h e fun hs heq => absurd (.inr (heq ▸ hx)) (hw hs)

theorem recedes_setHandle (h : Recedes d p s₀ s) (desk : Desk) (n : HandleNo) {x : Handle}
    (hx : x.HasPage p → (s.handle desk n).HasPage p) : Recedes d p s₀ (s.setHandle desk n x) := by
  refine h.step (fun _ => .refl _) rfl (fun _ => id) (fun e g hg => ?_) (fun _ => rfl) fun _ => id
  by_cases hde : desk = e ∧ n = g
  · obtain ⟨rfl, rfl⟩ := hde
    rw [State.setHandle_handle_self] at hg
    exact hx hg
  · rwa [State.setHandle_handle_of_ne _ _ _ _ _ _ hde] at hg

theorem recedes_free (h : Recedes d p s₀ s) (desk : Desk) (n : HandleNo) : Recedes d p s₀ (s.setHandle desk n .free) :=
  recedes_setHandle h desk n False.elim

/-! #### A desk reset (R181, R182) -/

theorem recedes_withdrawCatalogue (h : Recedes d p s₀ s) (e : DriveNo) (q : CatNo) : Recedes d p s₀ (s.withdrawCatalogue e q) := by
  have hleft := h.sameWork (leaveSystem_sameWork s fun w => w == .catalogue e q)
  unfold State.withdrawCatalogue
  dsimp only
  split
  next r hr =>
    refine recedes_withdraw hleft e fun hs heq => absurd heq ?_
    exact hs.work e r ((h.scheds e).workList r (List.mem_of_find?_eq_some hr))
  next =>
    split
    next i hi =>
      split
      · refine recedes_withdraw hleft e fun hs heq => ?_
        obtain ⟨rfl, hphase⟩ := hs.hand e i ((h.scheds e).of_some hi) heq
        obtain ⟨r, phase⟩ := i
        cases hphase
        exact ⟨r, hi, heq⟩
      · exact hleft
    next => exact hleft

theorem recedes_takeBackRemoval (h : Recedes d p s₀ s) (e : DriveNo) (n : SlotNo) : Recedes d p s₀ (s.takeBackRemoval e n) := by
  have hslot : Recedes d p s₀ (s.setSlot e n { s.slot e n with pending := none, carried := false }) :=
    h.sameWork (setImage_sameWork ..)
  unfold State.takeBackRemoval
  dsimp only
  split
  · split
    · exact hslot
    · exact (recedes_withdrawCatalogue hslot e _).sameWork (setImage_sameWork ..)
  · split
    · exact hslot
    · exact hslot.sameWork (setImage_sameWork ..)
  · exact hslot

theorem recedes_dropInProgress (h : Recedes d p s₀ s) (desk : Desk) : Recedes d p s₀ (s.dropInProgress desk) := by
  cases hw : s.desks[desk].inProgress with
  | none => rw [dropInProgress_of_idle hw]; exact h
  | some w =>
    rw [dropInProgress_of_waiting hw]
    refine Recedes.sameWork ?_ (setInProgress_none_sameWork _ desk)
    cases w with
    | get | put => exact h.sameWork (leaveWaiters_sameWork s desk)
    | file => exact h
    | spike e n lowered =>
      cases hc : (s.slot e n).carried with
      | true => rw [dropEffect_spike_of_carried lowered hc]; exact h
      | false => rw [dropEffect_spike_of_uncarried lowered hc]; exact recedes_takeBackRemoval h e n
    | unmount e => exact h.sameWork (setImage_sameWork s e _)

theorem recedes_dropsStory (h : Recedes d p s₀ s) {w : WriteHandle} (hw : s₀.Spares d p → ¬(Handle.writing w).HasPage p) :
    Recedes d p s₀ (s.dropsStory w) := by
  have hgiven : Recedes d p s₀ ((s.giveUpWrites w.drive w.table).giveBack w.drive w.reservation) :=
    (recedes_giveUpWrites h w.drive hw).sameWork (setImage_sameWork ..)
  unfold State.dropsStory
  dsimp only
  split
  · exact (hgiven.sameWork (releaseWithEvent_sameWork _ w.drive w.slot)).sameWork (setImage_sameWork _ w.drive _)
  · exact hgiven

theorem recedes_endHandle (h : Recedes d p s₀ s) (desk : Desk) (n : HandleNo) : Recedes d p s₀ (s.endHandle desk n) := by
  have hspared (hs : s₀.Spares d p) : ¬(s.handle desk n).HasPage p := fun hn => hs.handles desk n (h.handles desk n hn)
  cases hh : s.handle desk n with
  | free => rw [endHandle_of_free hh]; exact h
  | lost l => rw [endHandle_of_lost hh]; exact recedes_free h desk n
  | reading r =>
    rw [hh] at hspared
    rw [endHandle_of_reading hh]
    exact recedes_free ((recedes_giveUpReads h r.drive hspared).sameWork (unbind_sameWork _ r.drive r.slot r.binding)) desk n
  | writing w =>
    rw [hh] at hspared
    by_cases hw : w.state = .committing
    · rw [endHandle_of_committing hh hw]
      exact recedes_setHandle h desk n fun hx => by rw [hh]; exact hx
    · rw [endHandle_of_not_committing hh hw]
      exact recedes_free (recedes_dropsStory h hspared) desk n

theorem recedes_deskReset (h : Recedes d p s₀ s) (desk : Desk) : Recedes d p s₀ (s.deskReset desk) := by
  have hhandles := recedes_endHandle (recedes_endHandle (recedes_dropInProgress h desk) desk 0) desk 1
  have hholds : (((s.dropInProgress desk).endHandle desk 0).endHandle desk 1).SameWork
      ((((s.dropInProgress desk).endHandle desk 0).endHandle desk 1).releaseHolds desk) :=
    foldl_sameWork (fun s e => foldl_sameWork (fun s n => releaseWithEvent_sameWork s e n) (s.heldBy e desk) s) allDrives _
  exact (hhandles.sameWork hholds).sameWork (setDesk_sameWork _ desk fun _ => rfl)

end Recedes

end Sys2Proof.Machine
end

section
namespace Sys2Proof.Machine

/-! #### What RESTART keeps besides drives, desks and work -/

/-- What every act of RESTART keeps: lines, settings, tallies, counters and POWER-GOOD. -/
def State.Outlives (s t : State) : Prop :=
  t = { s with drives := t.drives, scheds := t.scheds, images := t.images, channel := t.channel, pool := t.pool, desks := t.desks
               handles := t.handles, sequencer := t.sequencer }

section Outlives
variable {s t u : State}

theorem State.Outlives.refl (s : State) : s.Outlives s := rfl

theorem State.Outlives.trans (h : s.Outlives t) (k : t.Outlives u) : s.Outlives u := by
  unfold State.Outlives at *
  rw [k, h]

theorem State.OnWork.outlives (h : s.OnWork t) : s.Outlives t := by
  unfold State.OnWork at h
  unfold State.Outlives
  rw [h]

theorem foldl_outlives {α : Type} {f : State → α → State} (hf : ∀ s a, State.Outlives s (f s a)) (l : List α) (s : State) :
    s.Outlives (l.foldl f s) := by
  induction l generalizing s with
  | nil => exact .refl s
  | cons a l ih => exact (hf s a).trans (ih (f s a))

/-- What every act of a fold keeps, the fold keeps. -/
theorem foldl_keeps {α β : Type} {f : State → α → State} {g : State → β} (hf : ∀ s a, g (f s a) = g s) (l : List α) (s : State) :
    g (l.foldl f s) = g s := by
  induction l generalizing s with
  | nil => rfl
  | cons a l ih => exact (ih (f s a)).trans (hf s a)

theorem State.OnWork.drives (h : s.OnWork t) : t.drives = s.drives := by
  unfold State.OnWork at h
  rw [h]

theorem deskReset_outlives (s : State) (desk : Desk) : s.Outlives (s.deskReset desk) :=
  State.Outlives.trans (t := (s.setHandle desk 0 (s.handle desk 0).ended).setHandle desk 1 (s.handle desk 1).ended) rfl
    (deskReset_onWork s desk).outlives

theorem deskReset_drives (s : State) (desk : Desk) : (s.deskReset desk).drives = s.drives := (deskReset_onWork s desk).drives

end Outlives

/-! #### Every desk reset (R193) -/

/-- Every desk has been reset: its context clear, and of its handles only COMMITTING ones left, with the mark of the reset. -/
structure State.AllReset (s : State) : Prop where
  desks : ∀ e : Desk, s.desks[e] = .clear
  handles : ∀ e n, s.handle e n = .free ∨ ∃ w, s.handle e n = .writing w ∧ w.orphan = true

/-- Every desk reset, one after the other. -/
def State.desksReset (s : State) : State := allDesks.foldl (fun s desk => State.deskReset s desk) s

theorem desks_foldl_deskReset (l : List Desk) (s : State) (e : Desk) (h : e ∈ l ∨ s.desks[e] = .clear) :
    (l.foldl (fun s desk => State.deskReset s desk) s).desks[e] = .clear := by
  induction l generalizing s with
  | nil => exact h.resolve_left List.not_mem_nil
  | cons a l ih =>
    rw [List.foldl_cons]
    apply ih (s.deskReset a)
    rcases h with h | h
    · rcases List.mem_cons.1 h with rfl | h
      · exact .inr (deskReset_desk s e)
      · exact .inl h
    · exact .inr ((recedes_deskReset (.refl 0 0 s) a).desks e h)

theorem deskReset_handle_of_ne (s : State) {desk e : Desk} (hne : desk ≠ e) (n : HandleNo) :
    (s.deskReset desk).handle e n = s.handle e n := by
  rw [(deskReset_onWork s desk).handle, State.setHandle_handle_of_ne _ _ _ _ _ _ fun h => hne h.1,
    State.setHandle_handle_of_ne _ _ _ _ _ _ fun h => hne h.1]

theorem desksReset_handle (s : State) (e : Desk) (n : HandleNo) : s.desksReset.handle e n = (s.handle e n).ended :=
  foldl_allDesks_view (view := fun s e => s.handle e n) (g := fun _ x => x.ended) (I := fun _ => True) (fun _ _ => id)
    (fun s a _ => deskReset_handle s a n) (fun s _ _ _ hne => deskReset_handle_of_ne s hne n) trivial e

theorem desksReset_allReset (s : State) : s.desksReset.AllReset where
  desks e := desks_foldl_deskReset allDesks s e (.inl (mem_allDesks e))
  handles e n := by
    rw [desksReset_handle]
    rcases (s.handle e n).ended_eq_free_or with h | ⟨w, _, _, h⟩
    · exact .inl h
    · exact .inr ⟨_, h, rfl⟩

theorem recedes_desksReset (d : DriveNo) (p : PageNo) (s : State) : Recedes d p s s.desksReset :=
  recedes_foldl (fun _ a _ h => recedes_deskReset h a) (.refl d p s)

theorem desksReset_outlives (s : State) : s.Outlives s.desksReset := foldl_outlives deskReset_outlives allDesks s

theorem desksReset_drives (s : State) : s.desksReset.drives = s.drives := foldl_keeps deskReset_drives allDesks s

/-! #### What lies around a drive, with every desk reset (R43, R195) -/

section Around
variable {d a : DriveNo} {p : PageNo} {s₀ s : State}

/-- With no request waiting nobody is answered: a slot of the image loses its hold and nothing else. -/
theorem discardSlot_of_reset (hr : ∀ e : Desk, s.desks[e] = .clear) (n : SlotNo) : s.discardSlot a n = s.dropHold a n := by
  unfold State.discardSlot
  cases hp : (s.slot a n).pending with
  | none => rfl
  | some c =>
    rcases answerLost_cases s a n c with ⟨w, hw, _⟩ | ⟨heq, _⟩
    · rw [hr c.desk] at hw
      cases hw
    · exact congrArg (fun u => State.dropHold u a n) heq

theorem discardSlots_of_reset (l : List SlotNo) (hr : ∀ e : Desk, s.desks[e] = .clear) :
    s.SameWork (l.foldl (fun s n => State.discardSlot s a n) s) ∧ s.OnWork (l.foldl (fun s n => State.discardSlot s a n) s) := by
  induction l generalizing s with
  | nil => exact ⟨.refl s, rfl⟩
  | cons n l ih =>
    have hwork := dropHold_sameWork s a n
    obtain ⟨hrest, hframe⟩ := ih (s := s.dropHold a n) fun e => hwork.desks e (hr e)
    rw [List.foldl_cons, discardSlot_of_reset hr]
    exact ⟨hwork.trans hrest, (dropHold_onWork s a n).trans hframe⟩

theorem watchesReturned_clear (a : DriveNo) : DeskContext.clear.watchesReturned a = .clear := rfl

theorem returnWatches_sameWork (s : State) (a : DriveNo) : s.SameWork (s.returnWatches a) :=
  foldl_sameWork
    (fun s desk => setDesk_sameWork s desk (x := s.desks[desk].watchesReturned a) fun h => by rw [h, watchesReturned_clear]) allDesks s

theorem returnWatches_onWork (s : State) (a : DriveNo) : s.OnWork (s.returnWatches a) :=
  foldl_onWork (fun s desk => setDesk_onWork s desk _) allDesks s

theorem discardImage_of_reset (hr : ∀ e : Desk, s.desks[e] = .clear) :
    s.SameWork (s.discardImage a) ∧ s.OnWork (s.discardImage a) := by
  cases hi : s.images[a] with
  | none => rw [discardImage_of_no_image hi]; exact ⟨.refl s, rfl⟩
  | some img =>
    obtain ⟨hwork, hframe⟩ := discardSlots_of_reset (a := a) img.concerned hr
    rw [discardImage_of_image hi]
    exact ⟨(hwork.trans (returnWatches_sameWork _ a)).trans (setImage_sameWork ..),
      (hframe.trans (returnWatches_onWork _ a)).trans (setImage_onWork ..)⟩

theorem abandonFormat_sameWork (s : State) (a : DriveNo) : s.SameWork (s.abandonFormat a) := by
  rw [abandonFormat_frame]
  exact ⟨rfl, rfl, rfl, rfl, fun _ => id⟩

/-- The loss of a handle of a reset desk tells nobody: its work is withdrawn and it is FREE. -/
theorem loseHandle_of_reset (hr : s.AllReset) {e : Desk} {n : HandleNo} (ho : (s.handle e n).openOn a = true) :
    ∃ w, s.handle e n = .writing w ∧ w.orphan = true ∧ w.drive = a ∧
      s.loseHandle e n .driveLost .withImage = (s.giveUpWrites a w.table).setHandle e n .free := by
  rcases hr.handles e n with hh | ⟨w, hh, horphan⟩
  · rw [hh] at ho
    cases ho
  · rw [hh] at ho
    have hdrive : w.drive = a := beq_iff_eq.1 ho
    subst hdrive
    exact ⟨w, hh, horphan, rfl, loseHandle_of_orphan_withImage .driveLost hh horphan⟩

theorem withdraw_images (s : State) (a : DriveNo) (q : PageNo) : (s.withdraw a q).images = s.images := by
  unfold State.withdraw
  dsimp only
  split
  · rfl
  · split
    · rfl
    · split <;> rfl

theorem giveUpWrites_images (s : State) (a : DriveNo) (table : List WriteEntry) : (s.giveUpWrites a table).images = s.images := by
  refine foldl_keeps (g := State.images) (fun s x => ?_) table s
  cases x with
  | unstarted | filling | written => rfl
  | writing q => exact withdraw_images s a q

/-- A handle on the drive lost. -/
def State.loseOn (a : DriveNo) (s : State) (x : Desk × HandleNo) : State :=
  if (s.handle x.1 x.2).openOn a then s.loseHandle x.1 x.2 .driveLost .withImage else s

theorem loseOn_handle (hr : s.AllReset) (e : Desk) (n : HandleNo) :
    (s.loseOn a (e, n)).handle = (s.setHandle e n ((s.handle e n).lostOn a)).handle := by
  unfold State.loseOn
  dsimp only
  split
  next ho =>
    obtain ⟨w, hh, horphan, hdrive, hlose⟩ := loseHandle_of_reset hr ho
    have hlost : (s.handle e n).lostOn a = .free := by rw [hh, Handle.lostOn, if_pos hdrive, if_pos horphan]
    rw [hlose, hlost]
    exact ((giveUpWrites_onWork s a w.table).setHandle e n .free).handle
  next ho => rw [lostOn_of_not_openOn (Bool.eq_false_iff.2 ho), setHandle_self]

/-- The handle lost is FREE, or not on the drive. -/
theorem lostOn_of_reset (hr : s.AllReset) (e : Desk) (n : HandleNo) :
    (s.handle e n).lostOn a = .free ∨ (s.handle e n).lostOn a = s.handle e n := by
  rcases hr.handles e n with hh | ⟨w, hh, horphan⟩
  · rw [hh]
    exact .inl rfl
  · rw [hh, Handle.lostOn, horphan]
    by_cases hd : w.drive = a
    · exact .inl (by rw [if_pos hd]; rfl)
    · exact .inr (if_neg hd)

/-- What the acts around a drive are: withdrawals and the loss of its handles and its image, every drive record as it was. -/
structure Around (a : DriveNo) (s t : State) : Prop where
  recedes : ∀ d p, Recedes d p s t
  outlives : s.Outlives t
  drives : t.drives = s.drives
  images : ∀ b : DriveNo, b ≠ a → t.images[b] = s.images[b]

theorem Around.refl (a : DriveNo) (s : State) : Around a s s := ⟨fun d p => .refl d p s, .refl s, rfl, fun _ _ => rfl⟩

theorem Around.trans {s t u : State} (h : Around a s t) (k : Around a t u) : Around a s u where
  recedes d p := (h.recedes d p).trans (k.recedes d p)
  outlives := h.outlives.trans k.outlives
  drives := k.drives.trans h.drives
  images b hne := (k.images b hne).trans (h.images b hne)

theorem loseOn_around (hr : s.AllReset) (e : Desk) (n : HandleNo) : Around a s (s.loseOn a (e, n)) := by
  unfold State.loseOn
  dsimp only
  split
  next ho =>
    obtain ⟨w, hh, _, _, hlose⟩ := loseHandle_of_reset hr ho
    have hgive := giveUpWrites_onWork s (d := a) w.table
    rw [hlose]
    exact {
      recedes := fun d p => recedes_free (recedes_giveUpWrites (.refl d p s) a fun hs hn => hs.handles e n (by rwa [hh])) e n
      outlives := hgive.outlives.trans rfl
      drives := hgive.drives
      images := fun b _ => congrArg (fun v => v[b]) (giveUpWrites_images s a w.table) }
  next => exact .refl a s

/-- Acts around a drive that make handles FREE or leave them keep the desks reset. -/
theorem Around.allReset {t : State} (h : Around a s t) (hr : s.AllReset)
    (hhandles : ∀ e n, t.handle e n = .free ∨ t.handle e n = s.handle e n) : t.AllReset where
  desks e := (h.recedes 0 0).desks e (hr.desks e)
  handles e n := by
    rcases hhandles e n with heq | heq
    · exact .inl heq
    · rw [heq]; exact hr.handles e n

theorem loseOn_handle_self (hr : s.AllReset) (x : Desk × HandleNo) :
    (s.loseOn a x).handle x.1 x.2 = (s.handle x.1 x.2).lostOn a := by
  rw [loseOn_handle hr, State.setHandle_handle_self]

theorem loseOn_handle_of_ne (hr : s.AllReset) {x y : Desk × HandleNo} (hne : x ≠ y) :
    (s.loseOn a x).handle y.1 y.2 = s.handle y.1 y.2 := by
  rw [loseOn_handle hr, State.setHandle_handle_of_ne _ _ _ _ _ _ fun h => hne (Prod.ext h.1 h.2)]

theorem loseOn_allReset (hr : s.AllReset) (x : Desk × HandleNo) : (s.loseOn a x).AllReset := by
  refine (loseOn_around hr x.1 x.2).allReset hr fun e n => ?_
  by_cases hx : x = (e, n)
  · subst hx
    rw [loseOn_handle_self hr (e, n)]
    exact lostOn_of_reset hr e n
  · exact .inr (loseOn_handle_of_ne hr hx)

theorem loseHandlesOn_handle_of_reset (hr : s.AllReset) (e : Desk) (n : HandleNo) :
    (s.loseHandlesOn a).handle e n = (s.handle e n).lostOn a := by
  have hview := foldl_view (view := fun s (x : Desk × HandleNo) => s.handle x.1 x.2) (f := State.loseOn a)
    (g := fun _ x => x.lostOn a) (I := State.AllReset) (fun _ x h => loseOn_allReset h x) (fun _ x h => loseOn_handle_self h x)
    (fun _ _ _ h hne => loseOn_handle_of_ne h hne) (show allHandles.Nodup by decide) hr (e, n)
  rw [if_pos (mem_allHandles _)] at hview
  exact hview

theorem loseHandlesOn_around (hr : s.AllReset) : Around a s (s.loseHandlesOn a) := by
  have key (l : List (Desk × HandleNo)) : ∀ s : State, s.AllReset → Around a s (l.foldl (State.loseOn a) s) := by
    induction l with
    | nil => exact fun s _ => .refl a s
    | cons x l ih => exact fun s hr => (loseOn_around hr x.1 x.2).trans (ih _ (loseOn_allReset hr x))
  exact key allHandles s hr

theorem Around.of_work {t : State} (hwork : s.SameWork t) (hout : s.Outlives t) (hdrives : t.drives = s.drives)
    (himages : ∀ b : DriveNo, b ≠ a → t.images[b] = s.images[b]) : Around a s t :=
  ⟨fun d p => (Recedes.refl d p s).sameWork hwork, hout, hdrives, himages⟩

theorem discardImage_around (hr : s.AllReset) : Around a s (s.discardImage a) := by
  obtain ⟨hwork, hframe⟩ := discardImage_of_reset (a := a) hr.desks
  exact .of_work hwork hframe.outlives hframe.drives (beside_discardImage (.refl a True s)).images

theorem abandonFormat_around (s : State) (a : DriveNo) : Around a s (s.abandonFormat a) := by
  refine .of_work (abandonFormat_sameWork s a) ?_ ?_ fun b _ => ?_
  · unfold State.Outlives
    rw [abandonFormat_frame]
  · rw [abandonFormat_frame]
  · rw [abandonFormat_frame]

theorem abandonFormat_handle (s : State) (a : DriveNo) : (s.abandonFormat a).handle = s.handle := by
  rw [abandonFormat_frame]
  rfl

theorem abandonFormat_images (s : State) (a : DriveNo) : (s.abandonFormat a).images = s.images := by
  rw [abandonFormat_frame]

/-- A teardown around a drive whose page waits are gone. -/
def State.takenAround (s : State) (a : DriveNo) : State := ((s.loseHandlesOn a).discardImage a).abandonFormat a

theorem takenAround_around (hr : s.AllReset) : Around a s (s.takenAround a) := by
  have hlost := loseHandlesOn_around (a := a) hr
  have hreset := hlost.allReset hr fun e n => by
    rw [loseHandlesOn_handle_of_reset hr]
    exact lostOn_of_reset hr e n
  exact (hlost.trans (discardImage_around hreset)).trans (abandonFormat_around _ a)

theorem takenAround_handle (hr : s.AllReset) (e : Desk) (n : HandleNo) : (s.takenAround a).handle e n = (s.handle e n).lostOn a := by
  unfold State.takenAround
  rw [abandonFormat_handle]
  exact ((beside_discardImage (.refl a True _)).handle e n).trans (loseHandlesOn_handle_of_reset hr e n)

theorem takenAround_images_self (s : State) (a : DriveNo) : (s.takenAround a).images[a] = none := by
  unfold State.takenAround
  rw [abandonFormat_images]
  exact discardImage_images_self ..

theorem takenAround_allReset (hr : s.AllReset) : (s.takenAround a).AllReset := by
  refine (takenAround_around hr).allReset hr fun e n => ?_
  rw [takenAround_handle hr]
  exact lostOn_of_reset hr e n

end Around

end Sys2Proof.Machine
end

section
namespace Sys2Proof.Machine

/-! #### What becomes of one drive's place at the channel and its work (R57, R64) -/

/-- From c to c' other drives than `a` have left the channel or been let finish, and work has been withdrawn. -/
structure Channel.Aside (a : DriveNo) (c c' : Channel) : Prop where
  headSelect : c'.headSelect = c.headSelect
  waitList : ∀ x ∈ c'.waitList, x ∈ c.waitList
  grant : c'.grant = some a ↔ c.grant = some a
  quiet : c.writeGate = false → c.writeData = .none → c'.writeGate = false ∧ c'.writeData = .none
  of_pass : ∀ q, c'.pass = some q → q.drive = a → ∃ p, c.pass = some p ∧ p.drive = a
  pass : ∀ p, c.pass = some p → p.drive = a →
    c'.writeGate = c.writeGate ∧ c'.writeData = c.writeData ∧ ∃ w, c'.pass = some { p with withdrawn := w }

section Aside
variable {a b : DriveNo} {c c' c'' : Channel}

theorem Channel.Aside.refl (a : DriveNo) (c : Channel) : c.Aside a c :=
  ⟨rfl, fun _ => id, .rfl, .intro, fun q hq hd => ⟨q, hq, hd⟩, fun p hp _ => ⟨rfl, rfl, p.withdrawn, hp⟩⟩

theorem Channel.Aside.trans (h : c.Aside a c') (k : c'.Aside a c'') : c.Aside a c'' where
  headSelect := k.headSelect.trans h.headSelect
  waitList x hx := h.waitList x (k.waitList x hx)
  grant := k.grant.trans h.grant
  quiet hgate hdata := by
    obtain ⟨hgate, hdata⟩ := h.quiet hgate hdata
    exact k.quiet hgate hdata
  of_pass q hq hd := by
    obtain ⟨p, hp, hd⟩ := k.of_pass q hq hd
    exact h.of_pass p hp hd
  pass p hp hd := by
    obtain ⟨hgate, hdata, w, hpass⟩ := h.pass p hp hd
    obtain ⟨hgate', hdata', w', hpass'⟩ := k.pass _ hpass hd
    exact ⟨hgate'.trans hgate, hdata'.trans hdata, w', hpass'⟩

/-- Channels with one core have one pass, but for the mark. -/
theorem Channel.pass_of_core (hcore : c'.core = c.core) {q : Pass} (hq : c'.pass = some q) :
    ∃ w, c.pass = some { q with withdrawn := w } := by
  have hpass : c'.pass.map (fun p => { p with withdrawn := false }) = c.pass.map fun p => { p with withdrawn := false } :=
    congrArg Channel.pass hcore
  rw [hq, Option.map_some] at hpass
  obtain ⟨p, hp, heq⟩ := Option.map_eq_some_iff.1 hpass.symm
  refine ⟨p.withdrawn, hp.trans (congrArg some ?_)⟩
  calc p = { ({ p with withdrawn := false } : Pass) with withdrawn := p.withdrawn } := rfl
    _ = { q with withdrawn := p.withdrawn } := by rw [heq]

theorem Channel.aside_of_core (hcore : c'.core = c.core) (hwait : ∀ x ∈ c'.waitList, x ∈ c.waitList) : c.Aside a c' := by
  have hhead : c'.core.headSelect = c.core.headSelect := by rw [hcore]
  have hgate : c'.core.writeGate = c.core.writeGate := by rw [hcore]
  have hdata : c'.core.writeData = c.core.writeData := by rw [hcore]
  have hgrant : c'.core.grant = some a ↔ c.core.grant = some a := by rw [hcore]
  refine ⟨hhead, hwait, hgrant, fun hg hd => ⟨hgate.trans hg, hdata.trans hd⟩,
    fun q hq hd => ?_, fun p hp _ => ⟨hgate, hdata, Channel.pass_of_core hcore.symm hp⟩⟩
  obtain ⟨w, hw⟩ := Channel.pass_of_core hcore hq
  exact ⟨_, hw, hd⟩

theorem Channel.aside_without (c : Channel) (hne : b ≠ a) : c.Aside a (c.without b) where
  headSelect := rfl
  waitList x hx := (List.mem_filter.1 hx).1
  grant := by
    refine ⟨fun h => ?_, without_grant_of_ne c b (Ne.symm hne)⟩
    unfold Channel.without at h
    dsimp only at h
    split at h
    · cases h
    · exact h
  quiet hgate hdata := by
    unfold Channel.without
    dsimp only
    rw [hgate, hdata]
    exact ⟨ite_self _, ite_self _⟩
  of_pass q hq hd := by
    unfold Channel.without at hq
    dsimp only at hq
    split at hq
    · cases hq
    · exact ⟨q, hq, hd⟩
  pass p hp hd := by
    have hany : c.pass.any (fun p => p.drive == b) = false := by
      rw [hp, Option.any_some]
      exact beq_eq_false_iff_ne.2 fun h => hne (h.symm.trans hd)
    unfold Channel.without
    dsimp only
    rw [hany]
    exact ⟨rfl, rfl, p.withdrawn, hp⟩

/-- A pass let finish is no matter of another drive. -/
theorem Channel.aside_finishing {p : Pass} (hp : c.pass = some p) (hne : p.drive ≠ a) :
    c.Aside a { c with pass := some { p with finishing := true } } where
  headSelect := rfl
  waitList _ := id
  grant := .rfl
  quiet := .intro
  of_pass q hq hd := by cases hq; exact absurd hd hne
  pass q hq hd := by rw [hp] at hq; cases hq; exact absurd hd hne

end Aside

/-- What acts on other drives and on desks leave of drive `a`: its record, its place at the channel, its work but for withdrawals, and
the page of its pass. -/
structure Beyond (a : DriveNo) (s t : State) : Prop where
  outlives : s.Outlives t
  sched : (s.scheds[a]).Recedes t.scheds[a]
  drive : t.drives[a] = s.drives[a]
  channel : s.channel.Aside a t.channel
  spares : ∀ p, s.Spares a p → t.Spares a p ∧ t.pool.pages[p] = s.pool.pages[p]

section Beyond
variable {a b : DriveNo} {s t u : State}

theorem Beyond.refl (a : DriveNo) (s : State) : Beyond a s s := ⟨.refl s, .refl _, rfl, .refl a _, fun _ h => ⟨h, rfl⟩⟩

theorem Beyond.trans (h : Beyond a s t) (k : Beyond a t u) : Beyond a s u where
  outlives := h.outlives.trans k.outlives
  sched := h.sched.trans k.sched
  drive := k.drive.trans h.drive
  channel := h.channel.trans k.channel
  spares p hs := by
    obtain ⟨ht, htp⟩ := h.spares p hs
    obtain ⟨hu, hup⟩ := k.spares p ht
    exact ⟨hu, hup.trans htp⟩

theorem Beyond.of_recedes (hout : s.Outlives t) (hrec : ∀ p, Recedes a p s t) (hdrive : t.drives[a] = s.drives[a]) : Beyond a s t where
  outlives := hout
  sched := (hrec 0).scheds a
  drive := hdrive
  channel := Channel.aside_of_core (hrec 0).core (hrec 0).waitList
  spares p hs := ⟨(hrec p).spares hs, (hrec p).page hs⟩

theorem beyond_desksReset (a : DriveNo) (s : State) : Beyond a s s.desksReset :=
  .of_recedes (desksReset_outlives s) (fun p => recedes_desksReset a p s) (by rw [desksReset_drives])

theorem Around.beyond (h : Around b s t) (a : DriveNo) : Beyond a s t :=
  .of_recedes h.outlives (h.recedes a) (by rw [h.drives])

/-- The pass of a drive, if there still is one, serves the request it served. -/
theorem Beyond.passOf (h : Beyond a s t) {q : Pass} {r : SectorRequest} (hq : t.passOf = some (q, r)) (hd : q.drive = a) :
    ∃ p, s.passOf = some (p, r) ∧ p.drive = a := by
  unfold State.passOf at hq
  split at hq
  next => cases hq
  next q' hpass =>
    split at hq
    next => cases hq
    next i hi =>
      cases hq
      subst hd
      obtain ⟨p, hp, hd⟩ := h.channel.of_pass q hpass rfl
      have hhand := h.sched.of_some hi
      rw [← hd] at hhand
      exact ⟨p, by simp only [State.passOf, hp, hhand], hd⟩

end Beyond

/-! #### A drive torn down by RESTART (R43, R193) -/

/-- Requests and handles only gone spare the page still. -/
theorem State.Spares.of_le {d : DriveNo} {p : PageNo} {s t : State} (hs : s.Spares d p)
    (hwork : ∀ e : DriveNo, ∀ r ∈ t.scheds[e].workList, r ∈ s.scheds[e].workList)
    (hhand : ∀ (e : DriveNo) i, t.scheds[e].inHand = some i → s.scheds[e].inHand = some i) (hhandles : t.handle = s.handle) :
    t.Spares d p where
  work e r hr := hs.work e r (hwork e r hr)
  hand e i hi := hs.hand e i (hhand e i hi)
  handles e n := by rw [hhandles]; exact hs.handles e n

/-- A drive RESTART has stopped, its record become `x`: no work, no place at the channel; the other drives keep theirs. -/
structure Idled (a : DriveNo) (x : DriveUnit) (s t : State) : Prop where
  outlives : s.Outlives t
  scheds : t.scheds = s.scheds.set a .idle
  channel : t.channel = s.channel.without a
  drives : t.drives = s.drives.set a x
  images : ∀ b : DriveNo, b ≠ a → t.images[b] = s.images[b]
  handles : ∀ e n, t.handle e n = .free ∨ t.handle e n = s.handle e n
  spares : ∀ b p, b ≠ a → s.Spares b p → t.Spares b p ∧ t.pool.pages[p] = s.pool.pages[p]

section Idled
variable {a b : DriveNo} {x : DriveUnit} {s t : State}

theorem scheds_set_idle_workList (v : Vector Scheduler 4) (a e : DriveNo) :
    ∀ r ∈ (v.set a .idle)[e].workList, r ∈ v[e].workList :=
  forall_set v a .idle (fun e (y : Scheduler) => ∀ r ∈ y.workList, r ∈ v[e].workList) (fun _ h => nomatch h) (fun _ _ => id) e

theorem scheds_set_idle_inHand (v : Vector Scheduler 4) (a e : DriveNo) :
    ∀ i, (v.set a .idle)[e].inHand = some i → v[e].inHand = some i :=
  forall_set v a .idle (fun e (y : Scheduler) => ∀ i, y.inHand = some i → v[e].inHand = some i) (fun _ h => nomatch h)
    (fun _ _ => id) e

theorem Idled.beyond (h : Idled a x s t) (hne : b ≠ a) : Beyond b s t where
  outlives := h.outlives
  sched := by
    rw [h.scheds]
    have hsame := setSched_scheds_of_ne s .idle hne
    exact hsame.symm ▸ Scheduler.Recedes.refl _
  drive := by
    rw [h.drives]
    exact setDrive_drives_of_ne s x hne
  channel := by
    rw [h.channel]
    exact Channel.aside_without _ (Ne.symm hne)
  spares p hs := h.spares b p hne hs

end Idled

end Sys2Proof.Machine
end

section
namespace Sys2Proof.Machine

section Torn
variable {a b : DriveNo} {p : PageNo} {s : State}

theorem foldl_freePage_pages (ps : List PageNo) (hp : p ∉ ps) (s : State) :
    (ps.foldl (fun s q => State.freePage s q) s).pool.pages[p] = s.pool.pages[p] := by
  induction ps generalizing s with
  | nil => rfl
  | cons q ps ih =>
    rw [List.foldl_cons, ih (fun h => hp (List.mem_cons_of_mem _ h))]
    exact freePage_pages_of_ne s fun h => hp (h ▸ List.mem_cons_self)

theorem clearWorkList_pages (hp : ∀ r ∈ s.scheds[a].workList, r.page ≠ p) : (s.clearWorkList a).pool.pages[p] = s.pool.pages[p] := by
  refine foldl_freePage_pages _ (fun h => ?_) _
  obtain ⟨r, hr, hpage⟩ := List.mem_map.1 h
  exact hp r hr hpage

theorem clearWorkList_inHand (s : State) (a : DriveNo) : (s.clearWorkList a).scheds[a].inHand = s.scheds[a].inHand := by
  obtain ⟨pages, h⟩ := clearWorkList_eq s a
  rw [h, State.setPool_scheds, setSched_scheds_self]

theorem clearHand_pages (hp : ∀ i, s.scheds[a].inHand = some i → i.request.page ≠ p) :
    (s.clearHand a).pool.pages[p] = s.pool.pages[p] := by
  unfold State.clearHand
  split
  next => rfl
  next i hi => exact freePage_pages_of_ne _ (hp i hi)

/-- Only the pages of the drive's own work are freed. -/
theorem stoppedOn_pages (hwork : ∀ r ∈ s.scheds[a].workList, r.page ≠ p)
    (hhand : ∀ i, s.scheds[a].inHand = some i → i.request.page ≠ p) : (s.stoppedOn a).pool.pages[p] = s.pool.pages[p] := by
  have hcleared : ((s.abortPass a).clearWorkList a).pool.pages[p] = s.pool.pages[p] := by
    rw [abortPass_eq]
    exact clearWorkList_pages (s := s.setChannel _) hwork
  refine Eq.trans (clearHand_pages fun i hi => hhand i ?_) hcleared
  rw [clearWorkList_inHand, abortPass_eq] at hi
  exact hi

theorem stoppedOn_spares (hne : b ≠ a) (hs : s.Spares b p) :
    (s.stoppedOn a).Spares b p ∧ (s.stoppedOn a).pool.pages[p] = s.pool.pages[p] := by
  have hpages := stoppedOn_pages (hs.work a) fun i hi hpage => hne (hs.hand a i hi hpage).1.symm
  obtain ⟨pages, hstop⟩ := stoppedOn_eq s a
  refine ⟨hs.of_le ?_ ?_ ?_, hpages⟩ <;> rw [hstop]
  · exact fun e => scheds_set_idle_workList s.scheds a e
  · exact fun e => scheds_set_idle_inHand s.scheds a e
  · rfl

theorem stoppedOn_allReset (hr : s.AllReset) : (s.stoppedOn a).AllReset := by
  obtain ⟨hhandle, hdesks, _⟩ := stoppedOn_rest s a
  exact ⟨by rw [hdesks]; exact hr.desks, by rw [hhandle]; exact hr.handles⟩

theorem tearDown_eq_takenAround (s : State) (a : DriveNo) (st : DriveState) (cause : Option FaultCause) :
    s.tearDown a st cause =
      ((s.stoppedOn a).takenAround a).setDrive a (((s.stoppedOn a).takenAround a).drives[a].enters st cause) := rfl

theorem setDrive_allReset (hr : s.AllReset) (u : DriveUnit) : (s.setDrive a u).AllReset := ⟨hr.desks, hr.handles⟩

theorem setDrive_outlives (s : State) (a : DriveNo) (u : DriveUnit) : s.Outlives (s.setDrive a u) := rfl

theorem setDrive_spares (hs : s.Spares b p) (a : DriveNo) (u : DriveUnit) : (s.setDrive a u).Spares b p :=
  ⟨hs.work, hs.hand, hs.handles⟩

/-- A drive RESTART tears down. -/
def State.restartTorn (s : State) (a : DriveNo) : State :=
  let s := s.tearDown a .empty none
  s.setDrive a (s.drives[a].restarted s.settings[a].autoMount)

theorem restartTorn_allReset (hr : s.AllReset) : (s.restartTorn a).AllReset :=
  setDrive_allReset (setDrive_allReset (takenAround_allReset (stoppedOn_allReset hr)) _) _

theorem tornDown_restarted (u : DriveUnit) (st : DriveState) (cause : Option FaultCause) (auto : Bool) :
    (u.tornDown st cause).restarted auto = u.restarted auto := rfl

theorem restartTorn_eq (s : State) (a : DriveNo) :
    s.restartTorn a = (s.tearDown a .empty none).setDrive a (s.drives[a].restarted s.settings[a].autoMount) := by
  have hframe := tearDown_frame s a .empty none
  have hdrive : (s.tearDown a .empty none).drives[a] = s.drives[a].tornDown .empty none := by
    rw [hframe]
    exact setDrive_drives_self s a _
  have hsettings : (s.tearDown a .empty none).settings = s.settings := by rw [hframe]
  unfold State.restartTorn
  dsimp only
  rw [hdrive, hsettings, tornDown_restarted]

theorem restartTorn_idled (hr : s.AllReset) : Idled a (s.drives[a].restarted s.settings[a].autoMount) s (s.restartTorn a) := by
  have hframe := tearDown_frame s a .empty none
  have haround := takenAround_around (a := a) (stoppedOn_allReset (a := a) hr)
  rw [restartTorn_eq]
  refine ⟨?_, ?_, ?_, ?_, fun b hne => ?_, fun e n => ?_, fun b p hne hs => ?_⟩
  · have hstop : s.Outlives (s.stoppedOn a) := by
      obtain ⟨pages, hstop⟩ := stoppedOn_eq s a
      rw [hstop]
      rfl
    exact ((hstop.trans haround.outlives).trans (setDrive_outlives _ a _)).trans (setDrive_outlives _ a _)
  · rw [State.setDrive_scheds, hframe]
  · rw [State.setDrive_channel, hframe]
  · have hdrives : (s.tearDown a .empty none).drives = s.drives.set a (s.drives[a].tornDown .empty none) := by rw [hframe]
    simp only [State.setDrive, hdrives, Vector.set_set]
  · rw [State.setDrive_images, tearDown_images_of_ne s a .empty none hne]
  · rw [State.setDrive_handle, tearDown_handle]
    exact lostOn_of_reset hr e n
  · obtain ⟨hspares, hpages⟩ := stoppedOn_spares hne hs
    have hrec := haround.recedes b p
    rw [tearDown_eq_takenAround, State.setDrive_pool, State.setDrive_pool]
    exact ⟨setDrive_spares (setDrive_spares (hrec.spares hspares) a _) a _, (hrec.page hspares).trans hpages⟩

theorem restartTorn_images (s : State) (a : DriveNo) : (s.restartTorn a).images[a] = none := by
  rw [restartTorn_eq, State.setDrive_images, tearDown_images_self]

theorem restartTorn_handle (s : State) (a : DriveNo) (e : Desk) (n : HandleNo) :
    (s.restartTorn a).handle e n = (s.handle e n).lostOn a := by
  rw [restartTorn_eq, State.setDrive_handle, tearDown_handle]

/-! #### A DISABLED drive at RESTART (R20, R193) -/

/-- What RESTART does to a DISABLED drive. -/
def State.restartDisabled (s : State) (a : DriveNo) : State :=
  ((s.abortPass a).setSched a .idle).setDrive a (s.drives[a].restartedIn .disabled)

theorem restartDisabled_allReset (hr : s.AllReset) : (s.restartDisabled a).AllReset := by
  unfold State.restartDisabled
  rw [abortPass_eq]
  exact ⟨hr.desks, hr.handles⟩

theorem restartDisabled_idled (s : State) (a : DriveNo) : Idled a (s.drives[a].restartedIn .disabled) s (s.restartDisabled a) := by
  unfold State.restartDisabled
  rw [abortPass_eq]
  exact {
    outlives := rfl
    scheds := rfl
    channel := rfl
    drives := rfl
    images := fun _ _ => rfl
    handles := fun _ _ => .inr rfl
    spares := fun b p _ hs =>
      ⟨hs.of_le (fun e => scheds_set_idle_workList s.scheds a e) (fun e => scheds_set_idle_inHand s.scheds a e) rfl, rfl⟩ }

end Torn

/-! #### A drive whose WRITE-VERIFY pass goes on (R75, log 15) -/

/-- The record of a drive whose pass goes on. -/
def DriveUnit.runningOn (u : DriveUnit) : DriveUnit :=
  { u with pendingRecal := false, isProtected := false, damaged := false, mount := .clear }

/-- A page now held by the finishing pass. -/
def HeldPage.finishing (x : HeldPage) : HeldPage := { x with holder := .finishingPass, awaited := false }

/-- The pass marked, the drive's other work gone, its page held by the pass; what lies around the drive is still there. -/
def State.passKept (s : State) (a : DriveNo) (p : Pass) (r : SectorRequest) : State :=
  let s := ((s.setPass { p with finishing := true }).leaveWaitList a).clearWorkList a
  let s := s.setPage r.page ((s.pool.pages[r.page]).map HeldPage.finishing)
  (s.setDrive a s.drives[a].runningOn).leaveSystem (SystemWaiter.ofDrive a)

theorem restartFinishing_eq (s : State) (a : DriveNo) (p : Pass) (r : SectorRequest) :
    s.restartFinishing a p r = (s.passKept a p r).takenAround a := rfl

section Finishing
variable {a b : DriveNo} {p : Pass} {r : SectorRequest} {q : PageNo} {s : State}

/-- The channel with the pass marked and without the drive's wait. -/
def Channel.passKept (c : Channel) (a : DriveNo) (p : Pass) : Channel :=
  { c with pass := some { p with finishing := true }, waitList := c.waitList.filter fun x => x.1 != a }

theorem passKept_eq (s : State) (a : DriveNo) (p : Pass) (r : SectorRequest) :
    ∃ pages sysWaiters, s.passKept a p r =
      (((s.setChannel (s.channel.passKept a p)).setSched a { s.scheds[a] with workList := [] }).setDrive a s.drives[a].runningOn).setPool
        { s.pool with pages := pages, sysWaiters := sysWaiters } := by
  obtain ⟨pages, hwork⟩ := clearWorkList_eq ((s.setPass { p with finishing := true }).leaveWaitList a) a
  refine ⟨pages.set r.page ((pages[r.page]).map HeldPage.finishing), s.pool.sysWaiters.filter fun w => !SystemWaiter.ofDrive a w, ?_⟩
  unfold State.passKept
  rw [hwork]
  rfl

theorem passKept_page_of_ne (hwork : ∀ x ∈ s.scheds[a].workList, x.page ≠ q) (hne : r.page ≠ q) :
    (s.passKept a p r).pool.pages[q] = s.pool.pages[q] := by
  have hset (t : State) (x : Option HeldPage) : (t.setPage r.page x).pool.pages[q] = t.pool.pages[q] := by
    simpa [State.setPage] using Vector.getElem_set_ne _ _ fun h => hne (Fin.ext h)
  exact (hset _ _).trans (clearWorkList_pages (s := (s.setPass { p with finishing := true }).leaveWaitList a) hwork)

theorem passKept_page_self (hwork : ∀ x ∈ s.scheds[a].workList, x.page ≠ r.page) :
    (s.passKept a p r).pool.pages[r.page] = (s.pool.pages[r.page]).map HeldPage.finishing := by
  have hset (t : State) (x : Option HeldPage) : (t.setPage r.page x).pool.pages[r.page] = x := by
    simp [State.setPage]
  refine (hset _ _).trans (congrArg (Option.map HeldPage.finishing) ?_)
  exact clearWorkList_pages (s := (s.setPass { p with finishing := true }).leaveWaitList a) hwork

theorem passKept_spares (hs : s.Spares b q) : (s.passKept a p r).Spares b q := by
  obtain ⟨pages, sysWaiters, h⟩ := passKept_eq s a p r
  refine hs.of_le ?_ ?_ ?_ <;> rw [h]
  · exact forall_set s.scheds a _ (fun e (y : Scheduler) => ∀ r ∈ y.workList, r ∈ s.scheds[e].workList) (fun _ h => nomatch h)
      fun _ _ => id
  · exact forall_set s.scheds a _ (fun e (y : Scheduler) => ∀ i, y.inHand = some i → s.scheds[e].inHand = some i) (fun _ => id)
      fun _ _ => id
  · rfl

theorem passKept_allReset (hr : s.AllReset) : (s.passKept a p r).AllReset := by
  obtain ⟨pages, sysWaiters, h⟩ := passKept_eq s a p r
  rw [h]
  exact ⟨hr.desks, hr.handles⟩

theorem passOf_iff : s.passOf = some (p, r) ↔ ∃ phase, s.channel.pass = some p ∧ s.scheds[p.drive].inHand = some ⟨r, phase⟩ := by
  unfold State.passOf
  constructor
  · intro h
    split at h
    next => cases h
    next hp =>
      split at h
      next => cases h
      next i hi =>
        cases h
        exact ⟨i.phase, hp, hi⟩
  · rintro ⟨phase, hp, hi⟩
    simp only [hp, hi]

/-- The pass let finish is no matter of another drive. -/
theorem passKept_beyond (hpass : s.passOf = some (p, r)) (hd : p.drive = a) (hne : b ≠ a) : Beyond b s (s.passKept a p r) := by
  obtain ⟨phase, hchannel, hhand⟩ := passOf_iff.1 hpass
  subst hd
  have hspares (q : PageNo) (hs : s.Spares b q) : (s.passKept p.drive p r).pool.pages[q] = s.pool.pages[q] :=
    passKept_page_of_ne (hs.work p.drive) fun hpage => hne (hs.hand p.drive _ hhand hpage).1.symm
  obtain ⟨pages, sysWaiters, h⟩ := passKept_eq s p.drive p r
  refine ⟨?_, ?_, ?_, ?_, fun q hs => ⟨passKept_spares hs, hspares q hs⟩⟩ <;> rw [h]
  · rfl
  · have hsame := setSched_scheds_of_ne s { s.scheds[p.drive] with workList := [] } hne
    exact hsame.symm ▸ Scheduler.Recedes.refl _
  · exact setDrive_drives_of_ne s _ hne
  · refine (Channel.aside_finishing hchannel (Ne.symm hne)).trans ?_
    exact Channel.aside_of_core rfl fun x hx => (List.mem_filter.1 hx).1

/-- What a drive whose pass goes on has after RESTART: its mechanism, its request and its grant, the pass marked, the page held by
the pass. -/
structure RunsOn (a : DriveNo) (p : Pass) (r : SectorRequest) (s t : State) : Prop where
  sched : ({ s.scheds[a] with workList := [] } : Scheduler).Recedes t.scheds[a]
  core : t.channel.core = { s.channel with pass := some { p with finishing := true } : Channel }.core
  waitList : ∀ x ∈ t.channel.waitList, x ∈ s.channel.waitList ∧ x.1 ≠ a
  drive : t.drives[a] = s.drives[a].runningOn
  page : s.Spares a r.page → t.Spares a r.page ∧ t.pool.pages[r.page] = (s.pool.pages[r.page]).map HeldPage.finishing

theorem restartFinishing_runsOn (hr : s.AllReset) : RunsOn a p r s (s.restartFinishing a p r) := by
  have haround := takenAround_around (a := a) (passKept_allReset (a := a) (p := p) (r := r) hr)
  have hrec := haround.recedes a r.page
  obtain ⟨pages, sysWaiters, h⟩ := passKept_eq s a p r
  have hsched : (s.passKept a p r).scheds[a] = { s.scheds[a] with workList := [] } := by
    rw [h]
    exact setSched_scheds_self s a _
  have hchannel : (s.passKept a p r).channel = s.channel.passKept a p := by
    rw [h]
    rfl
  have hdrive : (s.passKept a p r).drives[a] = s.drives[a].runningOn := by
    rw [h]
    exact setDrive_drives_self s a _
  rw [restartFinishing_eq]
  refine ⟨hsched ▸ hrec.scheds a, ?_, fun x hx => ?_, ?_, fun hs => ?_⟩
  · rw [hrec.core, hchannel]
    rfl
  · have hx := hrec.waitList x hx
    rw [hchannel] at hx
    obtain ⟨hmem, hne⟩ := List.mem_filter.1 hx
    exact ⟨hmem, by simpa using hne⟩
  · rw [haround.drives, hdrive]
  · have hkept := passKept_spares (a := a) (p := p) (r := r) hs
    exact ⟨hrec.spares hkept, (hrec.page hkept).trans (passKept_page_self (hs.work a))⟩

end Finishing

end Sys2Proof.Machine
end

section
namespace Sys2Proof.Machine

/-! #### One drive after the other (R193) -/

section RestartDrive
variable {a b : DriveNo} {p : Pass} {r : SectorRequest} {s t : State}

theorem restartDrive_of_disabled (hd : s.drives[a].state = .disabled) : s.restartDrive a = s.restartDisabled a := by
  rw [State.restartDrive, if_pos hd]
  rfl

/-- The drive has no WRITE-VERIFY pass that goes on. -/
def State.NothingToFinish (s : State) (a : DriveNo) : Prop :=
  ∀ p r, s.passOf = some (p, r) → p.drive = a → r.operation ≠ .writeVerify

theorem restartDrive_of_nothing_to_finish (hd : s.drives[a].state ≠ .disabled) (hn : s.NothingToFinish a) :
    s.restartDrive a = s.restartTorn a := by
  have hnone : s.finishingOn a = none := by
    unfold State.finishingOn
    split
    next p r hp => exact if_neg fun h => hn p r hp h.1 h.2
    next => rfl
  rw [State.restartDrive, if_neg hd, hnone]
  rfl

theorem restartDrive_of_pass (hd : s.drives[a].state ≠ .disabled) (hp : s.passOf = some (p, r)) (hpa : p.drive = a)
    (hop : r.operation = .writeVerify) : s.restartDrive a = s.restartFinishing a p r := by
  have hsome : s.finishingOn a = some (p, r) := by
    simp only [State.finishingOn, hp]
    exact if_pos ⟨hpa, hop⟩
  rw [State.restartDrive, if_neg hd, hsome]

/-- A drive that is not DISABLED is torn down, or its WRITE-VERIFY pass goes on. -/
theorem restartDrive_cases (hd : s.drives[a].state ≠ .disabled) :
    s.restartDrive a = s.restartTorn a ∨
      ∃ p r, s.passOf = some (p, r) ∧ p.drive = a ∧ s.restartDrive a = s.restartFinishing a p r := by
  by_cases hn : s.NothingToFinish a
  · exact .inl (restartDrive_of_nothing_to_finish hd hn)
  · simp only [State.NothingToFinish, not_forall, not_not] at hn
    obtain ⟨p, r, hp, hpa, hop⟩ := hn
    exact .inr ⟨p, r, hp, hpa, restartDrive_of_pass hd hp hpa hop⟩

theorem restartFinishing_allReset (hr : s.AllReset) : (s.restartFinishing a p r).AllReset :=
  takenAround_allReset (passKept_allReset hr)

theorem restartFinishing_images (s : State) (a : DriveNo) (p : Pass) (r : SectorRequest) :
    (s.restartFinishing a p r).images[a] = none := takenAround_images_self ..

theorem restartFinishing_handle (hr : s.AllReset) (e : Desk) (n : HandleNo) :
    (s.restartFinishing a p r).handle e n = (s.handle e n).lostOn a := by
  obtain ⟨pages, sysWaiters, h⟩ := passKept_eq s a p r
  have hsame : (s.passKept a p r).handle = s.handle := by
    rw [h]
    rfl
  rw [restartFinishing_eq, takenAround_handle (passKept_allReset hr), hsame]

theorem restartDrive_allReset (hr : s.AllReset) (a : DriveNo) : (s.restartDrive a).AllReset := by
  by_cases hd : s.drives[a].state = .disabled
  · rw [restartDrive_of_disabled hd]
    exact restartDisabled_allReset hr
  · rcases restartDrive_cases hd with heq | ⟨p, r, _, _, heq⟩ <;> rw [heq]
    · exact restartTorn_allReset hr
    · exact restartFinishing_allReset hr

/-- A drive that is not DISABLED loses its image and its handles. -/
theorem restartDrive_empties (hr : s.AllReset) (hd : s.drives[a].state ≠ .disabled) :
    (s.restartDrive a).images[a] = none ∧ ∀ e n, (s.restartDrive a).handle e n = (s.handle e n).lostOn a := by
  rcases restartDrive_cases hd with heq | ⟨p, r, _, _, heq⟩ <;> rw [heq]
  · exact ⟨restartTorn_images s a, restartTorn_handle s a⟩
  · exact ⟨restartFinishing_images s a p r, restartFinishing_handle hr⟩

/-- No drive keeps a place in the wait list. -/
theorem restartDrive_waitList (hr : s.AllReset) : ∀ x ∈ (s.restartDrive a).channel.waitList, x.1 ≠ a := by
  have hidled {u : DriveUnit} {t : State} (h : Idled a u s t) : ∀ x ∈ t.channel.waitList, x.1 ≠ a := by
    rw [h.channel, without_waitList]
    exact fun x hx => by simpa using (List.mem_filter.1 hx).2
  by_cases hd : s.drives[a].state = .disabled
  · rw [restartDrive_of_disabled hd]
    exact hidled (restartDisabled_idled s a)
  · rcases restartDrive_cases hd with heq | ⟨p, r, _, _, heq⟩ <;> rw [heq]
    · exact hidled (restartTorn_idled hr)
    · exact fun x hx => ((restartFinishing_runsOn hr).waitList x hx).2

/-- What the restart of other drives leaves of drive `a`: its image and the handles it still has too. -/
structure Bystander (a : DriveNo) (s t : State) : Prop where
  beyond : Beyond a s t
  images : t.images[a] = s.images[a]
  handles : ∀ e n, t.handle e n = .free ∨ t.handle e n = s.handle e n

theorem Bystander.refl (a : DriveNo) (s : State) : Bystander a s s := ⟨.refl a s, rfl, fun _ _ => .inr rfl⟩

theorem Bystander.trans {u : State} (h : Bystander a s t) (k : Bystander a t u) : Bystander a s u where
  beyond := h.beyond.trans k.beyond
  images := k.images.trans h.images
  handles e n := by
    rcases k.handles e n with heq | heq
    · exact .inl heq
    · rw [heq]
      exact h.handles e n

theorem Idled.bystander {x : DriveUnit} (h : Idled a x s t) (hne : b ≠ a) : Bystander b s t := ⟨h.beyond hne, h.images b hne, h.handles⟩

theorem restartFinishing_bystander (hr : s.AllReset) (hpass : s.passOf = some (p, r)) (hd : p.drive = a) (hne : b ≠ a) :
    Bystander b s (s.restartFinishing a p r) := by
  have haround := takenAround_around (a := a) (passKept_allReset (a := a) (p := p) (r := r) hr)
  obtain ⟨pages, sysWaiters, h⟩ := passKept_eq s a p r
  have himages : (s.passKept a p r).images = s.images := by
    rw [h]
    rfl
  refine ⟨(passKept_beyond hpass hd hne).trans (haround.beyond b), ?_, fun e n => ?_⟩
  · rw [restartFinishing_eq, haround.images b hne, himages]
  · rw [restartFinishing_handle hr]
    exact lostOn_of_reset hr e n

theorem restartDrive_bystander (hr : s.AllReset) (hne : b ≠ a) : Bystander b s (s.restartDrive a) := by
  by_cases hd : s.drives[a].state = .disabled
  · rw [restartDrive_of_disabled hd]
    exact (restartDisabled_idled s a).bystander hne
  · rcases restartDrive_cases hd with heq | ⟨p, r, hpass, hpa, heq⟩ <;> rw [heq]
    · exact (restartTorn_idled hr).bystander hne
    · exact restartFinishing_bystander hr hpass hpa hne

theorem restartDrive_outlives (hr : s.AllReset) (a : DriveNo) : s.Outlives (s.restartDrive a) :=
  (restartDrive_bystander hr (show a + 1 ≠ a by decide +revert)).beyond.outlives

theorem restartDrives_allReset (l : List DriveNo) (hr : s.AllReset) :
    (l.foldl (fun s d => State.restartDrive s d) s).AllReset ∧ s.Outlives (l.foldl (fun s d => State.restartDrive s d) s) := by
  induction l generalizing s with
  | nil => exact ⟨hr, .refl s⟩
  | cons b l ih =>
    obtain ⟨hreset, hout⟩ := ih (restartDrive_allReset hr b)
    exact ⟨hreset, (restartDrive_outlives hr b).trans hout⟩

theorem restartDrives_bystander (l : List DriveNo) (ha : a ∉ l) (hr : s.AllReset) :
    Bystander a s (l.foldl (fun s d => State.restartDrive s d) s) := by
  induction l generalizing s with
  | nil => exact .refl a s
  | cons b l ih =>
    obtain ⟨hb, hl⟩ := not_or.1 (List.mem_cons.not.1 ha)
    exact (restartDrive_bystander hr hb).trans (ih hl (restartDrive_allReset hr b))

end RestartDrive

/-! #### Desks and drives (R193) -/

/-- Desks reset and drives restarted; the pages and the sequencer come after. -/
def State.drivesRestarted (s : State) : State := allDrives.foldl (fun s d => State.restartDrive s d) s.desksReset

theorem restartParts_eq (s : State) :
    s.restartParts = (s.drivesRestarted.setPool s.drivesRestarted.pool.restarted).setSequencer none := rfl

section DrivesRestarted
variable {a : DriveNo} {p : Pass} {r : SectorRequest} {s : State}

/-- One drive's part of the RESTART, with what comes before and after it. -/
theorem drivesRestarted_at (s : State) (a : DriveNo) :
    ∃ u, u.AllReset ∧ Beyond a s u ∧ Bystander a (u.restartDrive a) s.drivesRestarted := by
  have hmem : a ∈ allDrives := by decide +revert
  obtain ⟨before, after, hsplit⟩ := List.append_of_mem hmem
  have hnodup : (before ++ a :: after).Nodup := hsplit ▸ (by decide : allDrives.Nodup)
  obtain ⟨hnot, _⟩ := List.nodup_cons.1 (List.nodup_middle.1 hnodup)
  obtain ⟨hbefore, hafter⟩ := not_or.1 (List.mem_append.not.1 hnot)
  obtain ⟨hreset, _⟩ := restartDrives_allReset before (desksReset_allReset s)
  have hbystander := restartDrives_bystander before hbefore (desksReset_allReset s)
  refine ⟨_, hreset, (beyond_desksReset a s).trans hbystander.beyond, ?_⟩
  unfold State.drivesRestarted
  rw [hsplit, List.foldl_append, List.foldl_cons]
  exact restartDrives_bystander after hafter (restartDrive_allReset hreset a)

theorem drivesRestarted_waitList (s : State) : s.drivesRestarted.channel.waitList = [] := by
  refine List.eq_nil_iff_forall_not_mem.2 fun x hx => ?_
  obtain ⟨u, hreset, _, hbystander⟩ := drivesRestarted_at s x.1
  exact restartDrive_waitList hreset x (hbystander.beyond.channel.waitList x hx) rfl

theorem drivesRestarted_outlives (s : State) : s.Outlives s.drivesRestarted :=
  (desksReset_outlives s).trans (restartDrives_allReset allDrives (desksReset_allReset s)).2

theorem drivesRestarted_desks (s : State) (e : Desk) : s.drivesRestarted.desks[e] = .clear :=
  (restartDrives_allReset allDrives (desksReset_allReset s)).1.desks e

/-- A drive that is not DISABLED has lost its image and its handles. -/
theorem drivesRestarted_empties (hd : s.drives[a].state ≠ .disabled) :
    s.drivesRestarted.images[a] = none ∧ ∀ e n, (s.drivesRestarted.handle e n).openOn a = false := by
  obtain ⟨u, hreset, hbefore, hafter⟩ := drivesRestarted_at s a
  rw [← hbefore.drive] at hd
  obtain ⟨himage, hhandles⟩ := restartDrive_empties hreset hd
  refine ⟨hafter.images.trans himage, fun e n => ?_⟩
  rcases hafter.handles e n with heq | heq <;> rw [heq]
  · rfl
  · rw [hhandles]
    exact lostOn_not_openOn ..

/-- What RESTART leaves of a drive without a pass to finish. -/
structure Stopped (a : DriveNo) (x : DriveUnit) (s t : State) : Prop where
  sched : t.scheds[a] = .idle
  drive : t.drives[a] = x
  grant : t.channel.grant ≠ some a
  pass : ∀ p, t.channel.pass = some p → p.drive ≠ a
  headSelect : t.channel.headSelect = s.channel.headSelect
  quiet : ∀ p, s.channel.pass = some p → p.drive = a → t.channel.writeGate = false ∧ t.channel.writeData = .none

theorem Idled.stopped {x : DriveUnit} {u v t : State} (hbefore : Beyond a s u) (h : Idled a x u v) (hafter : Beyond a v t) :
    Stopped a x s t where
  sched := by
    have hidle : v.scheds[a] = .idle := by
      rw [h.scheds]
      exact setSched_scheds_self u a .idle
    exact Scheduler.Recedes.eq_idle (hidle ▸ hafter.sched)
  drive := by
    rw [hafter.drive, h.drives]
    exact setDrive_drives_self u a x
  grant hg := by
    rw [hafter.channel.grant, h.channel] at hg
    exact without_grant_ne _ _ hg
  pass p hp hpa := by
    obtain ⟨q, hq, hqa⟩ := hafter.channel.of_pass p hp hpa
    rw [h.channel] at hq
    exact without_pass_ne _ _ hq hqa
  headSelect := by
    rw [hafter.channel.headSelect, h.channel]
    exact hbefore.channel.headSelect
  quiet p hp hpa := by
    obtain ⟨_, _, w, hpass⟩ := hbefore.channel.pass p hp hpa
    have hany : u.channel.pass.any (fun q => q.drive == a) = true := by
      rw [hpass, Option.any_some]
      exact beq_iff_eq.2 hpa
    refine hafter.channel.quiet ?_ ?_ <;> rw [h.channel, Channel.without, hany] <;> rfl

theorem stopped_of_disabled (hd : s.drives[a].state = .disabled) :
    Stopped a (s.drives[a].restartedIn .disabled) s s.drivesRestarted := by
  obtain ⟨u, hreset, hbefore, hafter⟩ := drivesRestarted_at s a
  rw [← hbefore.drive] at hd ⊢
  rw [restartDrive_of_disabled hd] at hafter
  exact Idled.stopped hbefore (restartDisabled_idled u a) hafter.beyond

theorem State.Outlives.settings {s t : State} (h : s.Outlives t) : t.settings = s.settings := by
  unfold State.Outlives at h
  rw [h]

theorem stopped_of_nothing_to_finish (hd : s.drives[a].state ≠ .disabled) (hn : s.NothingToFinish a) :
    Stopped a (s.drives[a].restarted s.settings[a].autoMount) s s.drivesRestarted := by
  obtain ⟨u, hreset, hbefore, hafter⟩ := drivesRestarted_at s a
  have hnone : u.NothingToFinish a := fun q r hq hqa => by
    obtain ⟨p, hp, hpa⟩ := hbefore.passOf hq hqa
    exact hn p r hp hpa
  rw [← hbefore.drive] at hd ⊢
  rw [restartDrive_of_nothing_to_finish hd hnone] at hafter
  rw [← hbefore.outlives.settings]
  exact Idled.stopped hbefore (restartTorn_idled hreset) hafter.beyond

/-- Every drive is stopped when no drive that is in use has a pass to finish. -/
theorem stopped_of_no_pass (hn : s.drives[a].state = .disabled ∨ s.NothingToFinish a) : ∃ x, Stopped a x s s.drivesRestarted := by
  by_cases hd : s.drives[a].state = .disabled
  · exact ⟨_, stopped_of_disabled hd⟩
  · exact ⟨_, stopped_of_nothing_to_finish hd (hn.resolve_left hd)⟩

/-- Work that recedes around a request in its pass, its work list emptied on the way. -/
theorem Scheduler.Recedes.emptied {x y z : Scheduler} (h : x.Recedes y) (hx : x.inHand = some ⟨r, .passing⟩)
    (k : ({ y with workList := [] } : Scheduler).Recedes z) : z = { x with workList := [] } := by
  have hhand : z.inHand = x.inHand := (k.passing (h.passing hx)).trans hx.symm
  have hrun : z.runLength = x.runLength := k.runLength.trans h.runLength
  have hwork : z.workList = [] := List.eq_nil_iff_forall_not_mem.2 fun r hr => List.not_mem_nil (k.workList r hr)
  obtain ⟨work, hand, run⟩ := z
  cases hhand
  cases hrun
  cases hwork
  rfl

/-- What RESTART leaves of a drive whose WRITE-VERIFY pass goes on. -/
structure Finishing (p : Pass) (r : SectorRequest) (s t : State) : Prop where
  sched : t.scheds[p.drive] = { s.scheds[p.drive] with workList := [] }
  drive : t.drives[p.drive] = s.drives[p.drive].runningOn
  headSelect : t.channel.headSelect = s.channel.headSelect
  writeGate : t.channel.writeGate = s.channel.writeGate
  writeData : t.channel.writeData = s.channel.writeData
  grant : t.channel.grant = some p.drive ↔ s.channel.grant = some p.drive
  pass : ∃ w, t.channel.pass = some { p with finishing := true, withdrawn := w }
  page : s.Spares p.drive r.page → t.pool.pages[r.page] = (s.pool.pages[r.page]).map HeldPage.finishing

theorem RunsOn.finishing {u v t : State} {w : Bool} (hp : s.channel.pass = some p)
    (hi : s.scheds[p.drive].inHand = some ⟨r, .passing⟩) (hbefore : Beyond p.drive s u)
    (h : RunsOn p.drive { p with withdrawn := w } r u v) (hafter : Beyond p.drive v t) : Finishing p r s t := by
  obtain ⟨hgate, hdata, _, _⟩ := hbefore.channel.pass p hp rfl
  obtain ⟨w', hpass⟩ := Channel.pass_of_core h.core.symm rfl
  obtain ⟨hgate', hdata', w'', hpass'⟩ := hafter.channel.pass _ hpass rfl
  have hhead : v.channel.core.headSelect = u.channel.headSelect := by rw [h.core]; rfl
  have hgateCore : v.channel.core.writeGate = u.channel.writeGate := by rw [h.core]; rfl
  have hdataCore : v.channel.core.writeData = u.channel.writeData := by rw [h.core]; rfl
  have hgrant : v.channel.core.grant = u.channel.grant := by rw [h.core]; rfl
  exact {
    sched := hbefore.sched.emptied hi (h.sched.trans hafter.sched)
    drive := by rw [hafter.drive, h.drive, hbefore.drive]
    headSelect := (hafter.channel.headSelect.trans hhead).trans hbefore.channel.headSelect
    writeGate := (hgate'.trans hgateCore).trans hgate
    writeData := (hdata'.trans hdataCore).trans hdata
    grant := by
      have hmiddle : v.channel.grant = some p.drive ↔ u.channel.grant = some p.drive := by rw [← hgrant]; rfl
      exact (hafter.channel.grant.trans hmiddle).trans hbefore.channel.grant
    pass := ⟨w'', hpass'⟩
    page := fun hs => by
      obtain ⟨hu, hpage⟩ := hbefore.spares _ hs
      obtain ⟨hv, hpage'⟩ := h.page hu
      obtain ⟨_, hpage''⟩ := hafter.spares _ hv
      rw [hpage'', hpage', hpage] }

theorem finishing_of_pass (hp : s.channel.pass = some p) (hi : s.scheds[p.drive].inHand = some ⟨r, .passing⟩)
    (hop : r.operation = .writeVerify) (hd : s.drives[p.drive].state ≠ .disabled) : Finishing p r s s.drivesRestarted := by
  obtain ⟨u, hreset, hbefore, hafter⟩ := drivesRestarted_at s p.drive
  obtain ⟨_, _, w, hpass⟩ := hbefore.channel.pass p hp rfl
  have hpassOf : u.passOf = some ({ p with withdrawn := w }, r) := passOf_iff.2 ⟨.passing, hpass, hbefore.sched.passing hi⟩
  rw [← hbefore.drive] at hd
  rw [restartDrive_of_pass hd hpassOf rfl hop] at hafter
  exact (restartFinishing_runsOn hreset).finishing hp hi hbefore hafter.beyond

end DrivesRestarted

end Sys2Proof.Machine
end

section
namespace Sys2Proof.Machine

/-! #### The whole RESTART (R193) -/

section Restarted
variable {s : State}

/-- The pages RESTART leaves held. -/
theorem restarted_pages (x : Pool) (p : PageNo) : x.restarted.pages[p] = finishingPage x.pages[p] := by
  simp [Pool.restarted]

theorem finishingPage_cases (x : Option HeldPage) :
    finishingPage x = none ∨ ∃ y, finishingPage x = some y ∧ y.holder = .finishingPass := by
  cases x with
  | none => exact .inl rfl
  | some x =>
    by_cases hx : x.holder = .finishingPass
    · exact .inr ⟨x, if_pos hx, hx⟩
    · exact .inl (if_neg hx)

theorem finishingPage_finishing (x : HeldPage) : finishingPage (some x.finishing) = some x.finishing := by
  rw [finishingPage]
  exact if_pos rfl

/-- A channel that no drive has. -/
theorem idle_channel {t : State} (h : ∀ a, ∃ x, Stopped a x s t) :
    t.channel.grant = none ∧ t.channel.pass = none ∧ t.channel.headSelect = s.channel.headSelect ∧
      (s.channel.pass ≠ none → t.channel.writeGate = false ∧ t.channel.writeData = .none) := by
  refine ⟨?_, ?_, ?_, fun hpass => ?_⟩
  · refine Option.eq_none_iff_forall_ne_some.2 fun a hg => ?_
    obtain ⟨_, ha⟩ := h a
    exact ha.grant hg
  · refine Option.eq_none_iff_forall_ne_some.2 fun p hp => ?_
    obtain ⟨_, ha⟩ := h p.drive
    exact ha.pass p hp rfl
  · obtain ⟨_, ha⟩ := h 0
    exact ha.headSelect
  · obtain ⟨p, hp⟩ := Option.ne_none_iff_exists'.1 hpass
    obtain ⟨_, ha⟩ := h p.drive
    exact ha.quiet p hp rfl

/-- The channel of a pass that goes on. -/
theorem finishing_channel {t : State} {p : Pass} {r : SectorRequest} (h : Finishing p r s t) (hwait : t.channel.waitList = [])
    (hothers : ∀ a, a ≠ p.drive → ∃ x, Stopped a x s t) :
    ∃ w, t.channel = { s.channel with grant := if s.channel.grant = some p.drive then some p.drive else none, waitList := []
                                      pass := some { p with finishing := true, withdrawn := w } } := by
  obtain ⟨w, hpass⟩ := h.pass
  have hgrant : t.channel.grant = if s.channel.grant = some p.drive then some p.drive else none := by
    split
    next hg => exact h.grant.2 hg
    next hg =>
      refine Option.eq_none_iff_forall_ne_some.2 fun a ha => ?_
      by_cases hap : a = p.drive
      · exact hg (h.grant.1 (hap ▸ ha))
      · obtain ⟨_, hstopped⟩ := hothers a hap
        exact hstopped.grant ha
  refine ⟨w, ?_⟩
  have hhead := h.headSelect
  have hgate := h.writeGate
  have hdata := h.writeData
  generalize t.channel = c at hgrant hwait hpass hhead hgate hdata ⊢
  obtain ⟨grant, waitList, pass, headSelect, writeGate, writeData⟩ := c
  cases hgrant
  cases hwait
  cases hpass
  cases hhead
  cases hgate
  cases hdata
  rfl

/-- A pass on one drive is nothing to finish for another. -/
theorem nothingToFinish_of_ne {p : Pass} {a : DriveNo} (hp : s.channel.pass = some p) (hne : a ≠ p.drive) : s.NothingToFinish a := by
  intro q r hq hqa
  obtain ⟨_, hq, _⟩ := passOf_iff.1 hq
  cases hp.symm.trans hq
  exact absurd hqa.symm hne

/-- A page that no list and no handle names but the request in the pass. -/
theorem spares_of_pass {d : DriveNo} {r : SectorRequest} (hi : s.scheds[d].inHand = some ⟨r, .passing⟩)
    (hwork : ∀ e : DriveNo, r.page ∉ (s.scheds[e].workList).map SectorRequest.page)
    (hhand : ∀ (e : DriveNo) q phase, e ≠ d → s.scheds[e].inHand = some ⟨q, phase⟩ → q.page ≠ r.page)
    (hreads : ∀ e h x, s.handle e h = .reading x → .reading r.page ∉ x.table ∧ .present r.page ∉ x.table)
    (hwrites : ∀ e h x, s.handle e h = .writing x → .filling r.page ∉ x.table ∧ .writing r.page ∉ x.table) : s.Spares d r.page where
  work e x hx hpage := hwork e (hpage ▸ List.mem_map_of_mem hx)
  hand e i he hpage := by
    by_cases hed : e = d
    · subst hed
      rw [hi] at he
      cases he
      exact ⟨rfl, rfl⟩
    · exact absurd hpage (hhand e i.request i.phase hed he)
  handles e n hn := by
    cases hh : s.handle e n with
    | reading x =>
      obtain ⟨hnot, hnot'⟩ := hreads e n x hh
      rw [hh] at hn
      exact hn.elim hnot hnot'
    | writing x =>
      obtain ⟨hnot, hnot'⟩ := hwrites e n x hh
      rw [hh] at hn
      exact hn.elim hnot hnot'
    | free | lost => rw [hh] at hn; exact hn

theorem State.Outlives.fields {t : State} (h : s.Outlives t) :
    t.lines = s.lines ∧ t.settings = s.settings ∧ t.deskSettings = s.deskSettings ∧ t.driveTallies = s.driveTallies ∧
      t.deskTallies = s.deskTallies ∧ t.seq = s.seq ∧ t.tick = s.tick ∧ t.pending = s.pending := by
  unfold State.Outlives at h
  rw [h]
  exact ⟨rfl, rfl, rfl, rfl, rfl, rfl, rfl, rfl⟩

theorem Finishing.restarted_page {t : State} {p : Pass} {r : SectorRequest} (h : Finishing p r s t) (hs : s.Spares p.drive r.page)
    {x : HeldPage} (hx : s.pool.pages[r.page] = some x) : t.pool.restarted.pages[r.page] = some x.finishing := by
  rw [restarted_pages, h.page hs, hx, Option.map_some, finishingPage_finishing]

end Restarted

/-- Settles O27: every act of RESTART on a desk or a drive leaves the other drives' place at the channel, so each drive's part may be
seen between what comes before and after it. -/
theorem restartResetsDesksAndDrives : Obligations.RestartResetsDesksAndDrives := by
  unfold Obligations.RestartResetsDesksAndDrives
  intro desk s hl
  refine ⟨_, exec_restart hl, ?_⟩
  obtain ⟨lines, desks, hreply⟩ : ∃ lines desks, s.done desk 0x67 noFlags [] .clear = { s with lines := lines, desks := desks } :=
    ⟨_, _, rfl⟩
  rw [hreply, restartParts_eq]
  set v : State := { s with lines := lines, desks := desks }
  have hempties (d : DriveNo) (hd : s.drives[d].state ≠ .disabled) := drivesRestarted_empties (s := v) hd
  have hstopped (a : DriveNo) (hn : s.drives[a].state = .disabled ∨ s.NothingToFinish a) := stopped_of_no_pass (s := v) hn
  have hwait := drivesRestarted_waitList v
  have hdesks := drivesRestarted_desks v
  obtain ⟨hlines, hrest⟩ := (drivesRestarted_outlives v).fields
  have hdisabled (d : DriveNo) (hd : s.drives[d].state = .disabled) := stopped_of_disabled (s := v) hd
  have hunfinished (d : DriveNo) (hd : s.drives[d].state ≠ .disabled) (hn : s.NothingToFinish d) :=
    stopped_of_nothing_to_finish (s := v) hd hn
  have hpass (p : Pass) (r : SectorRequest) (hp : s.channel.pass = some p) (hi : s.scheds[p.drive].inHand = some ⟨r, .passing⟩)
      (hop : r.operation = .writeVerify) (hd : s.drives[p.drive].state ≠ .disabled) :=
    finishing_of_pass (s := v) hp hi hop hd
  generalize v.drivesRestarted = w at *
  refine ⟨hlines, hdesks, fun d hd => (hdisabled d hd).drive, fun d hd => ?_, fun p => ?_, rfl, rfl, rfl, hwait, fun hn => ?_,
    fun p r hp hi hop hd => ?_, hrest⟩
  · obtain ⟨himage, hhandles⟩ := hempties d hd
    refine ⟨himage, hhandles, fun hn => ?_⟩
    have hidle := hunfinished d hd hn
    have hsched : w.scheds[d] = .idle := hidle.sched
    exact ⟨congrArg Scheduler.workList hsched, congrArg Scheduler.inHand hsched, hidle.drive⟩
  · have hpage := finishingPage_cases w.pool.pages[p]
    rw [← restarted_pages] at hpage
    exact hpage
  · have hall (a : DriveNo) : ∃ x, Stopped a x v w := by
      refine hstopped a (or_iff_not_imp_right.2 fun hnot => ?_)
      simp only [State.NothingToFinish, not_forall, not_not] at hnot
      obtain ⟨p, r, hp, hpa, hop⟩ := hnot
      exact hpa ▸ hn p r hp hop
    obtain ⟨hgrant, hnone, hhead, hquiet⟩ := idle_channel hall
    refine ⟨hgrant, hnone, hhead, hquiet, fun d => ?_⟩
    obtain ⟨_, hd⟩ := hall d
    exact hd.sched
  · have hothers (a : DriveNo) (hne : a ≠ p.drive) := hstopped a (.inr (nothingToFinish_of_ne hp hne))
    have hfin := hpass p r hp hi hop hd
    refine ⟨finishing_channel (s := v) (t := w) hfin hwait hothers, hfin.sched, fun e hne => ?_, hfin.drive,
      fun hwork hhand hreads hwrites x hx => ?_⟩
    · obtain ⟨_, he⟩ := hothers e hne
      exact he.sched
    · exact hfin.restarted_page (spares_of_pass (s := v) hi hwork hhand hreads hwrites) hx

end Sys2Proof.Machine
end
